-- ==== Sys2Proof/Word.lean ====
section
/-! DEFINITION. The byte of the link frame and of the probe reading block. Every other quantity of the manual is a
whole number with a range (01 section 1.1), so it is a Nat or an Int. -/

namespace Sys2Proof

/-- One character's eight data bits (R160), one byte of a frame (R170). -/
abbrev Byte := BitVec 8

end Sys2Proof
end

