-- ==== Sys2Proof/Config.lean ====
section
/-! DEFINITION. What the part fixes: its capacities and its numeric bounds. The manual leaves no value open that a
command computes with, so there is no free value here. -/

namespace Sys2Proof.Config

/-- R20: the register holds at most 256 vehicle records. -/
abbrev maxVehicles : Nat := 256
/-- R149: the journal store holds 1,024 slots. -/
abbrev journalSlots : Nat := 1024
/-- R149: the least and the greatest issue span. -/
abbrev minIssueSpan : Nat := 16
abbrev maxIssueSpan : Nat := 1008
/-- 10, head table: the queues' capacities in frames. -/
abbrev yardRxCap : Nat := 8
abbrev yardTxCap : Nat := 8
abbrev trunkRxCap : Nat := 4
abbrev trunkTxCap : Nat := 6
/-- R161, R170: the longest payload. -/
abbrev maxPayload : Nat := 56
/-- R15: the bound of the issue accumulators, 2^40 - 1. -/
abbrev accMax : Nat := 1099511627775
/-- R17: the bound of the book, 10^15. -/
abbrev bookMax : Int := 1000000000000000
/-- R16: litres of a totalizer run modulo this. -/
abbrev totalizerModulus : Nat := 1000000000
/-- R22: allowance used saturates here. -/
abbrev allowanceUsedMax : Nat := 999999999
/-- R39: the bound of a counter's remaining. -/
abbrev remainingMax : Int := 99999999
/-- R43: the greatest hours reading. -/
abbrev hoursMax : Nat := 9999999
/-- R92: the unassigned volume above which the bay is faulted, in microlitres. -/
abbrev unassignedLimit : Nat := 2000000
/-- Microlitres in a litre and in a centilitre (R1, R14). -/
abbrev microPerLitre : Nat := 1000000
abbrev microPerCl : Nat := 10000
/-- R6: the correction factor at 15.0 degrees, parts per ten million. -/
abbrev unityFactor : Int := 10000000
/-- 00, Conventions; R151, R172: a 32-bit count continues from zero. -/
abbrev wrap32 : Nat := 4294967296
/-- Tally count, overwrite count and forward-drop count saturate here (05 section 5.2, R149, R166). -/
abbrev count16Max : Nat := 65535
/-- R117: the wait before a retry, in milliseconds. -/
abbrev retryWaitMs : Nat := 50
/-- R69: a refusal is coalesced while the newest is younger than this, in seconds. -/
abbrev coalesceSeconds : Nat := 60
/-- R65: the least grant limit, in litres. -/
abbrev minGrant : Nat := 5
/-- R52: the least net that uses the limp, in centilitres. -/
abbrev limpUseCl : Nat := 100
/-- 00, Connections; R160: the oscillators, in hertz. -/
abbrev mainOscillator : Nat := 14745600
abbrev watchOscillator : Nat := 1228800

end Sys2Proof.Config
end

