-- ==== Sys2Proof/Syntax.lean ====
section
/-! DEFINITION. The commands of the block: one constructor for each row of opcode_table.json. A command is an event
of the part (00, Events). A command that takes a frame reads the frame at the head of a receive queue (R164, R165),
so its operands are that frame's bytes and the constructor carries none. -/

namespace Sys2Proof

/-- The two serial ports (10). -/
inductive PortId
  | yard
  | trunk
  deriving DecidableEq, Repr

/-- The four bays (00, Indices). -/
inductive BayId
  | b1
  | b2
  | b3
  | b4
  deriving DecidableEq, Repr

/-- The two tanks (00, Indices). -/
inductive TankId
  | t1
  | t2
  deriving DecidableEq, Repr

/-- One received character: its data bits, whether its parity was wrong, whether its stop bit was missing (R160, R161). -/
structure RxChar where
  data : Byte
  parityError : Bool
  stopMissing : Bool
  deriving DecidableEq, Repr

/-- The two ends of a transmission: the free transmitter takes a frame and begins it, or the last character of the
frame in progress has been sent (R95, R162). -/
inductive SendPart
  | take
  | last
  deriving DecidableEq, Repr

/-- How far a warm start reaches before main power is lost again (R181): the whole of it, or its first parts only. Its parts
in order are the straps, ports and bus; the WARM START event; the leaving of WATCH; each of the bays 1 to 4; the valve
order slots. The Probe Bus Controller's part, the last, makes it whole. -/
inductive StartReach
  | whole
  | cut (done : Fin 9)
  deriving DecidableEq, Repr

/-- A warm start: the strap reading at it (R169), and how far it reaches. -/
structure StartRun where
  straps : Byte
  reach : StartReach
  deriving DecidableEq, Repr

/-- The phases of a census transaction whose acknowledge bit the controller checks (R116, R117). -/
inductive AckPhase
  | p2
  | p3
  | p5
  deriving DecidableEq, Repr

/-- The eight data bytes of phase 6 of a census transaction (R116, R170). -/
structure ReadingBlock where
  b0 : Byte
  b1 : Byte
  b2 : Byte
  b3 : Byte
  b4 : Byte
  b5 : Byte
  b6 : Byte
  b7 : Byte
  deriving DecidableEq, Repr

/-- The commands, in the table's order. -/
inductive Instr
  /-- COLD_START (R180): a start with the retention mark absent; the straps read as given. -/
  | coldStart (straps : Byte)
  /-- WARM_START (R181): a start with the retention mark present; the straps read as given, and how far it reaches. -/
  | warmStart (start : StartRun)
  /-- MAIN_POWER_LOSS (R180). -/
  | mainPowerLoss
  /-- POD_CLOCK_TICK (R172). -/
  | podClockTick
  /-- FRAME_RECEIVE (R161): the port's receiver takes these characters. -/
  | frameReceive (port : PortId) (chars : List RxChar)
  /-- CHARACTER_GAP_TIMEOUT (R161). -/
  | characterGapTimeout (port : PortId)
  /-- RATE_SETTING_APPLIED (R160). -/
  | rateSettingApplied (port : PortId)
  /-- TRANSMIT_FRAME (R162). -/
  | transmitFrame (port : PortId) (part : SendPart)
  /-- TAG (R59). -/
  | tag
  /-- TALLY (R101). -/
  | tally
  /-- VALVE_STATUS (R110). -/
  | valveStatus
  /-- STATION_DATA (R165). -/
  | stationData
  /-- PASS_THROUGH (R166): from the named port's receive queue to the other port. -/
  | passThrough (port : PortId)
  /-- FRAME_DROP (R164, R165): from the named port's receive queue. -/
  | frameDrop (port : PortId)
  /-- ARM_TIMER_EXPIRY (R80). -/
  | armTimerExpiry (bay : BayId)
  /-- NO_FLOW_TIMER_EXPIRY (R82). -/
  | noFlowTimerExpiry (bay : BayId)
  /-- GAP_TIMER_EXPIRY (R82). -/
  | gapTimerExpiry (bay : BayId)
  /-- CLOSE_TIMER_EXPIRY (R84). -/
  | closeTimerExpiry (bay : BayId)
  /-- DRAIN_TIMER_EXPIRY (R88). -/
  | drainTimerExpiry (bay : BayId)
  /-- CENSUS_TIMER_EXPIRY (R119). -/
  | censusTimerExpiry
  /-- SETTLE_TIMER_EXPIRY (R123). -/
  | settleTimerExpiry (tank : TankId)
  /-- WINDOW_TIMER_EXPIRY (R144). -/
  | windowTimerExpiry (tank : TankId)
  /-- WATCH_DELAY_TIMER_EXPIRY (R177). -/
  | watchDelayTimerExpiry
  /-- RETRY_WAIT_EXPIRY (R117). -/
  | retryWaitExpiry
  /-- ACK_ERROR (R117): no acknowledge in the named phase. -/
  | ackError (phase : AckPhase)
  /-- CENSUS_TRANSACTION (R122): phase 7 is complete with these data bytes. -/
  | censusTransaction (data : ReadingBlock)
  /-- FLEET_PUT (R27 to R30). -/
  | fleetPut
  /-- FLEET_DELETE (R31). -/
  | fleetDelete
  /-- CLASS_SET (R26). -/
  | classSet
  /-- BAY_SET (R76). -/
  | baySet
  /-- TANK_SET (R131). -/
  | tankSet
  /-- STRAP_SET (R125, R126). -/
  | strapSet
  /-- POD_SET (R173). -/
  | podSet
  /-- POD_START (R175). -/
  | podStart
  /-- POD_SUSPEND (R176). -/
  | podSuspend
  /-- POD_RESUME (R176). -/
  | podResume
  /-- POD_RESET (R182). -/
  | podReset
  /-- TIME_SET (R172). -/
  | timeSet
  /-- SHIFT_ROLL (R34). -/
  | shiftRoll
  /-- BAY_STOP (R90). -/
  | bayStop
  /-- BAY_RELEASE (R89). -/
  | bayRelease
  /-- SERVICE_DONE (R54). -/
  | serviceDone
  /-- TANK_CLEAR (R138). -/
  | tankClear
  /-- STOCK_SET (R133). -/
  | stockSet
  /-- DELIVERY_OPEN (R140). -/
  | deliveryOpen
  /-- DELIVERY_CLOSE (R142). -/
  | deliveryClose
  /-- DELIVERY_ABORT (R145). -/
  | deliveryAbort
  /-- CENSUS_NOW (R127). -/
  | censusNow
  /-- JOURNAL_LAYOUT (R150). -/
  | journalLayout
  /-- JOURNAL_RELEASE (R157). -/
  | journalRelease
  /-- LINK_CLEAR (R168). -/
  | linkClear
  /-- POD_STATUS (R179). -/
  | podStatus
  /-- BAY_STATUS (R97). -/
  | bayStatus
  /-- TANK_STATUS (R147). -/
  | tankStatus
  /-- FLEET_GET (R32). -/
  | fleetGet
  /-- FLEET_NEXT (R33). -/
  | fleetNext
  /-- JOURNAL_READ (R156). -/
  | journalRead
  /-- LINK_STATUS (R168). -/
  | linkStatus
  /-- BACKUP_SUPPLY_LOSS (R180). -/
  | backupSupplyLoss
  /-- START_CHARACTER (R161): a start character A5 hex arrives; whether its parity was wrong. -/
  | startCharacter (port : PortId) (parityError : Bool)
  deriving DecidableEq, Repr

end Sys2Proof
end

