-- ==== Sys2Proof/Decode.lean ====
section
/-! DEFINITION. The table gives no bits for any command (spec/98: n_rows_with_fields 0), so no word spells one. -/

namespace Sys2Proof

/-- The command a word spells by the table's bits: none, as no row of opcode_table.json gives bits. -/
def decodeTableWord (_nbits _w : Nat) : Option Instr := none

end Sys2Proof
end

