-- ==== Sys2Proof/Machine/State.lean ====
section
/-! DEFINITION. The state of the part, block by block (00, Block diagram), as plain data, and its value after a cold
start. Volumes are in microlitres, timers in milliseconds remaining, temperatures in tenths of a degree, levels in
tenths of a millimetre (00, Units). -/

namespace Sys2Proof.Machine

/-! ## Shapes shared by blocks -/

/-- One value for each bay. -/
structure PerBay (α : Type) where
  b1 : α
  b2 : α
  b3 : α
  b4 : α
  deriving DecidableEq, Repr

/-- One value for each tank. -/
structure PerTank (α : Type) where
  t1 : α
  t2 : α
  deriving DecidableEq, Repr

/-- A pod clock reading with its clock-unset mark (R172). -/
structure Stamp where
  time : Nat
  unset : Bool
  deriving DecidableEq, Repr

/-- A timer: stopped, or running with the milliseconds it has left (R77). -/
abbrev Timer := Option Nat

/-! ## Fleet Register (02, 03) -/

/-- The basis of a service counter (R23, R38). -/
inductive Basis
  | hours
  | fuel
  deriving DecidableEq, Repr

/-- One service counter (02 section 2.2, R23). -/
structure Counter where
  code : Nat
  basis : Basis
  interval : Nat
  grace : Nat
  remaining : Int
  deriving DecidableEq, Repr

/-- The standing of a counter, in rising order (R39). -/
inductive CounterStanding
  | clear
  | due
  | overdue
  deriving DecidableEq, Repr

/-- The service standing of a vehicle (R41). -/
inductive VehicleStanding
  | clear
  | due
  | overdue
  | locked
  deriving DecidableEq, Repr

/-- The status setting of a vehicle (R21). -/
inductive VehicleStatus
  | active
  | barred
  deriving DecidableEq, Repr

/-- The allowance with the allowance used in the current period (R22): one is present exactly when the other is. -/
structure Allowance where
  litres : Nat
  usedCl : Nat
  deriving DecidableEq, Repr

/-- One vehicle record (02 section 2.2). -/
structure Vehicle where
  tag : Nat
  unit : Nat
  cls : Fin 16
  priority : Fin 4
  status : VehicleStatus
  fillCeiling : Nat
  permitted : Option (PerBay Bool)
  allowance : Option Allowance
  counters : List Counter
  limpUsed : Bool
  lastHours : Option Nat
  armedAt : Option BayId
  lastIssue : Option Stamp
  deriving DecidableEq, Repr

/-- The settings of a service counter (R23), which FLEET PUT carries. -/
structure CounterSettings where
  code : Nat
  basis : Basis
  interval : Nat
  grace : Nat
  deriving DecidableEq, Repr

/-- The settings of a vehicle record beside its tag (R21 to R23), which FLEET PUT carries; the allowance in litres. -/
structure VehicleSettings where
  unit : Nat
  cls : Fin 16
  priority : Fin 4
  status : VehicleStatus
  fillCeiling : Nat
  permitted : Option (PerBay Bool)
  allowance : Option Nat
  counters : List CounterSettings
  deriving DecidableEq, Repr

/-- One entry of the class table (R25). -/
structure ClassEntry where
  limpAllotment : Nat
  hourCeiling : Nat
  deriving DecidableEq, Repr

/-! ## Bay Sequencers (05) -/

/-- The settings of a bay (R75); max flow is held in mL/s. -/
structure BaySettings where
  enabled : Bool
  tank : TankId
  meterFactor : Nat
  maxFlow : Nat
  slowBand : Nat
  closeLead : Nat
  armTime : Nat
  noFlowTime : Nat
  gapTime : Nat
  closeTime : Nat
  drainTime : Nat
  afterRunLimit : Nat
  deriving DecidableEq, Repr

/-- The state of a bay (05 section 5.2). -/
inductive BayState
  | disabled
  | idle
  | granted
  | flowing
  | trimming
  | closing
  | draining
  | faulted
  deriving DecidableEq, Repr

/-- The reason that set a grant's limit (R63). -/
inductive LimitReason
  | fillCeiling
  | allowance
  | ration
  | limp
  | stock
  deriving DecidableEq, Repr

/-- The service notice of a grant (R51). -/
inductive ServiceNotice
  | noNotice
  | due
  | limp
  deriving DecidableEq, Repr

/-- The grant copy (R67). -/
structure GrantCopy where
  tag : Nat
  unit : Nat
  limit : Nat
  reason : LimitReason
  limp : Bool
  notice : ServiceNotice
  hours : Option Nat
  tank : TankId
  start : Stamp
  deriving DecidableEq, Repr

/-- The flags of a bay context (05 section 5.2). -/
structure IssueFlags where
  uncompensated : Bool
  tempClamped : Bool
  saturated : Bool
  overspeed : Bool
  afterRun : Bool
  valve : Bool
  meter : Bool
  deriving DecidableEq, Repr

/-- The eleven close causes (R153). -/
inductive CloseCause
  | limit
  | noFlow
  | nozzle
  | site
  | meterSilent
  | meterFault
  | overspeed
  | tank
  | valve
  | armTimeout
  | interrupted
  deriving DecidableEq, Repr

/-- The fault causes of a BAY FAULT event (R87). -/
inductive BayFaultCause
  | overspeed
  | meterFault
  | valve
  | afterRun
  deriving DecidableEq, Repr

/-- A valve order (R94). -/
inductive ValveOrder
  | shut
  | slow
  | full
  deriving DecidableEq, Repr

/-- A reported valve position (R110). -/
inductive ValvePosition
  | shut
  | slow
  | full
  | moving
  deriving DecidableEq, Repr

/-- A reported health or meter status (R100, R110). -/
inductive Health
  | ok
  | faulty
  deriving DecidableEq, Repr

/-- A nozzle state (R100). -/
inductive Nozzle
  | stowed
  | lifted
  deriving DecidableEq, Repr

/-- A valve order slot: the latest order and its pending mark (R94). -/
structure Slot where
  order : ValveOrder
  pending : Bool
  deriving DecidableEq, Repr

/-- The latest report of a valve unit (R110). -/
structure ReportedValve where
  position : ValvePosition
  health : Health
  deriving DecidableEq, Repr

/-- A lifetime totalizer: whole litres and the remainder in microlitres (R16). -/
structure Totalizer where
  litres : Nat
  micro : Nat
  deriving DecidableEq, Repr

/-- One bay: its settings and its context (05 sections 5.1 and 5.2). -/
structure Bay where
  settings : BaySettings
  state : BayState
  grant : Option GrantCopy
  gross : Nat
  net : Nat
  closing : Nat
  sumTG : Int
  sumG : Nat
  heldTemp : Option Int
  flow : Nat
  seeded : Bool
  tallyCount : Nat
  flags : IssueFlags
  cause : Option CloseCause
  shutSeen : Bool
  armTimer : Timer
  noFlowTimer : Timer
  gapTimer : Timer
  closeTimer : Timer
  drainTimer : Timer
  unassigned : Nat
  slot : Slot
  reported : Option ReportedValve
  grossTotal : Totalizer
  netTotal : Totalizer
  deriving DecidableEq, Repr

/-! ## Probe Bus Controller (07) -/

/-- The purpose of a census (R119). -/
inductive Purpose
  | periodic
  | pre
  | post
  | onRequest
  deriving DecidableEq, Repr

/-- The outcome of a census (R118). -/
inductive CensusOutcome
  | ok
  | failed
  | overRange
  deriving DecidableEq, Repr

/-- The attempt of a census in flight (R117). -/
inductive Attempt
  | first
  | retry
  deriving DecidableEq, Repr

/-- The decoded fields of a reading, clamped (R118). -/
structure Reading where
  level : Nat
  temp : Int
  water : Nat
  deriving DecidableEq, Repr

/-- Gauged gross and gauged net, in microlitres; present together (R19). -/
structure Volumes where
  gross : Nat
  net : Int
  deriving DecidableEq, Repr

/-- The census result record (R122). -/
structure CensusResult where
  tank : TankId
  time : Stamp
  purpose : Purpose
  outcome : CensusOutcome
  reading : Option Reading
  volumes : Option Volumes
  still : Bool
  deriving DecidableEq, Repr

/-- The census in flight (R121). `wait` runs while the 50 ms of R117 are waited out; otherwise the bus is busy. -/
structure CensusInFlight where
  tank : TankId
  purpose : Purpose
  attempt : Attempt
  wait : Timer
  address : Nat
  stillAtStart : Bool
  own : Bool
  deriving DecidableEq, Repr

/-- What the controller keeps for one tank (07 head). -/
structure ProbeTank where
  want : Option Purpose
  failures : Nat
  settle : Timer
  deriving DecidableEq, Repr

/-- What the controller drives on the probe bus (R116, R117). -/
inductive BusAct
  /-- Nine clocks with the data line released (R117). -/
  | nineClocks
  | start
  /-- The probe address with direction write (phase 2). -/
  | addressWrite (address : Nat)
  /-- The register index (phase 3). -/
  | index (register : Nat)
  | repeatedStart
  /-- The probe address with direction read (phase 5). -/
  | addressRead (address : Nat)
  /-- Data bytes taken, each acknowledged but the last (phase 6). -/
  | readBytes (count : Nat)
  | stop
  deriving DecidableEq, Repr

/-- The gauge state of a tank (R124). -/
inductive Gauge
  | unstrapped
  | ok
  | faulty
  | lost
  deriving DecidableEq, Repr

/-- The Probe Bus Controller (07). `busActs` is the model's own record of what the controller has driven on the bus
since the latest start, oldest first (log 25). -/
structure Probe where
  tanks : PerTank ProbeTank
  inFlight : Option CensusInFlight
  lastServed : TankId
  censusTimer : Nat
  busActs : List BusAct
  deriving DecidableEq, Repr

/-! ## Tank accounts (08) -/

/-- The settings of a tank (R130). -/
structure TankSettings where
  capacity : Nat
  expansion : Nat
  rationLevel : Nat
  reserveLevel : Nat
  reservePriority : Fin 4
  rationPercent : Nat
  tolerance : Nat
  holdEnable : Bool
  waterLimit : Nat
  probeAddress : Nat
  settleTime : Nat
  deriving DecidableEq, Repr

/-- The stock standing of a tank (R134). -/
inductive TankStanding
  | normal
  | ration
  | reserve
  | empty
  deriving DecidableEq, Repr

/-- One point of a strapping table: level and whole litres (01 section 1.10). -/
structure StrapPoint where
  level : Nat
  litres : Nat
  deriving DecidableEq, Repr

/-- A strapping table with its load state (R125). -/
inductive Strapping
  | empty
  | loading (points : List StrapPoint)
  | complete (points : List StrapPoint)
  deriving DecidableEq, Repr

/-- The phase of a delivery (R139). -/
inductive DeliveryPhase
  | awaitingPre
  | opened
  | completing
  deriving DecidableEq, Repr

/-- A delivery record (R139). The expected purpose follows from the phase. -/
structure Delivery where
  phase : DeliveryPhase
  docket : Nat
  preNet : Option Int
  window : Timer
  expired : Bool
  deriving DecidableEq, Repr

/-- One tank account (08 head). RECEIVING is set exactly while `delivery` is present (R139). -/
structure Tank where
  settings : TankSettings
  book : Int
  stockSet : Bool
  standing : TankStanding
  varianceHold : Bool
  waterHold : Bool
  strikes : Nat
  latestVariance : Option Int
  latestCensus : Option CensusResult
  lastGoodTemp : Option Int
  strapping : Strapping
  delivery : Option Delivery
  deriving DecidableEq, Repr

/-! ## Pod Controller (11) -/

/-- The pod state (R174). -/
inductive PodState
  | blank
  | inService
  | watch
  | suspended
  deriving DecidableEq, Repr

/-- The kind of the latest start (R179). -/
inductive StartKind
  | cold
  | warm
  | warmByReset
  deriving DecidableEq, Repr

/-- A rate setting (R160). -/
structure Rate where
  s : Nat
  d : Nat
  deriving DecidableEq, Repr

/-- The pod settings (R173); periods and delays in seconds, the window in minutes. -/
structure PodSettings where
  censusPeriod : Nat
  watchDelay : Nat
  deliveryWindow : Nat
  yardRate : Rate
  trunkRate : Rate
  deriving DecidableEq, Repr

/-! ## Journal (09) -/

/-- The refusal codes of R68; LIMIT TOO LOW carries the reason that bound. -/
inductive RefusalCode
  | podClosed
  | bayBusy
  | bayDraining
  | bayDisabled
  | unknownTag
  | barred
  | inUse
  | bayNotPermitted
  | serviceLock
  | tankReceiving
  | tankHold
  | tankEmpty
  | reserveOnly
  | journalFull
  | limitTooLow (reason : LimitReason)
  deriving DecidableEq, Repr

/-- An issue record (R153). `flags` are those of the bay context; METER is not carried (R85). -/
structure IssueRecord where
  seq : Nat
  start : Nat
  finish : Nat
  clockUnset : Bool
  bay : BayId
  tank : TankId
  tag : Nat
  unit : Nat
  limit : Nat
  reason : LimitReason
  grossCl : Nat
  netCl : Nat
  averageTemp : Option Int
  cause : CloseCause
  uncompensated : Bool
  tempClamped : Bool
  saturated : Bool
  overspeed : Bool
  afterRun : Bool
  valve : Bool
  limp : Bool
  hours : Option Nat
  deriving DecidableEq, Repr

/-- The event kinds with their fields (R155). -/
inductive EventKind
  | refusal (bay : BayId) (tag : Nat) (code : RefusalCode)
  | service (tag : Nat) (code : Nat) (standing : CounterStanding)
  | serviceDone (tag : Nat) (code : Nat)
  | hoursRebased (tag : Nat) (old new : Nat)
  | hoursJump (tag : Nat) (applied : Nat)
  | bayFault (bay : BayId) (cause : BayFaultCause)
  | unaccountedFlow (bay : BayId) (cl : Nat)
  | variance (tank : TankId) (cl : Int)
  | water (tank : TankId) (level : Nat)
  | gaugeLost (tank : TankId)
  | gaugeRestored (tank : TankId)
  | stockStanding (tank : TankId) (standing : TankStanding)
  | stockSet (tank : TankId) (oldCl newCl : Int)
  | delivery (tank : TankId) (docket : Nat) (measuredCl varianceCl : Option Int) (expired : Bool)
  | deliveryAborted (tank : TankId)
  | podState (old new : PodState)
  | warmStart
  deriving DecidableEq, Repr

/-- An event record (R155). -/
structure EventRecord where
  seq : Nat
  time : Stamp
  kind : EventKind
  deriving DecidableEq, Repr

/-- One ring (R149): its held records, oldest first, its pointers and its next sequence. The held count is the list's
length. -/
structure Ring (α : Type) where
  records : List α
  readPtr : Nat
  writePtr : Nat
  nextSeq : Nat
  deriving DecidableEq, Repr

/-- The journal (R149). The event span is 1,024 less the issue span and the event base is the issue span. -/
structure Journal where
  issueSpan : Nat
  issues : Ring IssueRecord
  reservations : Nat
  events : Ring EventRecord
  overwrites : Nat
  deriving DecidableEq, Repr

/-- The two rings, as a ring code names them (R156). -/
inductive RingId
  | issue
  | event
  deriving DecidableEq, Repr

/-! ## Frames and replies (10, 11) -/

/-- A received frame (R170). Its length character is the payload's length; its check was found right (R161). -/
structure Frame where
  dst : Byte
  src : Byte
  kind : Byte
  payload : List Byte
  deriving DecidableEq, Repr

/-- The result of a reply (R171). -/
inductive Result
  | ok
  | busy
  | notFound
  | full
  | invalid
  | stateRefused
  deriving DecidableEq, Repr

/-- The four receive-error flags of a port (R161). -/
structure PortFlags where
  parity : Bool
  framing : Bool
  check : Bool
  overrun : Bool
  deriving DecidableEq, Repr

/-- The yard port's rate mode (R160). -/
inductive RateMode
  | run
  | watch
  deriving DecidableEq, Repr

/-- A bit rate as the exact quotient R160 gives. -/
structure BitRate where
  num : Nat
  den : Nat
  deriving DecidableEq, Repr

/-- The load state of a strapping table as a reply names it (R125). -/
inductive LoadState
  | empty
  | loading
  | complete
  deriving DecidableEq, Repr

/-- The conditions of POD START that failed (R175). -/
structure StartConditions where
  clockUnset : Bool
  noBayEnabled : Bool
  tank1NotSet : Bool
  tank2NotSet : Bool
  deriving DecidableEq, Repr

/-- What both JOURNAL replies say of a ring (R156, R157): the held count, the oldest sequence or, with the empty mark,
the next one, and the ring's own count, reservations or overwrites; and the overwrite count, which every such reply reports
(R154; DEDUCED: log 34). -/
structure RingSummary where
  held : Nat
  oldest : Nat
  empty : Bool
  aux : Nat
  overwrites : Nat
  deriving DecidableEq, Repr

/-- The running timers of a bay, in whole seconds rounded up (R77, R97). -/
structure TimerReport where
  arm : Option Nat
  noFlow : Option Nat
  gap : Option Nat
  close : Option Nat
  drain : Option Nat
  deriving DecidableEq, Repr

/-- The reply of BAY STATUS (R97). -/
structure BayReport where
  state : BayState
  tank : TankId
  timers : TimerReport
  grant : Option GrantCopy
  grossCl : Nat
  netCl : Nat
  closingCl : Nat
  remainingCl : Option Int
  tallyCount : Nat
  flow : Nat
  flags : IssueFlags
  cause : Option CloseCause
  slot : Slot
  reported : Option ReportedValve
  unassignedCl : Nat
  grossLitres : Nat
  netLitres : Nat
  deriving DecidableEq, Repr

/-- A census result as TANK STATUS gives it, its volumes in cL (R147). -/
structure CensusReport where
  tank : TankId
  time : Stamp
  purpose : Purpose
  outcome : CensusOutcome
  reading : Option Reading
  grossCl : Option Int
  netCl : Option Int
  still : Bool
  deriving DecidableEq, Repr

/-- A delivery as TANK STATUS gives it (R147); the window in whole seconds rounded up. -/
structure DeliveryReport where
  phase : DeliveryPhase
  docket : Nat
  preNetCl : Option Int
  window : Option Nat
  expired : Bool
  deriving DecidableEq, Repr

/-- The reply of TANK STATUS (R147). -/
structure TankReport where
  bookCl : Int
  stockSet : Bool
  standing : TankStanding
  ullage : Nat
  receiving : Bool
  varianceHold : Bool
  waterHold : Bool
  strikes : Nat
  varianceCl : Option Int
  census : Option CensusReport
  lastGoodTemp : Option Int
  gauge : Gauge
  failures : Nat
  loadState : LoadState
  points : Nat
  want : Option Purpose
  inFlight : Bool
  settle : Option Nat
  delivery : Option DeliveryReport
  deriving DecidableEq, Repr

/-- The census in flight as POD STATUS names it (R179). -/
structure FlightReport where
  tank : TankId
  purpose : Purpose
  attempt : Attempt
  deriving DecidableEq, Repr

/-- A tank as POD STATUS summarises it (R179). -/
structure TankSummary where
  standing : TankStanding
  receiving : Bool
  varianceHold : Bool
  waterHold : Bool
  want : Option Purpose
  deriving DecidableEq, Repr

/-- The reply of POD STATUS (R179). -/
structure PodReport where
  pod : PodState
  lastStart : StartKind
  straps : Byte
  station : Byte
  clock : Nat
  clockSet : Bool
  settings : PodSettings
  watchDelay : Option Nat
  censusTimer : Nat
  inFlight : Option FlightReport
  lastServed : TankId
  bays : PerBay BayState
  tanks : PerTank TankSummary
  issueHeld : Nat
  eventHeld : Nat
  reservations : Nat
  overwrites : Nat
  deriving DecidableEq, Repr

/-- One port as LINK STATUS gives it (R168). -/
structure PortReport where
  flags : PortFlags
  setting : Rate
  rate : BitRate
  rxHeld : Nat
  txHeld : Nat
  deriving DecidableEq, Repr

/-- The fields a reply carries after its result (R171), each form the one its owner rule names. Where that rule names no
stored value, an optional field of this form holds what a CLAMPED reply shows of them (R171; log 36). -/
inductive ReplyFields
  | nothing
  /-- A FLEET reply that carries only the record count (R20). -/
  | fleetCount (count : Nat)
  | fleetPut (count tag : Nat) (inserted : Bool) (stored : Option VehicleSettings)
  | fleetDelete (count tag : Nat)
  /-- The record in the RECORD view (R32). -/
  | fleetRecord (count : Nat) (v : Vehicle)
  /-- The record in the COUNTERS view (R32). -/
  | fleetCounters (count : Nat) (v : Vehicle)
  | classEntry (cls : Nat) (entry : ClassEntry)
  | baySettings (bay : BayId) (settings : BaySettings) (state : BayState)
  | tankSettings (tank : TankId) (settings : TankSettings) (standing : TankStanding)
  | strapping (tank : TankId) (load : LoadState) (points : Nat) (gauge : Gauge) (stored : Option (List StrapPoint))
  | podSettings (settings : PodSettings) (yard trunk : BitRate)
  | startConditions (failed : StartConditions)
  | podSuspend (pod : PodState) (halted : Nat)
  | timeSet (before : Stamp) (after : Nat)
  | shiftRoll (records : Nat)
  | bayStop (state : BayState)
  | serviceDone (tag code : Nat) (remaining : Int) (standing : VehicleStanding)
  | tankClear (receiving varianceHold waterHold : Bool) (strikes : Nat)
  | stockSet (tank : TankId) (beforeCl afterCl : Int) (standing : TankStanding)
  | deliveryOpen (tank : TankId) (docket window : Nat)
  | deliveryClose (tank : TankId) (phase : DeliveryPhase)
  | censusNow (tank : TankId) (want : Option Purpose) (inFlight : Bool)
  | journalLayout (issueSpan eventSpan : Nat)
  | journalRelease (ring : RingId) (removed : Nat) (summary : RingSummary) (count : Option Nat)
  | journalIssues (summary : RingSummary) (records : List IssueRecord)
  | journalEvents (summary : RingSummary) (records : List EventRecord)
  | linkClear (yard trunk : PortFlags) (forwardDrops : Nat)
  | podReport (r : PodReport)
  | bayReport (bay : BayId) (r : BayReport)
  | tankReport (tank : TankId) (r : TankReport)
  | linkReport (yard trunk : PortReport) (mode : RateMode) (forwardDrops : Nat)
  deriving DecidableEq, Repr

/-- A reply's content (R171): a result, the CLAMPED indication, and the fields. -/
structure Reply where
  result : Result
  clamped : Bool
  fields : ReplyFields
  deriving DecidableEq, Repr

/-- What a frame to be sent carries. A forwarded frame keeps its bytes; a frame the part originates is held by its
fields, of which R170 gives the bytes for every kind but most replies. -/
inductive Body
  | raw (payload : List Byte)
  | valveOrder (order : ValveOrder)
  | grantNotice (tag limit : Nat) (reason : LimitReason) (notice : ServiceNotice)
  | refusalNotice (tag : Nat) (code : RefusalCode)
  | closeNotice (tag : Nat) (netCl : Nat) (cause : CloseCause)
  | forwardRefused (dst kind : Byte) (result : Result)
  | reply (ref : Byte) (r : Reply)
  deriving DecidableEq, Repr

/-- A frame to be sent (R162). -/
structure OutFrame where
  dst : Byte
  src : Byte
  kind : Byte
  body : Body
  deriving DecidableEq, Repr

/-- An entry of a transmit queue; `wake` marks the notice that answers the waking TAG (R163). -/
structure TxEntry where
  frame : OutFrame
  wake : Bool
  deriving DecidableEq, Repr

/-- The frame a transmitter is sending: the oldest of its queue, which leaves the queue at its last character, or a
valve order taken from a slot (R95, R162). -/
inductive Sending
  | queueHead
  | slotFrame (frame : OutFrame)
  deriving DecidableEq, Repr

/-- A port's receiver: hunting, or inside a frame with the characters taken since its start character (R161). -/
inductive Receiver
  | hunting
  | inside (got : List Byte)
  deriving DecidableEq, Repr

/-- One serial port (10). `rate` is the setting in force; the setting stored is in the pod settings (R160). -/
structure Port where
  rx : List Frame
  tx : List TxEntry
  sending : Option Sending
  flags : PortFlags
  receiver : Receiver
  rate : Rate
  deriving DecidableEq, Repr

/-! ## The whole state -/

/-- The state of the part. -/
structure State where
  /-- The commands that wait, first in, first out. -/
  pending : List Instr
  /-- Main power is present and the part runs (R180). -/
  powered : Bool
  /-- The retention mark (R180). -/
  retentionMark : Bool
  /-- POD RESET has been taken and its start not yet made (R182). -/
  resetPending : Bool
  /-- The kind of the latest start (R179). -/
  lastStart : StartKind
  /-- The station strap reading (R179). -/
  straps : Byte
  /-- The station number in use (R179). -/
  station : Byte
  pod : PodState
  clock : Nat
  clockSet : Bool
  /-- Milliseconds of the current clock second that have passed: the model's own. -/
  subMs : Nat
  podSettings : PodSettings
  watchTimer : Timer
  fleet : List Vehicle
  classes : Vector ClassEntry 16
  bays : PerBay Bay
  tanks : PerTank Tank
  probe : Probe
  journal : Journal
  yard : Port
  trunk : Port
  /-- The yard port's rate mode in force, and the one it takes once between frames (R160, R163). -/
  yardMode : RateMode
  yardTarget : RateMode
  forwardDrops : Nat
  deriving DecidableEq, Repr

/-- Why the part stops: no command of the manual stops it, so there is no reason. -/
inductive Fault
  deriving DecidableEq, Repr

/-- Why the model has no answer. -/
inductive Refusal
  /-- Raised by exec's arm of a command that has no meaning yet (safe: nothing can be proved of it). No arm raises it. -/
  | notModelled (mnemonic : String)
  deriving DecidableEq, Repr

/-! ## The value after a cold start -/

/-- R75: the default settings of a bay on the given tank. -/
def BaySettings.cold (t : TankId) : BaySettings :=
  { enabled := false, tank := t, meterFactor := 100000, maxFlow := 20000, slowBand := 20, closeLead := 400,
    armTime := 90, noFlowTime := 8, gapTime := 3, closeTime := 10, drainTime := 15, afterRunLimit := 20 }

/-- No flag set. -/
def IssueFlags.clear : IssueFlags :=
  { uncompensated := false, tempClamped := false, saturated := false, overspeed := false, afterRun := false,
    valve := false, meter := false }

/-- R98: a bay after a cold start. -/
def Bay.cold (t : TankId) : Bay :=
  { settings := BaySettings.cold t, state := .disabled, grant := none, gross := 0, net := 0, closing := 0, sumTG := 0,
    sumG := 0, heldTemp := none, flow := 0, seeded := false, tallyCount := 0, flags := IssueFlags.clear, cause := none,
    shutSeen := false, armTimer := none, noFlowTimer := none, gapTimer := none, closeTimer := none, drainTimer := none,
    unassigned := 0, slot := { order := .shut, pending := true }, reported := none,
    grossTotal := { litres := 0, micro := 0 }, netTotal := { litres := 0, micro := 0 } }

/-- R130: the default settings of a tank with the given probe address. -/
def TankSettings.cold (address : Nat) : TankSettings :=
  { capacity := 60000, expansion := 830, rationLevel := 0, reserveLevel := 0, reservePriority := 3,
    rationPercent := 100, tolerance := 500, holdEnable := false, waterLimit := 200, probeAddress := address,
    settleTime := 120 }

/-- R148: a tank account after a cold start. -/
def Tank.cold (address : Nat) : Tank :=
  { settings := TankSettings.cold address, book := 0, stockSet := false, standing := .empty, varianceHold := false,
    waterHold := false, strikes := 0, latestVariance := none, latestCensus := none, lastGoodTemp := none,
    strapping := .empty, delivery := none }

/-- R129: what the controller keeps for a tank after a cold start. -/
def ProbeTank.cold : ProbeTank := { want := none, failures := 0, settle := none }

/-- R117: what the controller drives at each start. -/
def busRecovery : List BusAct := [.nineClocks, .stop]

/-- R129: the controller after a cold start. -/
def Probe.cold : Probe :=
  { tanks := { t1 := ProbeTank.cold, t2 := ProbeTank.cold }, inFlight := none, lastServed := .t2,
    censusTimer := 300000, busActs := busRecovery }

/-- R159: the journal after a cold start. -/
def Journal.cold : Journal :=
  { issueSpan := 768, issues := { records := [], readPtr := 0, writePtr := 0, nextSeq := 0 }, reservations := 0,
    events := { records := [], readPtr := 768, writePtr := 768, nextSeq := 0 }, overwrites := 0 }

/-- No receive-error flag set. -/
def PortFlags.clear : PortFlags := { parity := false, framing := false, check := false, overrun := false }

/-- R169: a port after either start, at the given rate setting. -/
def Port.fresh (r : Rate) : Port :=
  { rx := [], tx := [], sending := none, flags := PortFlags.clear, receiver := .hunting, rate := r }

/-- R173: the default pod settings. -/
def PodSettings.cold : PodSettings :=
  { censusPeriod := 300, watchDelay := 60, deliveryWindow := 120, yardRate := { s := 2, d := 95 },
    trunkRate := { s := 2, d := 95 } }

/-- The machine right after a cold start (R36, R98, R129, R148, R159, R169, R172, R173, R174, R180), its straps read as
17 (DESIGN CHOICE, unsafe: log 20; the reading of the worked sequence of 11.7). -/
def State.reset : State :=
  { pending := [], powered := true, retentionMark := true, resetPending := false, lastStart := .cold, straps := 17,
    station := 17, pod := .blank, clock := 0, clockSet := false, subMs := 0, podSettings := PodSettings.cold,
    watchTimer := none, fleet := [], classes := Vector.replicate 16 { limpAllotment := 200, hourCeiling := 2400 },
    bays := { b1 := Bay.cold .t1, b2 := Bay.cold .t1, b3 := Bay.cold .t2, b4 := Bay.cold .t2 },
    tanks := { t1 := Tank.cold 16, t2 := Tank.cold 17 }, probe := Probe.cold, journal := Journal.cold,
    yard := Port.fresh { s := 2, d := 95 }, trunk := Port.fresh { s := 2, d := 95 }, yardMode := .run,
    yardTarget := .run, forwardDrops := 0 }

end Sys2Proof.Machine
end

