-- ==== Sys2Proof/Machine/Quantities.lean ====
section
/-! DEFINITION. The exact arithmetic of 01: rounding, increments, compensation, flow rate, accumulators, totalizers,
strapping interpolation, reporting. -/

namespace Sys2Proof.Machine

/-! ## Rounding -/

/-- R2: convergent rounding of a / d for a positive d. -/
def convRound (a d : Int) : Int :=
  let q := a / d
  let m := a % d
  if 2 * m < d then q
  else if d < 2 * m then q + 1
  else if q % 2 = 0 then q
  else q + 1

/-- R14: a signed volume in microlitres, reported in centilitres. -/
def toCl (micro : Int) : Int := convRound micro 10000

/-- R14 for a volume that is not negative. -/
def clOf (micro : Nat) : Nat := (toCl micro).toNat

/-- 00, Conventions: the nearer bound for a value outside its range. -/
def clampNat (lo hi n : Nat) : Nat := if n < lo then lo else if hi < n then hi else n

/-- Whether a value lies outside its range, so that taking it clamps it. -/
def outsideNat (lo hi n : Nat) : Bool := n < lo || hi < n

/-! ## Temperature and compensation -/

/-- R5: a temperature clamped to −30.0 to +90.0 degrees. -/
def clampTemp (t : Int) : Int := if t < -300 then -300 else if 900 < t then 900 else t

/-- R5: whether a temperature is clamped. -/
def tempOutside (t : Int) : Bool := t < -300 || 900 < t

/-- R6: the correction factor Q, parts per ten million. -/
def correctionFactor (expansion : Nat) (t : Int) : Int := 10000000 - expansion * (t - 150)

/-- R8: the Compensation Unit. It clamps the temperature, forms Q and returns the volume at 15 degrees. -/
def compensate (volume : Nat) (t : Int) (expansion : Nat) : Int :=
  convRound (volume * correctionFactor expansion (clampTemp t)) 10000000

/-- R3: the gross increment of a tally. -/
def grossIncrement (pulses meterFactor : Nat) : Nat := pulses * meterFactor

/-- R7: the net increment of a tally. -/
def netIncrement (gross : Nat) (t : Int) (expansion : Nat) : Nat := (compensate gross t expansion).toNat

/-! ## Flow -/

/-- R9: the flow-rate sample, absent when the interval is 0. -/
def flowSample (gross interval : Nat) : Option Nat :=
  if interval = 0 then none else some (convRound gross interval).toNat

/-- R10: one smoothing step of a seeded estimate. -/
def smoothFlow (r sample : Nat) : Nat := (convRound (3 * r + sample) 4).toNat

/-- R10: the estimate and its seeded mark after a tally in FLOWING or TRIMMING. -/
def advanceFlow (r : Nat) (seeded : Bool) (pulses : Nat) (sample : Option Nat) : Nat × Bool :=
  match sample with
  | none => (r, seeded)
  | some x =>
    if seeded then (smoothFlow r x, true)
    else if 0 < pulses then (x, true)
    else (r, false)

/-- R11: the lead volume. -/
def leadVolume (flow closeLead : Nat) : Nat := flow * closeLead

/-- R12: the remaining volume of an issue. -/
def remainingVolume (limit net : Nat) : Int := (limit : Int) * 1000000 - net

/-- R13: the average temperature of an issue, absent when Σg is 0. -/
def averageTemp (sumTG : Int) (sumG : Nat) : Option Int :=
  if sumG = 0 then none else some (convRound sumTG sumG)

/-- R75: max flow in L/min as held in mL/s. -/
def heldMaxFlow (litresPerMinute : Nat) : Nat := litresPerMinute * 1000 / 60

/-! ## Accumulators -/

/-- R15: an addition to an accumulator that stops at 2^40 − 1. -/
def addAcc (acc x : Nat) : Nat := min (acc + x) Config.accMax

/-- R15, R103, R104: whether the addition carries the accumulator to its bound (DEDUCED: log 11). -/
def accFull (acc x : Nat) : Bool := Config.accMax ≤ acc + x

/-- A count that saturates at 65,535. -/
def addCount16 (n : Nat) : Nat := min (n + 1) Config.count16Max

/-- R16: a totalizer after an issue's volume is added. -/
def Totalizer.add (t : Totalizer) (micro : Nat) : Totalizer :=
  { litres := (t.litres + (t.micro + micro) / Config.microPerLitre) % Config.totalizerModulus
    micro := (t.micro + micro) % Config.microPerLitre }

/-- R17: a book value held within its bounds. -/
def clampBook (b : Int) : Int := if b < -Config.bookMax then -Config.bookMax else if Config.bookMax < b then Config.bookMax else b

/-- R63: the book in whole litres as the STOCK candidate and the ullage read it. -/
def bookLitres (b : Int) : Nat := if b ≤ 0 then 0 else (b / 1000000).toNat

/-! ## Strapping -/

/-- R18: the volume between two neighbouring points at a level above the first and at most the second. -/
def interpolate (p q : StrapPoint) (level : Nat) : Int :=
  p.litres * 1000000 + convRound (((q.litres : Int) - p.litres) * 1000000 * ((level : Int) - p.level)) ((q.level : Int) - p.level)

/-- R18: the gauged gross volume above the first point `p`, and whether the level lies above the last point. -/
def strapVolumeFrom (p : StrapPoint) (level : Nat) : List StrapPoint → Nat × Bool
  | [] => (p.litres * 1000000, true)
  | q :: rest => if level ≤ q.level then ((interpolate p q level).toNat, false) else strapVolumeFrom q level rest

/-- R18: the gauged gross volume of a level, and whether the level makes the outcome OVER-RANGE. -/
def strapVolume (points : List StrapPoint) (level : Nat) : Option (Nat × Bool) :=
  match points with
  | [] => none
  | p :: rest => if level ≤ p.level then some (p.litres * 1000000, false) else some (strapVolumeFrom p level rest)

/-! ## Time -/

/-- A timer's full time from whole seconds. -/
def seconds (n : Nat) : Nat := n * 1000

/-- Milliseconds left, in whole seconds rounded up (R77). -/
def secondsLeft (ms : Nat) : Nat := (ms + 999) / 1000

/-- A running timer after some time; it stands at 0 until its expiry is taken. -/
def Timer.after (ms : Nat) (t : Timer) : Timer := t.map (· - ms)

/-- R77, R96: a running timer whose time has run out, which is the occasion of its expiry. A stopped timer does not expire,
and one that was started again has its time before it (DEDUCED, safe: log 5). -/
def Timer.ranOut (t : Timer) : Bool := t == some 0

/-! ## Bit rates -/

/-- R160: the rate of a setting. -/
def Rate.bitRate (r : Rate) : BitRate := { num := Config.mainOscillator, den := 2 ^ r.s * (2 * (r.d + 1)) }

/-- R160: the watch rate, 1,228,800 / 128. -/
def watchBitRate : BitRate := { num := Config.watchOscillator, den := 128 }

end Sys2Proof.Machine
end

