-- ==== Sys2Proof/Machine/Flags.lean ====
section
/-! DEFINITION. Everything the manual derives rather than holds: standings of counters, vehicles and tanks (R39, R41,
R134), the gauge state (R124), the expected purpose (R139), which bay states are active (00, Terms), and the value codes
of R170 in both directions. -/

namespace Sys2Proof.Machine

/-! ## Bays -/

/-- 00, Terms: an active bay is GRANTED, FLOWING, TRIMMING or CLOSING. -/
def BayState.active : BayState → Bool
  | .granted => true
  | .flowing => true
  | .trimming => true
  | .closing => true
  | _ => false

/-- R81, R82: the states in which the valve stands open. -/
def BayState.valveOpen : BayState → Bool
  | .flowing => true
  | .trimming => true
  | _ => false

/-- R123: the states in which fuel may move. -/
def BayState.moving : BayState → Bool
  | .flowing => true
  | .trimming => true
  | .closing => true
  | _ => false

/-- R177: the bay states in which the watch delay timer may run. -/
def BayState.quiet : BayState → Bool
  | .idle => true
  | .disabled => true
  | _ => false

/-- R87: the first of OVERSPEED, METER FAULT, VALVE and AFTER-RUN whose flag is set. -/
def IssueFlags.fault (f : IssueFlags) : Option BayFaultCause :=
  if f.overspeed then some .overspeed
  else if f.meter then some .meterFault
  else if f.valve then some .valve
  else if f.afterRun then some .afterRun
  else none

/-! ## Counters and vehicles -/

/-- R39: the standing of a counter. -/
def Counter.standing (c : Counter) : CounterStanding :=
  if 0 < c.remaining then .clear
  else if -(c.grace : Int) < c.remaining then .due
  else .overdue

/-- R39: the order of standings. -/
def CounterStanding.rank : CounterStanding → Nat
  | .clear => 0
  | .due => 1
  | .overdue => 2

/-- Whether a counter is OVERDUE. -/
def Counter.isOverdue (c : Counter) : Bool := c.standing == .overdue

/-- Whether a counter is DUE. -/
def Counter.isDue (c : Counter) : Bool := c.standing == .due

/-- Whether some counter is OVERDUE. -/
def anyOverdue (cs : List Counter) : Bool := cs.any Counter.isOverdue

/-- R41: the service standing of a vehicle. -/
def Vehicle.standing (v : Vehicle) : VehicleStanding :=
  if anyOverdue v.counters then (if v.limpUsed then .locked else .overdue)
  else if v.counters.any Counter.isDue then .due
  else .clear

/-- R51: the service notice that a standing gives a grant. -/
def VehicleStanding.notice : VehicleStanding → ServiceNotice
  | .due => .due
  | .overdue => .limp
  | _ => .noNotice

/-! ## Tanks -/

/-- R134: the standing formed from a book and a tank's levels. -/
def formStanding (set : TankSettings) (book : Int) : TankStanding :=
  if (set.rationLevel : Int) * 1000000 < book then .normal
  else if (set.reserveLevel : Int) * 1000000 < book then .ration
  else if 0 < book then .reserve
  else .empty

/-- R139: RECEIVING is set exactly while a delivery record is present. -/
def Tank.receiving (t : Tank) : Bool := t.delivery.isSome

/-- R139: the purpose a delivery expects. -/
def DeliveryPhase.expects : DeliveryPhase → Option Purpose
  | .awaitingPre => some .pre
  | .opened => none
  | .completing => some .post

/-- R120, R141: the purpose the tank's delivery expects, if any. -/
def Tank.expects (t : Tank) : Option Purpose := t.delivery.bind (fun d => d.phase.expects)

/-- R125: the points a table holds. -/
def Strapping.points : Strapping → List StrapPoint
  | .empty => []
  | .loading ps => ps
  | .complete ps => ps

/-- R125: the load state of a table. -/
def Strapping.load : Strapping → LoadState
  | .empty => .empty
  | .loading _ => .loading
  | .complete _ => .complete

/-- R124: the gauge state. -/
def gaugeOf (s : Strapping) (failures : Nat) : Gauge :=
  match s with
  | .complete _ => if failures = 0 then .ok else if failures < 3 then .faulty else .lost
  | _ => .unstrapped

/-- R120: the rank of a purpose; PRE and POST are the highest. -/
def Purpose.rank : Purpose → Nat
  | .periodic => 0
  | .onRequest => 1
  | .pre => 2
  | .post => 2

/-- R120: the purpose a pending flag keeps when a request meets it. `expected` is what the tank's delivery then expects. -/
def coalesce (expected : Option Purpose) (held : Option Purpose) (new : Purpose) : Purpose :=
  match held with
  | none => new
  | some old =>
    if old.rank < new.rank then new
    else if new.rank < old.rank then old
    else if expected = some new then new
    else old

/-! ## Station numbers and selectors -/

/-- A bay's number. -/
def bayNumber : BayId → Nat
  | .b1 => 1
  | .b2 => 2
  | .b3 => 3
  | .b4 => 4

/-- A tank's number. -/
def tankNumber : TankId → Nat
  | .t1 => 1
  | .t2 => 2

/-- The other tank (R121). -/
def otherTank : TankId → TankId
  | .t1 => .t2
  | .t2 => .t1

/-- The bays in bay order. -/
def bayList : List BayId := [.b1, .b2, .b3, .b4]

/-- R171: the bay a selector names. -/
def bayOf : Nat → Option BayId
  | 1 => some .b1
  | 2 => some .b2
  | 3 => some .b3
  | 4 => some .b4
  | _ => none

/-- R171: the tank a selector names. -/
def tankOf : Nat → Option TankId
  | 1 => some .t1
  | 2 => some .t2
  | _ => none

/-- 00, Station numbers: the reader of a bay. -/
def readerStation (b : BayId) : Byte := BitVec.ofNat 8 (239 + bayNumber b)

/-- 00, Station numbers: the valve unit of a bay. -/
def valveStation (b : BayId) : Byte := BitVec.ofNat 8 (247 + bayNumber b)

/-- The bay whose reader has this station number. -/
def readerBay (station : Byte) : Option BayId := bayOf (station.toNat - 239)

/-- The bay whose meter head has this station number. -/
def meterBay (station : Byte) : Option BayId := bayOf (station.toNat - 243)

/-- The bay whose valve unit has this station number. -/
def valveBay (station : Byte) : Option BayId := bayOf (station.toNat - 247)

/-- R171: a yes-or-no field. -/
def yesNo : Nat → Option Bool
  | 0 => some false
  | 1 => some true
  | _ => none

/-- R170: a vehicle status code. -/
def statusOf : Nat → Option VehicleStatus
  | 0 => some .active
  | 1 => some .barred
  | _ => none

/-- R170: a basis code. -/
def basisOf : Nat → Option Basis
  | 0 => some .hours
  | 1 => some .fuel
  | _ => none

/-- R170: a ring code. -/
def ringOf : Nat → Option RingId
  | 0 => some .issue
  | 1 => some .event
  | _ => none

/-- R179: the station number a strap reading gives. -/
def stationOf (straps : Byte) : Byte := if 1 ≤ straps.toNat ∧ straps.toNat ≤ 239 then straps else 239

/-! ## Kind codes (R170) -/

/-- The kind codes of yard frames and of frames the part originates. -/
abbrev kindTag : Byte := 0x10
abbrev kindTally : Byte := 0x11
abbrev kindValveStatus : Byte := 0x12
abbrev kindStationData : Byte := 0x13
abbrev kindValveOrder : Byte := 0x18
abbrev kindGrantNotice : Byte := 0x19
abbrev kindRefusalNotice : Byte := 0x1A
abbrev kindCloseNotice : Byte := 0x1B
abbrev kindForwardRefused : Byte := 0x1F
abbrev kindTimeSet : Byte := 0x2B
abbrev kindShiftRoll : Byte := 0x2C

/-- R167: one of the 32 request kinds. -/
def isRequestKind (k : Byte) : Bool := 0x20 ≤ k.toNat && k.toNat ≤ 0x3F

/-- R167: the kind of the reply to a request kind. -/
def replyKind (k : Byte) : Byte := k + 0x80

end Sys2Proof.Machine
end

