-- ==== Sys2Proof/Machine/Operands.lean ====
section
/-! DEFINITION. The operands of the commands: how the fields of a frame are read from its payload (R170), and the
requests' fields in the order of the catalogue (11.1). A request whose length differs from the length its fields give
has no reading (R167). -/

namespace Sys2Proof.Machine

/-! ## Fields -/

/-- R170: a field of several bytes is sent most significant byte first. -/
def beNat (bs : List Byte) : Nat := bs.foldl (fun n b => n * 256 + b.toNat) 0

/-- R170: two's complement over sixteen bits. -/
def signed16 (n : Nat) : Int := if n < 32768 then n else (n : Int) - 65536

/-- The fields of the given widths that fill the bytes exactly. -/
def fieldsOf : List Nat → List Byte → Option (List Nat)
  | [], [] => some []
  | [], _ :: _ => none
  | w :: ws, bs => if bs.length < w then none else (fieldsOf ws (bs.drop w)).map (beNat (bs.take w) :: ·)

/-- The given number of list members, each of the given widths, that fill the bytes exactly (R170, lists). -/
def membersOf (ws : List Nat) : Nat → List Byte → Option (List (List Nat))
  | 0, [] => some []
  | 0, _ :: _ => none
  | n + 1, bs =>
    match fieldsOf ws (bs.take ws.sum), membersOf ws n (bs.drop ws.sum) with
    | some m, some ms => some (m :: ms)
    | _, _ => none

/-! ## Yard frames -/

/-- A tally as the Metering Unit takes it (R100). -/
structure Tally where
  pulses : Nat
  interval : Nat
  temp : Option Int
  nozzle : Nozzle
  status : Health
  deriving DecidableEq, Repr

/-- R100: nozzle and meter status; a code that names nothing in either field is taken as STOWED and FAULT. -/
def tallyCodes : Nat → Nat → Nozzle × Health
  | 0, 0 => (.stowed, .ok)
  | 1, 0 => (.lifted, .ok)
  | 0, 1 => (.stowed, .faulty)
  | 1, 1 => (.lifted, .faulty)
  | _, _ => (.stowed, .faulty)

/-- R100, R170: 8000 hex marks an absent temperature. -/
def tempField (n : Nat) : Option Int := if n = 32768 then none else some (signed16 n)

/-- R100: the tally of a payload; none when it is discarded. -/
def parseTally (bs : List Byte) : Option Tally :=
  match fieldsOf [2, 2, 2, 1, 1] bs with
  | some [p, t, temp, noz, st] =>
    if 4095 < p then none
    else some { pulses := p, interval := t, temp := tempField temp, nozzle := (tallyCodes noz st).1,
                status := (tallyCodes noz st).2 }
  | _ => none

/-- R110: a position code; one that names nothing is MOVING. -/
def positionOf : Nat → ValvePosition
  | 0 => .shut
  | 1 => .slow
  | 2 => .full
  | _ => .moving

/-- R110: a health code; one that names nothing is FAULT. -/
def healthOf : Nat → Health
  | 0 => .ok
  | _ => .faulty

/-- R110: the report of a VALVE STATUS payload; none when it is discarded. -/
def parseValveStatus (bs : List Byte) : Option ReportedValve :=
  match fieldsOf [1, 1] bs with
  | some [pos, h] => some { position := positionOf pos, health := healthOf h }
  | _ => none

/-- A TAG frame's tag and hours reading (R58). -/
structure TagRead where
  tag : Nat
  hours : Option Nat
  deriving DecidableEq, Repr

/-- R43: a reading above 9,999,999 is taken as absent. -/
def hoursField (n : Nat) : Option Nat := if Config.hoursMax < n then none else some n

/-- R165: a TAG of length 4 or 8; any other length is dropped. -/
def parseTag (bs : List Byte) : Option TagRead :=
  match fieldsOf [4] bs, fieldsOf [4, 4] bs with
  | some [t], _ => some { tag := t, hours := none }
  | _, some [t, h] => some { tag := t, hours := hoursField h }
  | _, _ => none

/-! ## Requests (the bytes after the reference) -/

/-- One counter of FLEET PUT. -/
structure CounterReq where
  code : Nat
  basis : Nat
  interval : Nat
  grace : Nat
  deriving DecidableEq, Repr

/-- The fields of FLEET PUT. -/
structure FleetPutReq where
  tag : Nat
  unit : Nat
  cls : Nat
  priority : Nat
  status : Nat
  fillCeiling : Nat
  permitted : Nat
  allowance : Nat
  keep : Nat
  counters : List CounterReq
  deriving DecidableEq, Repr

/-- One counter's fields. -/
def counterReq : List Nat → Option CounterReq
  | [c, b, i, g] => some { code := c, basis := b, interval := i, grace := g }
  | _ => none

/-- FLEET PUT (11.1): tag, unit number, class, priority, status, fill ceiling, permitted bays, allowance, keep-counters,
counter list. -/
def parseFleetPut (bs : List Byte) : Option FleetPutReq :=
  match fieldsOf [4, 2, 1, 1, 1, 2, 1, 2, 1, 1] (bs.take 16) with
  | some [tag, unit, cls, prio, st, fill, perm, allow, keep, n] =>
    match membersOf [1, 1, 4, 4] n (bs.drop 16) with
    | some ms =>
      some { tag := tag, unit := unit, cls := cls, priority := prio, status := st, fillCeiling := fill, permitted := perm,
             allowance := allow, keep := keep, counters := ms.filterMap counterReq }
    | none => none
  | _ => none

/-- A request of no field. -/
def parseNone (bs : List Byte) : Option Unit := if bs = [] then some () else none

/-- A request of one field of the given width. -/
def parseOne (w : Nat) (bs : List Byte) : Option Nat :=
  match fieldsOf [w] bs with
  | some [x] => some x
  | _ => none

/-- A request of two fields of the given widths. -/
def parseTwo (w1 w2 : Nat) (bs : List Byte) : Option (Nat × Nat) :=
  match fieldsOf [w1, w2] bs with
  | some [x, y] => some (x, y)
  | _ => none

/-- A request of three fields of the given widths. -/
def parseThree (w1 w2 w3 : Nat) (bs : List Byte) : Option (Nat × Nat × Nat) :=
  match fieldsOf [w1, w2, w3] bs with
  | some [x, y, z] => some (x, y, z)
  | _ => none

/-- The fields of BAY SET; max flow in L/min. -/
structure BaySetReq where
  bay : Nat
  enabled : Nat
  tank : Nat
  meterFactor : Nat
  maxFlow : Nat
  slowBand : Nat
  closeLead : Nat
  armTime : Nat
  noFlowTime : Nat
  gapTime : Nat
  closeTime : Nat
  drainTime : Nat
  afterRunLimit : Nat
  deriving DecidableEq, Repr

/-- BAY SET (11.1): bay, then the settings of R75 in order. -/
def parseBaySet (bs : List Byte) : Option BaySetReq :=
  match fieldsOf [1, 1, 1, 4, 2, 2, 2, 2, 2, 2, 2, 2, 2] bs with
  | some [b, en, tk, f, mf, sb, cl, at', nf, gt, ct, dt, ar] =>
    some { bay := b, enabled := en, tank := tk, meterFactor := f, maxFlow := mf, slowBand := sb, closeLead := cl,
           armTime := at', noFlowTime := nf, gapTime := gt, closeTime := ct, drainTime := dt, afterRunLimit := ar }
  | _ => none

/-- The fields of TANK SET. -/
structure TankSetReq where
  tank : Nat
  capacity : Nat
  expansion : Nat
  rationLevel : Nat
  reserveLevel : Nat
  reservePriority : Nat
  rationPercent : Nat
  tolerance : Nat
  holdEnable : Nat
  waterLimit : Nat
  probeAddress : Nat
  settleTime : Nat
  deriving DecidableEq, Repr

/-- TANK SET (11.1): tank, then the settings of R130 in order. -/
def parseTankSet (bs : List Byte) : Option TankSetReq :=
  match fieldsOf [1, 4, 2, 4, 4, 1, 1, 2, 1, 2, 2, 2] bs with
  | some [tk, cap, e, ra, re, rp, pc, tol, he, wl, pa, st] =>
    some { tank := tk, capacity := cap, expansion := e, rationLevel := ra, reserveLevel := re, reservePriority := rp,
           rationPercent := pc, tolerance := tol, holdEnable := he, waterLimit := wl, probeAddress := pa, settleTime := st }
  | _ => none

/-- The fields of STRAP SET, its points as carried. -/
structure StrapSetReq where
  tank : Nat
  first : Nat
  final : Nat
  points : List StrapPoint
  deriving DecidableEq, Repr

/-- One strapping point's fields. -/
def strapPoint : List Nat → Option StrapPoint
  | [l, v] => some { level := l, litres := v }
  | _ => none

/-- STRAP SET (11.1): tank, first index, final mark, point list (level, volume). -/
def parseStrapSet (bs : List Byte) : Option StrapSetReq :=
  match fieldsOf [1, 1, 1, 1] (bs.take 4) with
  | some [tk, i, fin, n] =>
    match membersOf [2, 4] n (bs.drop 4) with
    | some ms => some { tank := tk, first := i, final := fin, points := ms.filterMap strapPoint }
    | none => none
  | _ => none

/-- The fields of POD SET. -/
structure PodSetReq where
  censusPeriod : Nat
  watchDelay : Nat
  deliveryWindow : Nat
  yardS : Nat
  yardD : Nat
  trunkS : Nat
  trunkD : Nat
  deriving DecidableEq, Repr

/-- POD SET (11.1): census period, watch delay, delivery window, yard s, yard D, trunk s, trunk D. -/
def parsePodSet (bs : List Byte) : Option PodSetReq :=
  match fieldsOf [2, 2, 2, 1, 1, 1, 1] bs with
  | some [cp, wd, dw, ys, yd, ts, td] =>
    some { censusPeriod := cp, watchDelay := wd, deliveryWindow := dw, yardS := ys, yardD := yd, trunkS := ts, trunkD := td }
  | _ => none

/-- R170: permitted bays; bit 7 marks them present, bits 0 to 3 name bays 1 to 4. -/
def permittedField (n : Nat) : Option (PerBay Bool) :=
  if n.testBit 7 then some { b1 := n.testBit 0, b2 := n.testBit 1, b3 := n.testBit 2, b4 := n.testBit 3 } else none

/-- R27: permitted bays marked present but naming no bay. -/
def permittedEmpty : Option (PerBay Bool) → Bool
  | none => false
  | some p => !(p.b1 || p.b2 || p.b3 || p.b4)

/-- A priority clamped to 0 to 3 (R27, R131). -/
def clampPriority (n : Nat) : Fin 4 := ⟨min n 3, by omega⟩

/-! ## The probe's reading block -/

/-- R118, R170: the level, temperature and water level of the eight data bytes, clamped. -/
def ReadingBlock.reading (d : ReadingBlock) : Reading :=
  { level := min (beNat [d.b0, d.b1]) 50000
    temp := clampTemp (signed16 (beNat [d.b2, d.b3]))
    water := min (beNat [d.b4, d.b5]) 50000 }

/-- R118: the outcome; status OK only when byte 6 is 00 and byte 7 FF hex. -/
def ReadingBlock.outcome (d : ReadingBlock) : CensusOutcome :=
  if d.b6 = 0x00 ∧ d.b7 = 0xFF then (if 50000 < beNat [d.b0, d.b1] then .overRange else .ok) else .failed

end Sys2Proof.Machine
end

