-- ==== Sys2Proof/Machine/Ops.lean ====
section
/-! DEFINITION. The named operations the meanings share: reading and writing one bay, tank or probe entry; logging an
event; writing, removing and releasing journal records; the fleet list; the service counters; the transmit queues; the
pod state; the watch delay timer and the start of a census, which every event ends with; and the forms an event and a
request take. -/

namespace Sys2Proof.Machine

/-! ## One bay, one tank -/

/-- The value for one bay. -/
def PerBay.get {α : Type} (p : PerBay α) : BayId → α
  | .b1 => p.b1
  | .b2 => p.b2
  | .b3 => p.b3
  | .b4 => p.b4

/-- The values with one bay's replaced. -/
def PerBay.set {α : Type} (p : PerBay α) (b : BayId) (x : α) : PerBay α :=
  match b with
  | .b1 => { p with b1 := x }
  | .b2 => { p with b2 := x }
  | .b3 => { p with b3 := x }
  | .b4 => { p with b4 := x }

/-- One function over every bay's value. -/
def PerBay.map {α β : Type} (f : α → β) (p : PerBay α) : PerBay β :=
  { b1 := f p.b1, b2 := f p.b2, b3 := f p.b3, b4 := f p.b4 }

/-- The value for one tank. -/
def PerTank.get {α : Type} (p : PerTank α) : TankId → α
  | .t1 => p.t1
  | .t2 => p.t2

/-- The values with one tank's replaced. -/
def PerTank.set {α : Type} (p : PerTank α) (t : TankId) (x : α) : PerTank α :=
  match t with
  | .t1 => { p with t1 := x }
  | .t2 => { p with t2 := x }

/-- One function over both tanks' values. -/
def PerTank.map {α β : Type} (f : α → β) (p : PerTank α) : PerTank β := { t1 := f p.t1, t2 := f p.t2 }

/-- Bay b. -/
def State.bay (s : State) (b : BayId) : Bay := s.bays.get b

/-- The state with bay b replaced. -/
def State.setBay (s : State) (b : BayId) (y : Bay) : State := { s with bays := s.bays.set b y }

/-- The state with every bay changed by one function. -/
def State.mapBays (s : State) (f : Bay → Bay) : State := { s with bays := s.bays.map f }

/-- Tank t. -/
def State.tank (s : State) (t : TankId) : Tank := s.tanks.get t

/-- The state with tank t replaced. -/
def State.setTank (s : State) (t : TankId) (k : Tank) : State := { s with tanks := s.tanks.set t k }

/-- What the Probe Bus Controller keeps for tank t. -/
def State.probeTank (s : State) (t : TankId) : ProbeTank := s.probe.tanks.get t

/-- The state with the controller's entry for tank t replaced. -/
def State.setProbeTank (s : State) (t : TankId) (k : ProbeTank) : State :=
  { s with probe := { s.probe with tanks := s.probe.tanks.set t k } }

/-- The state with a vehicle list. -/
def State.setFleet (s : State) (l : List Vehicle) : State := { s with fleet := l }

/-- The state with a journal. -/
def State.setJournal (s : State) (j : Journal) : State := { s with journal := j }

/-! ## Bay transitions -/

/-- A timer kept only while its bay stays in a state it runs in (R77). -/
def keepTimer (keep : Bool) (t : Timer) : Timer := if keep then t else none

/-- R77: a bay in a new state; every timer that does not run in it is stopped. -/
def Bay.enter (st : BayState) (y : Bay) : Bay :=
  { y with
    state := st
    armTimer := keepTimer (st == .granted) y.armTimer
    noFlowTimer := keepTimer st.valveOpen y.noFlowTimer
    gapTimer := keepTimer st.valveOpen y.gapTimer
    closeTimer := keepTimer (st == .closing) y.closeTimer
    drainTimer := keepTimer (st == .draining) y.drainTimer }

/-- R94: a valve order written into the slot, pending. -/
def Bay.order (o : ValveOrder) (y : Bay) : Bay := { y with slot := { order := o, pending := true } }

/-- R87, R92, R93: entry to FAULTED. -/
def Bay.toFaulted (y : Bay) : Bay := (y.enter .faulted).order .shut

/-- R79: entry to FLOWING; R10: the flow estimate starts again. -/
def Bay.toFlowing (y : Bay) : Bay :=
  { (y.enter .flowing).order .full with
    noFlowTimer := some (seconds y.settings.noFlowTime)
    gapTimer := some (seconds y.settings.gapTime)
    flow := 0
    seeded := false }

/-- R81: entry to TRIMMING. -/
def Bay.toTrimming (y : Bay) : Bay := (y.enter .trimming).order .slow

/-- R83: entry to CLOSING. -/
def Bay.toClosing (cause : CloseCause) (y : Bay) : Bay :=
  { (y.enter .closing).order .shut with
    cause := some cause
    closeTimer := some (seconds y.settings.closeTime)
    closing := 0
    shutSeen := false }

/-- R87, R99: DRAINING with the drain timer started, or IDLE with a drain time of 0. -/
def Bay.toDraining (y : Bay) : Bay :=
  if y.settings.drainTime = 0 then y.enter .idle
  else { y.enter .draining with drainTimer := some (seconds y.settings.drainTime) }

/-- R81: the timers a tally restarts when the bay stays in FLOWING or TRIMMING. -/
def Bay.restartFlowTimers (pulses : Nat) (y : Bay) : Bay :=
  { y with
    gapTimer := some (seconds y.settings.gapTime)
    noFlowTimer := if 0 < pulses then some (seconds y.settings.noFlowTime) else y.noFlowTimer }

/-- Some bay whose settings name the tank satisfies a test of its state. -/
def State.anyBayOn (s : State) (t : TankId) (p : BayState → Bool) : Bool :=
  bayList.any (fun b => decide ((s.bay b).settings.tank = t) && p (s.bay b).state)

/-- R131, R133, R140: some bay on the tank is active. -/
def State.tankBusy (s : State) (t : TankId) : Bool := s.anyBayOn t BayState.active

/-! ## Journal -/

/-- R149: a pointer that advances past the end of its ring continues at the base. -/
def advancePtr (base span p : Nat) : Nat := if p + 1 < base + span then p + 1 else base

/-- R149, R151: a record written at the write pointer. -/
def Ring.push {α : Type} (base span : Nat) (r : α) (g : Ring α) : Ring α :=
  { records := g.records ++ [r], readPtr := g.readPtr, writePtr := advancePtr base span g.writePtr,
    nextSeq := (g.nextSeq + 1) % Config.wrap32 }

/-- R149: the oldest record removed; nothing when the ring is empty. -/
def Ring.dropOldest {α : Type} (base span : Nat) (g : Ring α) : Ring α :=
  match g.records with
  | [] => g
  | _ :: rest => { g with records := rest, readPtr := advancePtr base span g.readPtr }

/-- R157: the n oldest records removed. -/
def Ring.release {α : Type} (base span : Nat) : Nat → Ring α → Ring α
  | 0, g => g
  | n + 1, g => Ring.release base span n (g.dropOldest base span)

/-- R149: the event span. -/
def Journal.eventSpan (j : Journal) : Nat := Config.journalSlots - j.issueSpan

/-- R154: an event record written, over the oldest when the ring is full. -/
def Journal.logEvent (t : Stamp) (k : EventKind) (j : Journal) : Journal :=
  let r : EventRecord := { seq := j.events.nextSeq, time := t, kind := k }
  if j.events.records.length < j.eventSpan then
    { j with events := j.events.push j.issueSpan j.eventSpan r }
  else
    { j with events := (j.events.dropOldest j.issueSpan j.eventSpan).push j.issueSpan j.eventSpan r
             overwrites := addCount16 j.overwrites }

/-- R85, R152: an issue record written into a reservation. -/
def Journal.writeIssue (r : IssueRecord) (j : Journal) : Journal :=
  { j with issues := j.issues.push 0 j.issueSpan { r with seq := j.issues.nextSeq }
           reservations := j.reservations - 1 }

/-- R66: one reservation taken. -/
def Journal.reserve (j : Journal) : Journal := { j with reservations := j.reservations + 1 }

/-- R172: the clock reading with its clock-unset mark. -/
def State.stamp (s : State) : Stamp := { time := s.clock, unset := !s.clockSet }

/-- R154: a block logs an event. -/
def State.log (s : State) (k : EventKind) : State := s.setJournal (s.journal.logEvent s.stamp k)

/-- Events logged one after another. -/
def State.logAll (s : State) (ks : List EventKind) : State := ks.foldl State.log s

/-! ## Fleet list -/

/-- R20: the record held under a tag. -/
def findTag (t : Nat) (l : List Vehicle) : Option Vehicle := l.find? (fun v => v.tag == t)

/-- The record under its tag replaced. -/
def setVehicle (v : Vehicle) (l : List Vehicle) : List Vehicle := l.map (fun x => if x.tag = v.tag then v else x)

/-- R20: a record inserted in ascending tag order. -/
def insertVehicle (v : Vehicle) : List Vehicle → List Vehicle
  | [] => [v]
  | x :: xs => if v.tag < x.tag then v :: x :: xs else x :: insertVehicle v xs

/-- R31: the record with a tag removed. -/
def removeTag (t : Nat) (l : List Vehicle) : List Vehicle := l.filter (fun v => v.tag != t)

/-- R33: the record with the smallest tag above the one given. -/
def nextTag (t : Nat) (l : List Vehicle) : Option Vehicle := l.find? (fun v => t < v.tag)

/-! ## Service counters -/

/-- R40: a decrease of remaining, down to the floor. -/
def Counter.decrease (n : Nat) (c : Counter) : Counter :=
  { c with remaining := max (c.remaining - n) (-Config.remainingMax) }

/-- R40: the SERVICE event of a change, when the standing rises. -/
def riseEvent (tag : Nat) (before after : Counter) : List EventKind :=
  if before.standing.rank < after.standing.rank then [.service tag after.code after.standing] else []

/-- R40, R42: the decrement-and-test over the counters of one basis, in list order. `done` holds the counters already
passed, so that each decrease sees the record as it then stands. Answers the counters, limp used and the events. -/
def decrementCounters (basis : Basis) (n tag : Nat) (done : List Counter) (limp : Bool) :
    List Counter → List Counter × Bool × List EventKind
  | [] => (done, limp, [])
  | c :: rest =>
    if c.basis = basis then
      let c' := c.decrease n
      let begins := c'.isOverdue && !anyOverdue (done ++ c :: rest)
      let r := decrementCounters basis n tag (done ++ [c']) (if begins then false else limp) rest
      (r.1, r.2.1, riseEvent tag c c' ++ r.2.2)
    else decrementCounters basis n tag (done ++ [c]) limp rest

/-- R40, R42: a record after a decrease of its counters of one basis, with the SERVICE events in order. -/
def Vehicle.decrement (basis : Basis) (n : Nat) (v : Vehicle) : Vehicle × List EventKind :=
  let r := decrementCounters basis n v.tag [] v.limpUsed v.counters
  ({ v with counters := r.1, limpUsed := r.2.1 }, r.2.2)

/-- R43 to R47: a record after a tag frame's hours reading, with the events in order. -/
def Vehicle.applyHours (ceiling : Nat) (hours : Option Nat) (v : Vehicle) : Vehicle × List EventKind :=
  match hours with
  | none => (v, [])
  | some h =>
    match v.lastHours with
    | none => ({ v with lastHours := some h }, [])
    | some old =>
      if h < old then ({ v with lastHours := some h }, [.hoursRebased v.tag old h])
      else
        let applied := min (h - old) ceiling
        let r := ({ v with lastHours := some h } : Vehicle).decrement .hours applied
        (r.1, (if ceiling < h - old then [.hoursJump v.tag applied] else []) ++ r.2)

/-- R22: allowance used after a charge. -/
def Allowance.charge (cl : Nat) (a : Allowance) : Allowance :=
  { a with usedCl := min (a.usedCl + cl) Config.allowanceUsedMax }

/-- R49, R86: a record after a completion charges it, with the SERVICE events in order: limp used, FUEL counters,
allowance used, armed-at and last issue time. -/
def Vehicle.chargeIssue (limpGrant : Bool) (netCl : Nat) (finish : Stamp) (v : Vehicle) : Vehicle × List EventKind :=
  let v1 : Vehicle := { v with limpUsed := v.limpUsed || (limpGrant && Config.limpUseCl ≤ netCl) }
  let r := v1.decrement .fuel netCl
  ({ r.1 with allowance := r.1.allowance.map (Allowance.charge netCl), armedAt := none, lastIssue := some finish }, r.2)

/-! ## Yard rate and mode -/

/-- R160: neither the receiver nor the transmitter is in the middle of a frame. -/
def Port.betweenFrames (p : Port) : Bool := p.receiver == .hunting && p.sending == none

/-- R160, R163: the yard port takes the stored rate setting and the mode it is to take. -/
def State.applyYardRate (s : State) : State :=
  { s with yardMode := s.yardTarget, yard := { s.yard with rate := s.podSettings.yardRate } }

/-- R160: the yard port takes them at once when it is between frames. -/
def State.tryYardRate (s : State) : State := if s.yard.betweenFrames then s.applyYardRate else s

/-- R163: the yard port is put in a rate mode, which it takes once between frames. -/
def State.setYardMode (s : State) (m : RateMode) : State := ({ s with yardTarget := m } : State).tryYardRate

/-- R163: the yard port is put in RUN mode at once, a yard frame in progress or not; a stored rate setting that waits is
still taken between frames (R160). -/
def State.runAtOnce (s : State) : State := ({ s with yardMode := .run, yardTarget := .run } : State).tryYardRate

/-! ## Transmit queues -/

/-- A frame placed at the tail of the yard transmit queue. -/
def State.pushYardTx (s : State) (e : TxEntry) : State := { s with yard := { s.yard with tx := s.yard.tx ++ [e] } }

/-- A frame placed at the tail of the trunk transmit queue. -/
def State.pushTrunkTx (s : State) (e : TxEntry) : State := { s with trunk := { s.trunk with tx := s.trunk.tx ++ [e] } }

/-- R70, R86: a notice to the reader of bay b; not sent when the queue is full, and R163: a waking TAG's notice that is
not queued sets RUN mode at once. -/
def State.notice (s : State) (b : BayId) (kind : Byte) (body : Body) (wake : Bool) : State :=
  if s.yard.tx.length < Config.yardTxCap then
    s.pushYardTx { frame := { dst := readerStation b, src := s.station, kind := kind, body := body }, wake := wake }
  else if wake then s.runAtOnce
  else s

/-- R166: the forward-drop count raised. -/
def State.countDrop (s : State) : State := { s with forwardDrops := addCount16 s.forwardDrops }

/-- R166: a received frame as it is forwarded, unchanged. -/
def Frame.forwarded (f : Frame) : TxEntry :=
  { frame := { dst := f.dst, src := f.src, kind := f.kind, body := .raw f.payload }, wake := false }

/-- R166: a frame forwarded to the yard, or dropped and counted. -/
def State.forwardToYard (s : State) (f : Frame) : State :=
  if s.yard.tx.length < Config.yardTxCap then s.pushYardTx f.forwarded else s.countDrop

/-- R166: a frame forwarded to the trunk, or dropped and counted. -/
def State.forwardToTrunk (s : State) (f : Frame) : State :=
  if s.trunk.tx.length < Config.trunkTxCap then s.pushTrunkTx f.forwarded else s.countDrop

/-! ## Pod state -/

/-- R174: a change of pod state logs one POD STATE event. -/
def State.changePod (s : State) (p : PodState) : State := ({ s with pod := p } : State).log (.podState s.pod p)

/-! ## Tank book and standing -/

/-- R134: the standing formed again, with its event when it changes. -/
def State.reformStanding (s : State) (t : TankId) : State :=
  let k := s.tank t
  let new := formStanding k.settings k.book
  if new = k.standing then s else (s.setTank t { k with standing := new }).log (.stockStanding t new)

/-- R17: a change of the book by a whole number of microlitres. -/
def State.addToBook (s : State) (t : TankId) (d : Int) : State :=
  s.setTank t { s.tank t with book := clampBook ((s.tank t).book + d) }

/-- R107: the debit of a tally's net increment; a debit of 0 changes nothing. -/
def State.debit (s : State) (t : TankId) (n : Nat) : State :=
  if n = 0 then s else (s.addToBook t (-(n : Int))).reformStanding t

/-! ## Census requests and starts -/

/-- R119, R120: a census request raised for a tank. -/
def State.raiseCensus (s : State) (t : TankId) (p : Purpose) : State :=
  s.setProbeTank t { s.probeTank t with want := some (coalesce (s.tank t).expects (s.probeTank t).want p) }

/-- R121: the tank whose census starts next, if any. -/
def State.nextCensus (s : State) : Option (TankId × Purpose) :=
  match s.probe.tanks.t1.want, s.probe.tanks.t2.want with
  | none, none => none
  | some p, none => some (.t1, p)
  | none, some p => some (.t2, p)
  | some p, some q => if s.probe.lastServed = .t1 then some (.t2, q) else some (.t1, p)

/-- R123: the conditions of stillness that hold at the start and at the end alike. -/
def State.tankQuiet (s : State) (t : TankId) : Bool := !s.anyBayOn t BayState.moving && !(s.tank t).receiving

/-- R123: the conditions of stillness at the start. -/
def State.stillNow (s : State) (t : TankId) : Bool := s.tankQuiet t && (s.probeTank t).settle.isNone

/-- What the controller drives as an attempt begins: phases 1 and 2 of R116. -/
def attemptActs (address : Nat) : List BusAct := [.start, .addressWrite address]

/-- Phases 3 to 7 of R116. -/
def completionActs (address : Nat) : List BusAct := [.index 0x20, .repeatedStart, .addressRead address, .readBytes 8, .stop]

/-- R117: what the controller drives from phase 3 on when the acknowledge of the named phase is missing. -/
def ackErrorActs (address : Nat) : AckPhase → List BusAct
  | .p2 => [.stop]
  | .p3 => [.index 0x20, .stop]
  | .p5 => [.index 0x20, .repeatedStart, .addressRead address, .stop]

/-- The controller drives the bus. -/
def State.drive (s : State) (acts : List BusAct) : State :=
  { s with probe := { s.probe with busActs := s.probe.busActs ++ acts } }

/-- The census in flight replaced. -/
def State.setFlight (s : State) (c : Option CensusInFlight) : State := { s with probe := { s.probe with inFlight := c } }

/-- R120, R121, R141: a census of a tank starts with its flag's purpose. -/
def State.beginCensus (s : State) (t : TankId) (p : Purpose) : State :=
  let a := (s.tank t).settings.probeAddress
  let c : CensusInFlight :=
    { tank := t, purpose := p, attempt := .first, wait := none, address := a, stillAtStart := s.stillNow t,
      own := decide ((s.tank t).expects = some p) }
  ((s.setProbeTank t { s.probeTank t with want := none }).setFlight (some c)).drive (attemptActs a)

/-- R121: a census starts whenever none is in flight and a flag is pending. -/
def State.startCensus (s : State) : State :=
  match s.probe.inFlight with
  | some _ => s
  | none =>
    match s.nextCensus with
    | none => s
    | some (t, p) => s.beginCensus t p

/-- R119: the census timer started from the full period in force. -/
def State.startCensusTimer (s : State) : State :=
  { s with probe := { s.probe with censusTimer := seconds s.podSettings.censusPeriod } }

/-- R127, R147: whether a census of a tank is in flight. -/
def State.censusOf (s : State) (t : TankId) : Bool :=
  match s.probe.inFlight with
  | some c => c.tank == t
  | none => false

/-- R123: a tank's settle timer started from its settle time. -/
def State.startSettle (s : State) (t : TankId) : State :=
  let n := (s.tank t).settings.settleTime
  s.setProbeTank t { s.probeTank t with settle := if n = 0 then none else some (seconds n) }

/-! ## The watch delay timer -/

/-- R177: the conditions under which the watch delay timer runs. -/
def State.watchReady (s : State) : Bool :=
  s.pod == .inService && bayList.all (fun b => (s.bay b).state.quiet && !(s.bay b).slot.pending)
    && !s.tanks.t1.receiving && !s.tanks.t2.receiving
    && s.probe.tanks.t1.want.isNone && s.probe.tanks.t2.want.isNone && s.probe.inFlight.isNone
    && s.yard.tx.isEmpty && s.trunk.tx.isEmpty

/-- R177: the timer starts when its conditions come to hold and stops when one ceases to hold. -/
def State.settleWatch (s : State) : State :=
  { s with watchTimer :=
      if s.watchReady then some (s.watchTimer.getD (seconds s.podSettings.watchDelay)) else none }

/-- R177: a running watch delay timer starts again from the full delay. -/
def State.restartWatch (s : State) : State :=
  { s with watchTimer := s.watchTimer.map (fun _ => seconds s.podSettings.watchDelay) }

/-- R171, R178: a request wakes the pod before it is decided; the yard port returns to RUN mode, and the watch delay timer
starts if the conditions of R177 then hold (DEDUCED, unsafe in POD STATUS's field: log 39). -/
def State.wakeByRequest (s : State) : State :=
  if s.pod = .watch then ((s.changePod .inService).setYardMode .run).settleWatch else s

/-- What every event ends with: a census starts if one can (R121), and the watch delay timer follows its conditions
(R177). -/
def State.settled (s : State) : State := s.startCensus.settleWatch

/-! ## The forms of an event -/

/-- An event of the part. When the state gives it its occasion it has its effect; when not, the event does not take
place and the state stays (DESIGN CHOICE, safe: log 1). -/
def event (occasion : Bool) (effect : State → State) (s : State) : Host.Outcome State Fault Refusal :=
  if occasion then .next (effect s).settled else .next s

/-- R165, R182: the frame the Frame Handler may take from the yard receive queue. -/
def State.yardHead (s : State) : Option Frame := if s.powered && !s.resetPending then s.yard.rx.head? else none

/-- R164, R182: the frame the Frame Handler may take from the trunk receive queue. -/
def State.trunkHead (s : State) : Option Frame :=
  if s.powered && !s.resetPending && s.trunk.tx.length < Config.trunkTxCap then s.trunk.rx.head? else none

/-- The frame at the head of the yard receive queue taken. -/
def State.popYard (s : State) : State := { s with yard := { s.yard with rx := s.yard.rx.tail } }

/-- The frame at the head of the trunk receive queue taken. -/
def State.popTrunk (s : State) : State := { s with trunk := { s.trunk with rx := s.trunk.rx.tail } }

/-! ## Classifying frames -/

/-- What becomes of a frame from the trunk (R164, R167). -/
inductive TrunkClass
  | request
  | broadcast
  | passThrough
  | drop
  deriving DecidableEq, Repr

/-- R164, R167: the treatment of a trunk frame by its destination. -/
def classifyTrunk (station : Byte) (f : Frame) : TrunkClass :=
  if f.dst = station then
    if isRequestKind f.kind && !f.payload.isEmpty then .request else .drop
  else if f.dst = 255 then
    if (f.kind == kindTimeSet || f.kind == kindShiftRoll) && !f.payload.isEmpty then .broadcast else .drop
  else if 240 ≤ f.dst.toNat ∧ f.dst.toNat ≤ 251 then .passThrough
  else .drop

/-- What becomes of a frame from the yard (R165). -/
inductive YardClass
  | tag (b : BayId)
  | tally (b : BayId)
  | valveStatus (b : BayId)
  | stationData
  | passThrough
  | drop
  deriving DecidableEq, Repr

/-- R165: the kinds a yard station may send. -/
def maySend (f : Frame) : Bool :=
  (f.kind == kindStationData && (240 ≤ f.src.toNat && f.src.toNat ≤ 251))
    || (f.kind == kindTag && (readerBay f.src).isSome)
    || (f.kind == kindTally && (meterBay f.src).isSome)
    || (f.kind == kindValveStatus && (valveBay f.src).isSome)

/-- R165: the treatment of a yard frame. -/
def classifyYard (station : Byte) (f : Frame) : YardClass :=
  if !maySend f || 252 ≤ f.dst.toNat then .drop
  else if f.kind = kindStationData then .stationData
  else if f.dst = station then
    if f.kind = kindTag then (match readerBay f.src with | some b => .tag b | none => .drop)
    else if f.kind = kindTally then (match meterBay f.src with | some b => .tally b | none => .drop)
    else (match valveBay f.src with | some b => .valveStatus b | none => .drop)
  else .passThrough

/-! ## Requests and replies -/

/-- A reply OK with fields. -/
def Reply.okWith (fields : ReplyFields) : Reply := { result := .ok, clamped := false, fields := fields }

/-- A reply OK, with CLAMPED where a value was clamped. -/
def Reply.okClamped (clamped : Bool) (fields : ReplyFields) : Reply := { result := .ok, clamped := clamped, fields := fields }

/-- R171: what a reply shows of the values as stored where its owner rule names none: present exactly when it is CLAMPED
(DEDUCED, unsafe in that field: log 36). -/
def shownIf {α : Type} (clamped : Bool) (stored : α) : Option α := if clamped then some stored else none

/-- A refusal with a result and no field. -/
def Reply.refuse (r : Result) : Reply := { result := r, clamped := false, fields := .nothing }

/-- A refusal with a result and fields. -/
def Reply.refuseWith (r : Result) (fields : ReplyFields) : Reply := { result := r, clamped := false, fields := fields }

/-- R167: the reply placed in the trunk transmit queue, addressed to the request's source. -/
def State.queueReply (s : State) (f : Frame) (r : Reply) : State :=
  s.pushTrunkTx { frame := { dst := f.src, src := s.station, kind := replyKind f.kind,
                             body := .reply (f.payload.headD 0) r }, wake := false }

/-- The request of a kind that stands at the head of the trunk receive queue and may be taken; a broadcast TIME SET or
SHIFT ROLL counts as one (R164, R171). -/
def State.requestAt (s : State) (kind : Byte) : Option Frame :=
  match s.trunkHead with
  | some f =>
    if f.kind = kind ∧ (classifyTrunk s.station f = .request ∨ classifyTrunk s.station f = .broadcast) then some f else none
  | none => none

/-- What a request's owner answers: a wrong length is INVALID (R167), any other request is served. -/
def answer {α : Type} (parse : List Byte → Option α) (bad : State → ReplyFields) (serve : α → State → State × Reply)
    (f : Frame) (s : State) : State × Reply :=
  match parse f.payload.tail with
  | some a => serve a s
  | none => (s, Reply.refuseWith .invalid (bad s))

/-- R164, R167, R171, R178: a request is taken, wakes the pod, is answered by its owner, and its reply is queued unless
it was a broadcast. -/
def serveRequest {α : Type} (parse : List Byte → Option α) (bad : State → ReplyFields)
    (serve : α → State → State × Reply) (f : Frame) (s : State) : State :=
  let r := answer parse bad serve f s.popTrunk.wakeByRequest
  if f.dst = 255 then r.1 else r.1.queueReply f r.2

/-- A request command of the given kind. -/
def request {α : Type} (kind : Byte) (parse : List Byte → Option α) (bad : State → ReplyFields)
    (serve : α → State → State × Reply) (s : State) : Host.Outcome State Fault Refusal :=
  match s.requestAt kind with
  | some f => event true (serveRequest parse bad serve f) s
  | none => .next s

/-- The fields of an INVALID reply that carries none. -/
def noFields (_ : State) : ReplyFields := .nothing

/-- R20: the record count that every FLEET reply carries. -/
def countFields (s : State) : ReplyFields := .fleetCount s.fleet.length

/-! ## Completion of an issue -/

/-- The grant copy with every field absent or 0 (R67). It stands in for a missing copy, which no active bay has. -/
def GrantCopy.blank : GrantCopy :=
  { tag := 0, unit := 0, limit := 0, reason := .fillCeiling, limp := false, notice := .noNotice, hours := none,
    tank := .t1, start := { time := 0, unset := true } }

/-- The grant a bay serves. -/
def Bay.serving (y : Bay) : GrantCopy := y.grant.getD GrantCopy.blank

/-- R85: AFTER-RUN set at a completion when the closing accumulator is above the after-run limit; R99: not by an
INTERRUPTED one. The cause is recorded. -/
def Bay.finish (cause : CloseCause) (y : Bay) : Bay :=
  { y with
    cause := some cause
    flags := { y.flags with
      afterRun := y.flags.afterRun
        || (cause != .interrupted && decide (y.settings.afterRunLimit * Config.microPerLitre < y.closing)) } }

/-- R85: the issue record of a bay whose issue completes; the journal gives its sequence. -/
def issueRecord (b : BayId) (cause : CloseCause) (y : Bay) (finish : Stamp) : IssueRecord :=
  let g := y.serving
  { seq := 0, start := g.start.time, finish := finish.time, clockUnset := g.start.unset || finish.unset, bay := b,
    tank := g.tank, tag := g.tag, unit := g.unit, limit := g.limit, reason := g.reason, grossCl := clOf y.gross,
    netCl := clOf y.net, averageTemp := averageTemp y.sumTG y.sumG, cause := cause,
    uncompensated := y.flags.uncompensated, tempClamped := y.flags.tempClamped, saturated := y.flags.saturated,
    overspeed := y.flags.overspeed, afterRun := y.flags.afterRun, valve := y.flags.valve, limp := g.limp, hours := g.hours }

/-- R49, R86 steps 1 and 2: the vehicle charged, disarmed and stamped, with its SERVICE events. -/
def State.chargeVehicle (s : State) (tag : Nat) (limpGrant : Bool) (netCl : Nat) : State :=
  match findTag tag s.fleet with
  | none => s
  | some v =>
    let r := v.chargeIssue limpGrant netCl s.stamp
    (s.setFleet (setVehicle r.1 s.fleet)).logAll r.2

/-- R86 step 3: the totalizers advanced. -/
def Bay.totalize (y : Bay) : Bay :=
  { y with grossTotal := y.grossTotal.add y.gross, netTotal := y.netTotal.add y.net }

/-- R86 step 4: the CLOSE NOTICE, for every cause but INTERRUPTED. -/
def State.closeNotice (s : State) (b : BayId) (cause : CloseCause) : State :=
  if cause = .interrupted then s
  else s.notice b kindCloseNotice (.closeNotice (s.bay b).serving.tag (clOf (s.bay b).net) cause) false

/-- R87, R99: the bay's next state after a completion, with the BAY FAULT event. -/
def State.moveOn (s : State) (b : BayId) (cause : CloseCause) : State :=
  let y := s.bay b
  if cause = .interrupted then s.setBay b y.toDraining
  else
    match y.flags.fault with
    | some c => (s.setBay b y.toFaulted).log (.bayFault b c)
    | none => if y.state = .granted then s.setBay b (y.enter .idle) else s.setBay b y.toDraining

/-- R85 to R87, R123: the completion of bay b's issue with a close cause. -/
def State.complete (s : State) (b : BayId) (cause : CloseCause) : State :=
  let y := (s.bay b).finish cause
  let s1 := (s.setBay b y.totalize).setJournal (s.journal.writeIssue (issueRecord b cause y s.stamp))
  let s2 := s1.chargeVehicle y.serving.tag y.serving.limp (clOf y.net)
  ((s2.closeNotice b cause).startSettle y.serving.tank).moveOn b cause

/-- The cause a CLOSING bay recorded on entry (R83). -/
def Bay.recordedCause (y : Bay) : CloseCause := y.cause.getD .site

/-- R80, R82, R90, R137, R176: an issue ended from outside the bay. GRANTED completes at once, FLOWING and TRIMMING enter
CLOSING, any other state is left as it is. -/
def State.endIssue (s : State) (cause : CloseCause) (b : BayId) : State :=
  match (s.bay b).state with
  | .granted => s.complete b cause
  | .flowing => s.setBay b ((s.bay b).toClosing cause)
  | .trimming => s.setBay b ((s.bay b).toClosing cause)
  | _ => s

/-! ## The passage of time -/

/-- A bay's timers after some time. -/
def Bay.elapse (ms : Nat) (y : Bay) : Bay :=
  { y with armTimer := y.armTimer.after ms, noFlowTimer := y.noFlowTimer.after ms, gapTimer := y.gapTimer.after ms,
           closeTimer := y.closeTimer.after ms, drainTimer := y.drainTimer.after ms }

/-- A tank's delivery window after some time. -/
def Tank.elapse (ms : Nat) (k : Tank) : Tank :=
  { k with delivery := k.delivery.map (fun d => { d with window := d.window.after ms }) }

/-- The controller's timers after some time. -/
def Probe.elapse (ms : Nat) (p : Probe) : Probe :=
  { p with tanks := p.tanks.map (fun k => { k with settle := k.settle.after ms })
           inFlight := p.inFlight.map (fun c => { c with wait := c.wait.after ms })
           censusTimer := p.censusTimer - ms }

/-- Every running timer after some time (DESIGN CHOICE, safe: log 4). -/
def State.elapse (s : State) (ms : Nat) : State :=
  { s with bays := s.bays.map (Bay.elapse ms), tanks := s.tanks.map (Tank.elapse ms), probe := s.probe.elapse ms,
           watchTimer := s.watchTimer.after ms }

/-- R172: the clock advances by one, from 4,294,967,295 to 0, as a second ends. -/
def State.tickClock (s : State) : State := { s with clock := (s.clock + 1) % Config.wrap32, subMs := 0 }

/-- What an empty queue does: one millisecond passes while the part runs, and the clock ticks as a second ends
(DESIGN CHOICE, safe: log 4). -/
def State.idleStep (s : State) : State :=
  if s.powered then
    let s1 := s.elapse 1
    if 999 ≤ s.subMs then s1.tickClock else { s1 with subMs := s.subMs + 1 }
  else s

end Sys2Proof.Machine
end

