-- ==== Sys2Proof/Machine/Authorise.lean ====
section
/-! DEFINITION. TAG (04): the ten checks, the grant limit, the grant and the refusal. -/

namespace Sys2Proof.Machine

/-- What the first six checks give (R59). -/
inductive EarlyVerdict
  | refuse (code : RefusalCode)
  | repeatGrant
  | allow (v : Vehicle)
  deriving DecidableEq, Repr

/-- R59, check 6: the record's permitted bays are absent or include the bay. -/
def Vehicle.mayUse (v : Vehicle) (b : BayId) : Bool :=
  match v.permitted with
  | none => true
  | some p => p.get b

/-- R59, checks 3 to 6. -/
def recordChecks (b : BayId) (tag : Nat) (s : State) : EarlyVerdict :=
  match findTag tag s.fleet with
  | none => .refuse .unknownTag
  | some v =>
    if v.status = .barred then .refuse .barred
    else if v.armedAt.isSome then .refuse .inUse
    else if v.mayUse b then .allow v
    else .refuse .bayNotPermitted

/-- R60: the bay's grant copy holds the tag. -/
def Bay.holdsTag (y : Bay) (tag : Nat) : Bool :=
  match y.grant with
  | none => false
  | some g => g.tag == tag

/-- R59, checks 1 to 6. Check 1 finds a WATCH pod already woken (R73). -/
def earlyChecks (b : BayId) (tag : Nat) (s : State) : EarlyVerdict :=
  if s.pod ≠ .inService ∧ s.pod ≠ .watch then .refuse .podClosed
  else
    match (s.bay b).state with
    | .idle => recordChecks b tag s
    | .granted => if (s.bay b).holdsTag tag then .repeatGrant else .refuse .bayBusy
    | .draining => .refuse .bayDraining
    | .disabled => .refuse .bayDisabled
    | _ => .refuse .bayBusy

/-- R59, check 8: the tank's tests in their order. -/
def tankCheck (k : Tank) (priority : Fin 4) : Option RefusalCode :=
  if k.receiving then some .tankReceiving
  else if k.varianceHold || k.waterHold then some .tankHold
  else if k.standing = .empty then some .tankEmpty
  else if k.standing = .reserve ∧ priority < k.settings.reservePriority then some .reserveOnly
  else none

/-- R63, R64: candidate 1. -/
def ceilingCandidate (v : Vehicle) (k : Tank) : LimitReason × Nat :=
  if k.standing = .ration ∧ v.priority < 3 then (.ration, v.fillCeiling * k.settings.rationPercent / 100)
  else (.fillCeiling, v.fillCeiling)

/-- R22, R63: candidate 2. -/
def allowanceCandidate (v : Vehicle) : List (LimitReason × Nat) :=
  match v.allowance with
  | none => []
  | some a => [(.allowance, a.litres - a.usedCl / 100)]

/-- R51, R63: candidate 3. -/
def limpCandidate (v : Vehicle) (e : ClassEntry) : List (LimitReason × Nat) :=
  if v.standing = .overdue then [(.limp, e.limpAllotment)] else []

/-- R63: the least candidate, the first of those that tie. -/
def leastCandidate (first : LimitReason × Nat) (rest : List (LimitReason × Nat)) : LimitReason × Nat :=
  rest.foldl (fun best c => if c.2 < best.2 then c else best) first

/-- R63: the grant limit with its reason. -/
def grantLimit (v : Vehicle) (e : ClassEntry) (k : Tank) : LimitReason × Nat :=
  leastCandidate (ceilingCandidate v k) (allowanceCandidate v ++ limpCandidate v e ++ [(.stock, bookLitres k.book)])

/-- R62: the issue ring's held records plus its reservations are fewer than the issue span. -/
def Journal.hasRoom (j : Journal) : Bool := j.issues.records.length + j.reservations < j.issueSpan

/-- R25: the class entry of a vehicle. -/
def State.classOf (s : State) (v : Vehicle) : ClassEntry := s.classes[v.cls]

/-- R59, checks 7 to 10, for the record as the hours step left it. -/
def lateChecks (b : BayId) (v : Vehicle) (s : State) : Option RefusalCode :=
  let k := s.tank (s.bay b).settings.tank
  if v.standing = .locked then some .serviceLock
  else
    match tankCheck k v.priority with
    | some c => some c
    | none =>
      if !s.journal.hasRoom then some .journalFull
      else
        let limit := grantLimit v (s.classOf v) k
        if limit.2 < Config.minGrant then some (.limitTooLow limit.1) else none

/-- R67: the grant copy written at the grant. -/
def grantCopy (b : BayId) (v : Vehicle) (hours : Option Nat) (s : State) : GrantCopy :=
  let limit := grantLimit v (s.classOf v) (s.tank (s.bay b).settings.tank)
  { tag := v.tag, unit := v.unit, limit := limit.2, reason := limit.1, limp := v.standing == .overdue,
    notice := v.standing.notice, hours := hours, tank := (s.bay b).settings.tank, start := s.stamp }

/-- R67, R78: a bay that takes a grant: the issue's accumulation starts afresh, the bay is GRANTED and its arm timer
runs. The valve order slot is not written (R78). R87: the grant clears the flow estimate that BAY STATUS has shown since
the completion; its seeded mark is cleared with it (DEDUCED, safe: log 14). -/
def Bay.takeGrant (g : GrantCopy) (y : Bay) : Bay :=
  { y.enter .granted with
    grant := some g, gross := 0, net := 0, closing := 0, sumTG := 0, sumG := 0, heldTemp := none, flow := 0,
    seeded := false, tallyCount := 0, flags := IssueFlags.clear, cause := none, shutSeen := false, armTimer := some (seconds y.settings.armTime) }

/-- R66: the GRANT NOTICE of a grant copy. -/
def GrantCopy.noticeBody (g : GrantCopy) : Body := .grantNotice g.tag g.limit g.reason g.notice

/-- R66: the grant, its four changes in order. -/
def State.grantAt (s : State) (b : BayId) (v : Vehicle) (hours : Option Nat) (wake : Bool) : State :=
  let g := grantCopy b v hours s
  let s1 := (s.setBay b ((s.bay b).takeGrant g)).setJournal s.journal.reserve
  let s2 := s1.setFleet (setVehicle { v with armedAt := some b } s1.fleet)
  s2.notice b kindGrantNotice g.noticeBody wake

/-- R69: a REFUSAL event is coalesced with the newest record of the event ring. -/
def coalesced (b : BayId) (tag : Nat) (code : RefusalCode) (s : State) : Bool :=
  match s.journal.events.records.getLast? with
  | none => false
  | some r => r.kind == .refusal b tag code && r.time.time ≤ s.clock && s.clock - r.time.time < Config.coalesceSeconds

/-- R68: a refusal: the notice, then the event unless it is coalesced. -/
def State.refuseTag (s : State) (b : BayId) (tag : Nat) (code : RefusalCode) (wake : Bool) : State :=
  let s1 := s.notice b kindRefusalNotice (.refusalNotice tag code) wake
  if coalesced b tag code s1 then s1 else s1.log (.refusal b tag code)

/-- R47: the hours step: the record after the frame's hours, written back, and its events logged. -/
def State.hoursStep (s : State) (v : Vehicle) (hours : Option Nat) : State × Vehicle :=
  let r := v.applyHours (s.classOf v).hourCeiling hours
  ((s.setFleet (setVehicle r.1 s.fleet)).logAll r.2, r.1)

/-- R60: the GRANT NOTICE of the grant held, sent again. -/
def State.repeatGrant (s : State) (b : BayId) (wake : Bool) : State :=
  s.notice b kindGrantNotice (s.bay b).serving.noticeBody wake

/-- R59: the decision. -/
def State.decideTag (s : State) (b : BayId) (r : TagRead) (wake : Bool) : State :=
  match earlyChecks b r.tag s with
  | .refuse c => s.refuseTag b r.tag c wake
  | .repeatGrant => s.repeatGrant b wake
  | .allow v =>
    let h := s.hoursStep v r.hours
    match lateChecks b h.2 h.1 with
    | some c => h.1.refuseTag b r.tag c wake
    | none => h.1.grantAt b h.2 r.hours wake

/-- R163, R165, R178: a TAG frame taken: a WATCH pod wakes first; a frame of a wrong length is dropped, and a waking one
then sets RUN mode at once. -/
def State.takeTag (s : State) (b : BayId) (payload : List Byte) : State :=
  let waking := s.pod == .watch
  let s1 := if waking then s.changePod .inService else s
  match parseTag payload with
  | some r => s1.decideTag b r waking
  | none => if waking then s1.runAtOnce else s1

/-- TAG (R59): its occasion is a TAG for the pod at the head of the yard receive queue. -/
def execTag (s : State) : Host.Outcome State Fault Refusal :=
  match s.yardHead with
  | some f =>
    match classifyYard s.station f with
    | .tag b => event true (fun t => t.popYard.takeTag b f.payload) s
    | _ => .next s
  | none => .next s

end Sys2Proof.Machine
end

