-- ==== Sys2Proof/Machine/Metering.lean ====
section
/-! DEFINITION. TALLY and VALVE_STATUS (06): metering a tally, and what the bay's Sequencer does with it (05). -/

namespace Sys2Proof.Machine

/-! ## Metering -/

/-- The temperature used for a tally and which source gave it (R4). -/
inductive TempSource
  | supplied (t : Int)
  | held (t : Int)
  | census (t : Int)
  | assumed
  deriving DecidableEq, Repr

/-- R4: the chain of sources. Source 2 is used only while the bay is active. -/
def tempSource (active : Bool) (heldTemp lastGood supplied : Option Int) : TempSource :=
  match supplied with
  | some t => .supplied t
  | none =>
    match (if active then heldTemp else none) with
    | some t => .held t
    | none =>
      match lastGood with
      | some t => .census t
      | none => .assumed

/-- R4, R5: the temperature used. -/
def TempSource.used : TempSource → Int
  | .supplied t => clampTemp t
  | .held t => t
  | .census t => t
  | .assumed => 150

/-- What one tally comes to at a bay (R101 steps 1 to 4). -/
structure Metered where
  source : TempSource
  temp : Int
  gross : Nat
  net : Nat
  sample : Option Nat
  deriving DecidableEq, Repr

/-- R101 steps 1 to 4, from the bay and its tank as they stand. -/
def meter (y : Bay) (k : Tank) (t : Tally) : Metered :=
  let src := tempSource y.state.active y.heldTemp k.lastGoodTemp t.temp
  let g := grossIncrement t.pulses y.settings.meterFactor
  { source := src, temp := src.used, gross := g, net := netIncrement g src.used k.settings.expansion,
    sample := flowSample g t.interval }

/-- R104: the flags an issue tally sets. -/
def meterFlags (y : Bay) (m : Metered) : IssueFlags :=
  { y.flags with
    uncompensated := y.flags.uncompensated || m.source == .assumed
    tempClamped := y.flags.tempClamped || (match m.source with | .supplied t => tempOutside t | _ => false)
    saturated := y.flags.saturated || accFull y.gross m.gross || accFull y.net m.net }

/-- R102: the bay after an issue tally. R13: the sums take what the gross accumulator rose by. -/
def Bay.addIssueTally (m : Metered) (pulses : Nat) (y : Bay) : Bay :=
  let rise := addAcc y.gross m.gross - y.gross
  let f := if y.state.valveOpen then advanceFlow y.flow y.seeded pulses m.sample else (y.flow, y.seeded)
  { y with
    gross := addAcc y.gross m.gross
    net := addAcc y.net m.net
    closing := if y.state = .closing then addAcc y.closing m.net else y.closing
    sumTG := y.sumTG + m.temp * rise
    sumG := y.sumG + rise
    heldTemp := match m.source with | .supplied _ => some m.temp | _ => y.heldTemp
    tallyCount := addCount16 y.tallyCount
    flags := meterFlags y m
    flow := f.1
    seeded := f.2 }

/-- R102: the bay after a tally is metered, by the state it was taken in. -/
def Bay.addTally (m : Metered) (pulses : Nat) (y : Bay) : Bay :=
  if y.state.active then y.addIssueTally m pulses else { y with unassigned := y.unassigned + m.net }

/-! ## The Sequencer's part -/

/-- METER set. -/
def Bay.setMeter (y : Bay) : Bay := { y with flags := { y.flags with meter := true } }

/-- VALVE set. -/
def Bay.setValve (y : Bay) : Bay := { y with flags := { y.flags with valve := true } }

/-- OVERSPEED set. -/
def Bay.setOverspeed (y : Bay) : Bay := { y with flags := { y.flags with overspeed := true } }

/-- R79: a tally handed over in GRANTED. -/
def State.tallyGranted (s : State) (b : BayId) (t : Tally) : State :=
  if t.status = .faulty then (s.setBay b (s.bay b).setMeter).complete b .meterFault
  else if t.nozzle = .lifted then s.setBay b (s.bay b).toFlowing
  else s

/-- R81, test 2: the sample is present and above max flow. -/
def overspeed (y : Bay) (sample : Option Nat) : Bool :=
  match sample with
  | some x => y.settings.maxFlow < x
  | none => false

/-- R12: the remaining volume of the bay's issue. -/
def Bay.remaining (y : Bay) : Int := remainingVolume y.serving.limit y.net

/-- R81: what a tally in FLOWING or TRIMMING makes of the bay: the five tests in order, the first that holds decides. -/
def tallyFlowing (t : Tally) (sample : Option Nat) (y : Bay) : Bay :=
  if t.status = .faulty then y.setMeter.toClosing .meterFault
  else if overspeed y sample then y.setOverspeed.toClosing .overspeed
  else if y.remaining ≤ leadVolume y.flow y.settings.closeLead then y.toClosing .limit
  else if y.state = .flowing ∧ 0 < y.settings.slowBand ∧ y.remaining ≤ y.settings.slowBand * 1000000 then
    y.toTrimming.restartFlowTimers t.pulses
  else if t.nozzle = .stowed then y.toClosing .nozzle
  else y.restartFlowTimers t.pulses

/-- R83, R96: no time has passed since the bay entered CLOSING, so an event taken now met the one that closed it
(DEDUCED, unsafe: log 31). -/
def Bay.justClosed (y : Bay) : Bool := y.closeTimer == some (seconds y.settings.closeTime)

/-- R84, R96: the flag a tally in CLOSING sets: METER for a status of FAULT; OVERSPEED for a sample above max flow when the
tally met the event that closed the bay. At any later tally the sample is not read (R106; DEDUCED, unsafe: log 31). -/
def Bay.closingTally (t : Tally) (sample : Option Nat) (y : Bay) : Bay :=
  if t.status = .faulty then y.setMeter
  else if y.justClosed && overspeed y sample then y.setOverspeed
  else y

/-- R84: a tally handed over in CLOSING. One of status FAULT with no pulses taken while the mark is set sets METER and
completes the issue, where R84 has FAULT leave the bay in CLOSING (DEDUCED, unsafe: log 32). -/
def State.tallyClosing (s : State) (b : BayId) (t : Tally) (sample : Option Nat) : State :=
  let y := (s.bay b).closingTally t sample
  let s1 := s.setBay b y
  if t.pulses = 0 ∧ y.shutSeen then s1.complete b y.recordedCause else s1

/-- R92: unassigned flow above the threshold. The bay in IDLE or DRAINING goes to FAULTED. -/
def State.unaccounted (s : State) (b : BayId) : State :=
  let y := s.bay b
  if Config.unassignedLimit < y.unassigned then
    let z : Bay := { y with unassigned := 0 }
    (s.log (.unaccountedFlow b (clOf y.unassigned))).setBay b
      (if y.state = .idle ∨ y.state = .draining then z.toFaulted else z)
  else s

/-- R93: a fault reported at a bay that was IDLE or DRAINING. -/
def State.faultIdle (s : State) (b : BayId) (cause : BayFaultCause) : State :=
  (s.setBay b (s.bay b).toFaulted).log (.bayFault b cause)

/-- R92, R93: a tally handed over at a bay that was not active; both rules go by the state it was taken in
(DEDUCED: log 15). -/
def State.tallyInactive (s : State) (b : BayId) (t : Tally) (taken : BayState) : State :=
  let s1 := s.unaccounted b
  if t.status = .faulty ∧ (taken = .idle ∨ taken = .draining) then s1.faultIdle b .meterFault else s1

/-- R108: a metered tally handed to the Sequencer, by the state it was taken in. -/
def State.handTally (s : State) (b : BayId) (t : Tally) (sample : Option Nat) (taken : BayState) : State :=
  match taken with
  | .granted => s.tallyGranted b t
  | .flowing => s.setBay b (tallyFlowing t sample (s.bay b))
  | .trimming => s.setBay b (tallyFlowing t sample (s.bay b))
  | .closing => s.tallyClosing b t sample
  | st => s.tallyInactive b t st

/-- R101: the work done for one tally. -/
def State.takeTally (s : State) (b : BayId) (t : Tally) : State :=
  let y := s.bay b
  let m := meter y (s.tank y.settings.tank) t
  let s1 := (s.setBay b (y.addTally m t.pulses)).debit y.settings.tank m.net
  s1.handTally b t m.sample y.state

/-- TALLY (R100, R101): its occasion is a TALLY for the pod at the head of the yard receive queue. One that R100
discards is taken with no effect. -/
def execTally (s : State) : Host.Outcome State Fault Refusal :=
  match s.yardHead with
  | some f =>
    match classifyYard s.station f with
    | .tally b =>
      event true (fun u => match parseTally f.payload with
        | some t => u.popYard.takeTally b t
        | none => u.popYard) s
    | _ => .next s
  | none => .next s

/-! ## Valve status -/

/-- R84: a valve report in CLOSING. -/
def Bay.closingReport (r : ReportedValve) (y : Bay) : Bay :=
  let z : Bay := { y with shutSeen := r.position == .shut }
  if r.health = .faulty then z.setValve else z

/-- R110: the Sequencer's action on a report, by the bay's state. -/
def State.handValve (s : State) (b : BayId) (r : ReportedValve) : State :=
  match (s.bay b).state with
  | .granted => if r.health = .faulty then (s.setBay b (s.bay b).setValve).complete b .valve else s
  | .flowing => if r.health = .faulty then s.setBay b ((s.bay b).setValve.toClosing .valve) else s
  | .trimming => if r.health = .faulty then s.setBay b ((s.bay b).setValve.toClosing .valve) else s
  | .closing => s.setBay b ((s.bay b).closingReport r)
  | .idle => if r.health = .faulty then s.faultIdle b .valve else s
  | .draining => if r.health = .faulty then s.faultIdle b .valve else s
  | .faulted => s
  | .disabled => s

/-- R110: a report taken: the reported valve is written, then the Sequencer acts. -/
def State.takeValve (s : State) (b : BayId) (r : ReportedValve) : State :=
  (s.setBay b { s.bay b with reported := some r }).handValve b r

/-- VALVE_STATUS (R110): its occasion is a VALVE STATUS for the pod at the head of the yard receive queue. One of a wrong
length is taken with no effect. -/
def execValveStatus (s : State) : Host.Outcome State Fault Refusal :=
  match s.yardHead with
  | some f =>
    match classifyYard s.station f with
    | .valveStatus b =>
      event true (fun u => match parseValveStatus f.payload with
        | some r => u.popYard.takeValve b r
        | none => u.popYard) s
    | _ => .next s
  | none => .next s

end Sys2Proof.Machine
end

