-- ==== Sys2Proof/Machine/Bays.lean ====
section
/-! DEFINITION. The Bay Sequencers' own events (05): the five bay timers' expiries, and the requests BAY SET, BAY STOP,
BAY RELEASE and BAY STATUS. -/

namespace Sys2Proof.Machine

/-! ## Timer expiries -/

/-- ARM_TIMER_EXPIRY (R80): its occasion is an arm timer that has run out. -/
def execArmTimerExpiry (b : BayId) (s : State) : Host.Outcome State Fault Refusal :=
  event (s.powered && (s.bay b).state == .granted && (s.bay b).armTimer.ranOut) (fun t => t.complete b .armTimeout) s

/-- NO_FLOW_TIMER_EXPIRY (R82): its occasion is a no-flow timer that has run out; R96: a tally with pulses taken first
has started it again. -/
def execNoFlowTimerExpiry (b : BayId) (s : State) : Host.Outcome State Fault Refusal :=
  event (s.powered && (s.bay b).state.valveOpen && (s.bay b).noFlowTimer.ranOut)
    (fun t => t.setBay b ((t.bay b).toClosing .noFlow)) s

/-- GAP_TIMER_EXPIRY (R82): its occasion is a gap timer that has run out; R96: a tally taken first has started it again. -/
def execGapTimerExpiry (b : BayId) (s : State) : Host.Outcome State Fault Refusal :=
  event (s.powered && (s.bay b).state.valveOpen && (s.bay b).gapTimer.ranOut)
    (fun t => t.setBay b ((t.bay b).toClosing .meterSilent)) s

/-- R84: the close timer's expiry completes the issue; VALVE is set first when the shut-seen mark is clear. -/
def State.closeExpires (s : State) (b : BayId) : State :=
  let y := if (s.bay b).shutSeen then s.bay b else (s.bay b).setValve
  (s.setBay b y).complete b y.recordedCause

/-- CLOSE_TIMER_EXPIRY (R84): its occasion is a close timer that has run out. -/
def execCloseTimerExpiry (b : BayId) (s : State) : Host.Outcome State Fault Refusal :=
  event (s.powered && (s.bay b).state == .closing && (s.bay b).closeTimer.ranOut) (fun t => t.closeExpires b) s

/-- DRAIN_TIMER_EXPIRY (R88): its occasion is a drain timer that has run out. -/
def execDrainTimerExpiry (b : BayId) (s : State) : Host.Outcome State Fault Refusal :=
  event (s.powered && (s.bay b).state == .draining && (s.bay b).drainTimer.ranOut)
    (fun t => t.setBay b ((t.bay b).enter .idle)) s

/-! ## BAY SET -/

/-- R75, R76: the settings a BAY SET gives once its values are clamped; max flow is clamped in L/min, then converted. -/
def BaySetReq.settings (r : BaySetReq) (enabled : Bool) (tank : TankId) : BaySettings :=
  { enabled := enabled
    tank := tank
    meterFactor := clampNat 1000 1000000 r.meterFactor
    maxFlow := heldMaxFlow (clampNat 10 1500 r.maxFlow)
    slowBand := clampNat 0 500 r.slowBand
    closeLead := clampNat 0 2000 r.closeLead
    armTime := clampNat 10 300 r.armTime
    noFlowTime := clampNat 2 60 r.noFlowTime
    gapTime := clampNat 1 10 r.gapTime
    closeTime := clampNat 2 30 r.closeTime
    drainTime := clampNat 0 60 r.drainTime
    afterRunLimit := clampNat 1 200 r.afterRunLimit }

/-- R76: whether any value of a BAY SET is clamped. -/
def BaySetReq.clamps (r : BaySetReq) : Bool :=
  outsideNat 1000 1000000 r.meterFactor || outsideNat 10 1500 r.maxFlow || outsideNat 0 500 r.slowBand
    || outsideNat 0 2000 r.closeLead || outsideNat 10 300 r.armTime || outsideNat 2 60 r.noFlowTime
    || outsideNat 1 10 r.gapTime || outsideNat 2 30 r.closeTime || outsideNat 0 60 r.drainTime
    || outsideNat 1 200 r.afterRunLimit

/-- R76: the bay after its settings are replaced: the state by the table, an entry to DISABLED ordering SHUT. -/
def Bay.configure (settings : BaySettings) (y : Bay) : Bay :=
  let z : Bay := { y with settings := settings }
  match y.state with
  | .idle => if settings.enabled then z else (z.enter .disabled).order .shut
  | .faulted => if settings.enabled then z else (z.enter .disabled).order .shut
  | .disabled => if settings.enabled then z.enter .idle else z
  | _ => z

/-- R76: the states in which BAY SET is refused with BUSY. -/
def BayState.refusesSet (st : BayState) : Bool := st.active || st == .draining

/-- R76: BAY SET. The reply names the bay, which R76 does not (DESIGN CHOICE, safe: log 33). -/
def baySet (r : BaySetReq) (s : State) : State × Reply :=
  match bayOf r.bay, tankOf r.tank, yesNo r.enabled with
  | some b, some k, some en =>
    if (s.bay b).state.refusesSet then (s, .refuse .busy)
    else
      let y := (s.bay b).configure (r.settings en k)
      (s.setBay b y, .okClamped r.clamps (.baySettings b y.settings y.state))
  | _, _, _ => (s, .refuse .invalid)

/-- BAY_SET (R76). -/
def execBaySet (s : State) : Host.Outcome State Fault Refusal := request 0x23 parseBaySet noFields baySet s

/-! ## BAY STOP, BAY RELEASE -/

/-- R90: BAY STOP. -/
def bayStop (n : Nat) (s : State) : State × Reply :=
  match bayOf n with
  | none => (s, .refuse .invalid)
  | some b =>
    let t := s.endIssue .site b
    (t, .okWith (.bayStop (t.bay b).state))

/-- BAY_STOP (R90). -/
def execBayStop (s : State) : Host.Outcome State Fault Refusal := request 0x2D (parseOne 1) noFields bayStop s

/-- R89: BAY RELEASE. -/
def bayRelease (n : Nat) (s : State) : State × Reply :=
  match bayOf n with
  | none => (s, .refuse .invalid)
  | some b =>
    if (s.bay b).state = .faulted then (s.setBay b (((s.bay b).enter .idle).order .shut), .okWith .nothing)
    else (s, .refuse .stateRefused)

/-- BAY_RELEASE (R89). -/
def execBayRelease (s : State) : Host.Outcome State Fault Refusal := request 0x2E (parseOne 1) noFields bayRelease s

/-! ## BAY STATUS -/

/-- R97: the running timers' remaining times. -/
def Bay.timerReport (y : Bay) : TimerReport :=
  { arm := y.armTimer.map secondsLeft, noFlow := y.noFlowTimer.map secondsLeft, gap := y.gapTimer.map secondsLeft,
    close := y.closeTimer.map secondsLeft, drain := y.drainTimer.map secondsLeft }

/-- R97: what BAY STATUS carries. The grant copy is given whole, its tank (R67) with the fields R97 names (DESIGN CHOICE, safe:
log 33); all five timers are given (log 19). -/
def Bay.report (y : Bay) : BayReport :=
  { state := y.state, tank := y.settings.tank, timers := y.timerReport, grant := y.grant, grossCl := clOf y.gross,
    netCl := clOf y.net, closingCl := clOf y.closing,
    remainingCl := if y.state.active then some (toCl y.remaining) else none, tallyCount := y.tallyCount, flow := y.flow,
    flags := y.flags, cause := y.cause, slot := y.slot, reported := y.reported, unassignedCl := clOf y.unassigned,
    grossLitres := y.grossTotal.litres, netLitres := y.netTotal.litres }

/-- R97: BAY STATUS. The reply names the bay, which R97 does not (DESIGN CHOICE, safe: log 33). -/
def bayStatus (n : Nat) (s : State) : State × Reply :=
  match bayOf n with
  | none => (s, .refuse .invalid)
  | some b => (s, .okWith (.bayReport b (s.bay b).report))

/-- BAY_STATUS (R97). -/
def execBayStatus (s : State) : Host.Outcome State Fault Refusal := request 0x3A (parseOne 1) noFields bayStatus s

end Sys2Proof.Machine
end

