-- ==== Sys2Proof/Machine/Census.lean ====
section
/-! DEFINITION. The Probe Bus Controller (07): the census and settle timers, ACK errors and the retry, the census result
and its hand-off with the delivery, water and variance tests of the Tank Account Unit (08), CENSUS NOW and STRAP SET. -/

namespace Sys2Proof.Machine

/-! ## Step 1 of the hand-off: the failure count -/

/-- R124: the failure count after an outcome. -/
def nextFailures (failed : Bool) (n : Nat) : Nat := if failed then min (n + 1) 3 else 0

/-- R124: the gauge event of an outcome. -/
def gaugeEvent (t : TankId) (failed : Bool) (n : Nat) : List EventKind :=
  if failed then (if n = 2 then [.gaugeLost t] else []) else if n = 3 then [.gaugeRestored t] else []

/-- R122 step 1. -/
def State.gaugeStep (s : State) (t : TankId) (failed : Bool) : State :=
  let n := (s.probeTank t).failures
  (s.setProbeTank t { s.probeTank t with failures := nextFailures failed n }).logAll (gaugeEvent t failed n)

/-! ## Step 2: volumes -/

/-- R18, R19: the gauged volumes of a reading on a complete table, and whether the level lies above the last point. -/
def gauged (points : List StrapPoint) (expansion : Nat) (r : Reading) : Option (Volumes × Bool) :=
  (strapVolume points r.level).map (fun p => ({ gross := p.1, net := compensate p.1 r.temp expansion }, p.2))

/-- R122 step 2: the outcome and the volumes of a result, by the table as it stands. -/
def volumeStep (k : Tank) (outcome : CensusOutcome) (reading : Option Reading) : CensusOutcome × Option Volumes :=
  match outcome, reading, k.strapping with
  | .failed, _, _ => (.failed, none)
  | o, some r, .complete ps =>
    match gauged ps k.settings.expansion r with
    | some (v, above) => (if above then .overRange else o, some v)
    | none => (o, none)
  | o, _, _ => (o, none)

/-! ## Step 3: the tank account -/

/-- R135 steps 1 and 2. -/
def Tank.takeResult (r : CensusResult) (k : Tank) : Tank :=
  { k with
    latestCensus := some r
    lastGoodTemp := match r.outcome, r.reading with
      | .failed, _ => k.lastGoodTemp
      | _, some x => some x.temp
      | _, none => k.lastGoodTemp }

/-- R143 step 2: the measured volume and the delivery variance, in microlitres. -/
def Delivery.measured (d : Delivery) (net : Option Int) : Option Int :=
  match net, d.preNet with
  | some n, some p => some (n - p)
  | _, _ => none

/-- R143 step 4: the DELIVERY event. -/
def Delivery.eventOf (d : Delivery) (t : TankId) (net : Option Int) : EventKind :=
  .delivery t d.docket ((d.measured net).map toCl) ((d.measured net).map (fun m => toCl (m - d.docket * 1000000)))
    d.expired

/-- R143: the completion of a delivery on its POST result. -/
def State.completeDelivery (s : State) (t : TankId) (d : Delivery) (net : Option Int) : State :=
  let s1 := s.addToBook t (d.docket * 1000000)
  let s2 := s1.setTank t { s1.tank t with delivery := none }
  (s2.log (d.eventOf t net)).reformStanding t

/-- R141: a delivery's own PRE result. -/
def State.recordPre (s : State) (t : TankId) (d : Delivery) (net : Option Int) : State :=
  s.setTank t { s.tank t with delivery := some { d with preNet := net, phase := .opened } }

/-- R135 step 3: a delivery's own census applied to it. -/
def State.applyOwn (s : State) (t : TankId) (own : Bool) (net : Option Int) : State :=
  match own, (s.tank t).delivery with
  | true, some d =>
    match d.phase with
    | .awaitingPre => s.recordPre t d net
    | .completing => s.completeDelivery t d net
    | .opened => s
  | _, _ => s

/-- R137 step 3: every active bay on the tank closed with cause TANK, in bay order. -/
def State.closeForWater (s : State) (t : TankId) : State :=
  bayList.foldl (fun u b => if (u.bay b).settings.tank = t then u.endIssue .tank b else u) s

/-- R137: the water test of a result of outcome OK. -/
def State.waterTest (s : State) (t : TankId) (level : Nat) : State :=
  if (s.tank t).settings.waterLimit < level ∧ (s.tank t).waterHold = false then
    ((s.setTank t { s.tank t with waterHold := true }).log (.water t level)).closeForWater t
  else s

/-- R136: whether a variance is a strike. -/
def isStrike (tolerance : Nat) (variance : Int) : Bool := tolerance * 1000000 < variance.natAbs

/-- R136: the variance test of a result that qualifies. -/
def State.varianceTest (s : State) (t : TankId) (net : Int) : State :=
  let k := s.tank t
  let v := net - k.book
  if isStrike k.settings.tolerance v then
    if k.strikes = 2 then
      let s1 := (s.setTank t { k with latestVariance := some v, strikes := 3 }).log (.variance t (toCl v))
      if k.settings.holdEnable then s1.setTank t { s1.tank t with varianceHold := true } else s1
    else s.setTank t { k with latestVariance := some v, strikes := min (k.strikes + 1) 3 }
  else s.setTank t { k with latestVariance := some v, strikes := 0 }

/-- R135 steps 4 and 5: the tests that a result of outcome OK undergoes. -/
def State.censusTests (s : State) (r : CensusResult) : State :=
  match r.outcome, r.reading with
  | .ok, some x =>
    let s1 := s.waterTest r.tank x.water
    match r.still, r.volumes with
    | true, some v => s1.varianceTest r.tank v.net
    | _, _ => s1
  | _, _ => s

/-- R135: the Tank Account Unit takes a result. -/
def State.takeResult (s : State) (r : CensusResult) (own : Bool) : State :=
  let s1 := s.setTank r.tank ((s.tank r.tank).takeResult r)
  (s1.applyOwn r.tank own (r.volumes.map (·.net))).censusTests r

/-! ## The hand-off -/

/-- R122: the census result, formed after step 1. -/
def censusResult (s : State) (c : CensusInFlight) (outcome : CensusOutcome) (reading : Option Reading) : CensusResult :=
  let v := volumeStep (s.tank c.tank) outcome reading
  { tank := c.tank, time := s.stamp, purpose := c.purpose, outcome := v.1, reading := reading, volumes := v.2,
    still := c.stillAtStart && s.tankQuiet c.tank }

/-- R121: the census ends: none is in flight and its tank is the one last served. -/
def State.endCensus (s : State) (t : TankId) : State :=
  { s with probe := { s.probe with inFlight := none, lastServed := t } }

/-- R122 steps 1 to 3. Step 4 is what every event ends with. -/
def State.handOff (s : State) (c : CensusInFlight) (outcome : CensusOutcome) (reading : Option Reading) : State :=
  let s1 := s.gaugeStep c.tank (outcome == .failed)
  (s1.takeResult (censusResult s1 c outcome reading) c.own).endCensus c.tank

/-! ## The bus events -/

/-- R117: whether an attempt is on the bus. -/
def CensusInFlight.onBus (c : CensusInFlight) : Bool := c.wait.isNone

/-- R117: an ACK error: the first starts the 50 ms wait, the second ends the census FAILED with no reading. -/
def State.ackFails (s : State) (c : CensusInFlight) (phase : AckPhase) : State :=
  let s1 := s.drive (ackErrorActs c.address phase)
  match c.attempt with
  | .first => s1.setFlight (some { c with wait := some Config.retryWaitMs })
  | .retry => s1.handOff c .failed none

/-- ACK_ERROR (R117): its occasion is an attempt on the bus. -/
def execAckError (phase : AckPhase) (s : State) : Host.Outcome State Fault Refusal :=
  match s.probe.inFlight with
  | some c => event (s.powered && c.onBus) (fun u => u.ackFails c phase) s
  | none => .next s

/-- R116, R117: the retry begins with the probe address as it then stands. -/
def State.beginRetry (s : State) (c : CensusInFlight) : State :=
  let a := (s.tank c.tank).settings.probeAddress
  (s.setFlight (some { c with attempt := .retry, wait := none, address := a })).drive (attemptActs a)

/-- RETRY_WAIT_EXPIRY (R117): its occasion is a wait of 50 ms that has run out. -/
def execRetryWaitExpiry (s : State) : Host.Outcome State Fault Refusal :=
  match s.probe.inFlight with
  | some c => event (s.powered && c.wait.ranOut) (fun u => u.beginRetry c) s
  | none => .next s

/-- R116, R118: phase 7 completes: the reading is decoded and handed off. -/
def State.censusCompletes (s : State) (c : CensusInFlight) (d : ReadingBlock) : State :=
  (s.drive (completionActs c.address)).handOff c (ReadingBlock.outcome d) (some (ReadingBlock.reading d))

/-- CENSUS_TRANSACTION (R116, R118, R122): its occasion is an attempt on the bus. -/
def execCensusTransaction (d : ReadingBlock) (s : State) : Host.Outcome State Fault Refusal :=
  match s.probe.inFlight with
  | some c => event (s.powered && c.onBus) (fun u => u.censusCompletes c d) s
  | none => .next s

/-! ## Timers -/

/-- R119: the census timer's expiry. -/
def State.censusTimerExpires (s : State) : State :=
  ((s.raiseCensus .t1 .periodic).raiseCensus .t2 .periodic).startCensusTimer

/-- CENSUS_TIMER_EXPIRY (R119): the timer always runs; the occasion is that its time has run out (log 5). -/
def execCensusTimerExpiry (s : State) : Host.Outcome State Fault Refusal :=
  event (s.powered && s.probe.censusTimer == 0) State.censusTimerExpires s

/-- SETTLE_TIMER_EXPIRY (R123): its occasion is a settle timer that has run out, which stops. -/
def execSettleTimerExpiry (t : TankId) (s : State) : Host.Outcome State Fault Refusal :=
  event (s.powered && (s.probeTank t).settle.ranOut) (fun u => u.setProbeTank t { u.probeTank t with settle := none }) s

/-! ## CENSUS NOW -/

/-- R127: CENSUS NOW. -/
def censusNow (n : Nat) (s : State) : State × Reply :=
  match tankOf n with
  | none => (s, .refuse .invalid)
  | some t =>
    let u := s.raiseCensus t .onRequest
    (u, .okWith (.censusNow t (u.probeTank t).want (u.censusOf t)))

/-- CENSUS_NOW (R127). -/
def execCensusNow (s : State) : Host.Outcome State Fault Refusal := request 0x35 (parseOne 1) noFields censusNow s

/-! ## STRAP SET -/

/-- R125: a point clamped. -/
def StrapPoint.clamped (p : StrapPoint) : StrapPoint :=
  { level := clampNat 0 50000 p.level, litres := clampNat 0 200000 p.litres }

/-- R125: whether a point is clamped. -/
def StrapPoint.outside (p : StrapPoint) : Bool := outsideNat 0 50000 p.level || outsideNat 0 200000 p.litres

/-- R126: levels strictly rise and volumes do not fall from each point to the next. -/
def risingPoints : List StrapPoint → Bool
  | p :: q :: rest => p.level < q.level && p.litres ≤ q.litres && risingPoints (q :: rest)
  | _ => true

/-- R126: the check of a whole table. -/
def tablePasses (ps : List StrapPoint) : Bool := 2 ≤ ps.length && risingPoints ps

/-- R125: the table once a piece is taken; none where the first index is refused. -/
def Strapping.takePiece (first : Nat) (piece : List StrapPoint) (k : Strapping) : Option (List StrapPoint) :=
  if first = 0 then some piece
  else
    match k with
    | .loading ps => if first = ps.length then some (ps ++ piece) else none
    | _ => none

/-- R126: the table after a piece with or without the final mark. -/
def finishTable (final : Bool) (ps : List StrapPoint) : Strapping :=
  if final then (if tablePasses ps then .complete ps else .empty) else .loading ps

/-- R125: what every reply about a known tank carries: load state, points held and gauge state, and the tank they are
of, which R125 does not name (DESIGN CHOICE, safe: log 33). `stored` is what a CLAMPED reply shows (R171). -/
def State.strapFields (s : State) (t : TankId) (stored : Option (List StrapPoint)) : ReplyFields :=
  let k := (s.tank t).strapping
  .strapping t k.load k.points.length (gaugeOf k (s.probeTank t).failures) stored

/-- R125, R126: STRAP SET for a known tank. The reply carries the fields of R125, and a CLAMPED one the piece's points as
stored (R171; DEDUCED, unsafe in that field: log 36). -/
def State.loadStrap (s : State) (t : TankId) (final : Bool) (r : StrapSetReq) : State × Reply :=
  if r.points.length = 0 ∨ 8 < r.points.length ∨ 24 < r.first + r.points.length then
    (s, .refuseWith .invalid (s.strapFields t none))
  else
    let piece := r.points.map StrapPoint.clamped
    let clamped := r.points.any StrapPoint.outside
    match (s.tank t).strapping.takePiece r.first piece with
    | none => (s, .refuseWith .invalid (s.strapFields t none))
    | some ps =>
      let u := s.setTank t { s.tank t with strapping := finishTable final ps }
      if final && !tablePasses ps then (u, .refuseWith .invalid (u.strapFields t none))
      else (u, .okClamped clamped (u.strapFields t (shownIf clamped piece)))

/-- R125: STRAP SET. -/
def strapSet (r : StrapSetReq) (s : State) : State × Reply :=
  match tankOf r.tank, yesNo r.final with
  | some t, some final => s.loadStrap t final r
  | some t, none => (s, .refuseWith .invalid (s.strapFields t none))
  | none, _ => (s, .refuse .invalid)

/-- STRAP_SET (R125, R126). -/
def execStrapSet (s : State) : Host.Outcome State Fault Refusal := request 0x25 parseStrapSet noFields strapSet s

end Sys2Proof.Machine
end

