-- ==== Sys2Proof/Machine/Fleet.lean ====
section
/-! DEFINITION. The Fleet Register's requests (02, 03): FLEET PUT, FLEET DELETE, CLASS SET, SHIFT ROLL, SERVICE DONE,
FLEET GET and FLEET NEXT. -/

namespace Sys2Proof.Machine

/-! ## FLEET PUT -/

/-- R27: one counter's settings, clamped, with remaining at its interval (R28); none when the basis names nothing. -/
def CounterReq.counter (c : CounterReq) : Option Counter :=
  (basisOf c.basis).map (fun b =>
    { code := c.code, basis := b, interval := clampNat 1 99999999 c.interval, grace := clampNat 0 99999999 c.grace,
      remaining := clampNat 1 99999999 c.interval })

/-- R27: the counters of a request, in order; none when a basis names nothing. -/
def countersOf : List CounterReq → Option (List Counter)
  | [] => some []
  | c :: rest =>
    match c.counter, countersOf rest with
    | some x, some xs => some (x :: xs)
    | _, _ => none

/-- Whether a list holds some value twice. -/
def hasRepeat : List Nat → Bool
  | [] => false
  | x :: xs => xs.contains x || hasRepeat xs

/-- R27: whether any value of a FLEET PUT is clamped. An allowance of 0 is absent (R170), so it is not. -/
def FleetPutReq.clamps (r : FleetPutReq) : Bool :=
  outsideNat 0 3 r.priority || outsideNat 10 20000 r.fillCeiling || (r.allowance != 0 && outsideNat 1 65535 r.allowance)
    || r.counters.any (fun c => outsideNat 1 99999999 c.interval || outsideNat 0 99999999 c.grace)

/-- R28: the record an insert makes of a request that passes the checks of R27. -/
def FleetPutReq.record (r : FleetPutReq) (cls : Fin 16) (status : VehicleStatus) (counters : List Counter) : Vehicle :=
  { tag := r.tag, unit := r.unit, cls := cls, priority := clampPriority r.priority, status := status,
    fillCeiling := clampNat 10 20000 r.fillCeiling, permitted := permittedField r.permitted,
    allowance := if r.allowance = 0 then none else some { litres := clampNat 1 65535 r.allowance, usedCl := 0 },
    counters := counters, limpUsed := false, lastHours := none, armedAt := none, lastIssue := none }

/-- R27: the checks of a FLEET PUT, answering the insert's record and the keep-counters choice; none is INVALID. -/
def FleetPutReq.check (r : FleetPutReq) : Option (Vehicle × Bool) :=
  if h : r.cls < 16 then
    match statusOf r.status, countersOf r.counters, yesNo r.keep with
    | some st, some cs, some keep =>
      if r.tag = 0 ∨ permittedEmpty (permittedField r.permitted) ∨ 3 < cs.length ∨ hasRepeat (cs.map (·.code)) then none
      else some (r.record ⟨r.cls, h⟩ st cs, keep)
    | _, _, _ => none
  else none

/-- R29: a counter of the new list keeps the remaining of a counter of the old list with its code and basis. -/
def Counter.keepFrom (old : List Counter) (c : Counter) : Counter :=
  match old.find? (fun o => o.code == c.code && o.basis == c.basis) with
  | some o => { c with remaining := o.remaining }
  | none => c

/-- R29: the allowance with the used volume carried over when both records have one. -/
def keepAllowance (old new : Option Allowance) : Option Allowance :=
  match old, new with
  | some a, some b => some { b with usedCl := a.usedCl }
  | _, n => n

/-- R29: the record a replace makes, from the old record and the insert's record. -/
def Vehicle.replaceBy (old new : Vehicle) (keep : Bool) : Vehicle :=
  if keep then
    let cs := new.counters.map (Counter.keepFrom old.counters)
    { new with
      counters := cs, allowance := keepAllowance old.allowance new.allowance, lastHours := old.lastHours
      limpUsed := old.limpUsed && anyOverdue cs, armedAt := old.armedAt, lastIssue := old.lastIssue }
  else { new with armedAt := old.armedAt, lastIssue := old.lastIssue }

/-- R23: a counter's settings. -/
def Counter.settings (c : Counter) : CounterSettings :=
  { code := c.code, basis := c.basis, interval := c.interval, grace := c.grace }

/-- R21 to R23: a record's settings, as stored. -/
def Vehicle.settings (v : Vehicle) : VehicleSettings :=
  { unit := v.unit, cls := v.cls, priority := v.priority, status := v.status, fillCeiling := v.fillCeiling,
    permitted := v.permitted, allowance := v.allowance.map (·.litres), counters := v.counters.map Counter.settings }

/-- R27 to R30: FLEET PUT. The reply carries the fields of R27, and a CLAMPED one the record's settings as stored (R171;
DEDUCED, unsafe in that field: log 36). -/
def fleetPut (r : FleetPutReq) (s : State) : State × Reply :=
  match r.check with
  | none => (s, .refuseWith .invalid (countFields s))
  | some (v, keep) =>
    match findTag v.tag s.fleet with
    | some old =>
      let w := old.replaceBy v keep
      let t := s.setFleet (setVehicle w s.fleet)
      (t, .okClamped r.clamps (.fleetPut t.fleet.length v.tag false (shownIf r.clamps w.settings)))
    | none =>
      if Config.maxVehicles ≤ s.fleet.length then (s, .refuseWith .full (countFields s))
      else
        let t := s.setFleet (insertVehicle v s.fleet)
        (t, .okClamped r.clamps (.fleetPut t.fleet.length v.tag true (shownIf r.clamps v.settings)))

/-- FLEET_PUT (R27 to R30). -/
def execFleetPut (s : State) : Host.Outcome State Fault Refusal := request 0x20 parseFleetPut countFields fleetPut s

/-! ## FLEET DELETE -/

/-- R31: FLEET DELETE. -/
def fleetDelete (tag : Nat) (s : State) : State × Reply :=
  match findTag tag s.fleet with
  | none => (s, .refuseWith .notFound (.fleetDelete s.fleet.length tag))
  | some v =>
    if v.armedAt.isSome then (s, .refuseWith .busy (.fleetDelete s.fleet.length tag))
    else
      let t := s.setFleet (removeTag tag s.fleet)
      (t, .okWith (.fleetDelete t.fleet.length tag))

/-- FLEET_DELETE (R31). -/
def execFleetDelete (s : State) : Host.Outcome State Fault Refusal :=
  request 0x21 (parseOne 4) countFields fleetDelete s

/-! ## CLASS SET -/

/-- R26: CLASS SET. The reply names the class beside its entry, which R26 does not (DESIGN CHOICE, safe: log 33). -/
def classSet (r : Nat × Nat × Nat) (s : State) : State × Reply :=
  if h : r.1 < 16 then
    let e : ClassEntry := { limpAllotment := clampNat 10 2000 r.2.1, hourCeiling := clampNat 1 10000 r.2.2 }
    ({ s with classes := s.classes.set r.1 e h },
      .okClamped (outsideNat 10 2000 r.2.1 || outsideNat 1 10000 r.2.2) (.classEntry r.1 e))
  else (s, .refuse .invalid)

/-- CLASS_SET (R26). -/
def execClassSet (s : State) : Host.Outcome State Fault Refusal := request 0x22 (parseThree 1 2 2) noFields classSet s

/-! ## SHIFT ROLL -/

/-- R34: a record after the roll. -/
def Vehicle.roll (v : Vehicle) : Vehicle := { v with allowance := v.allowance.map (fun a => { a with usedCl := 0 }) }

/-- R34: SHIFT ROLL. -/
def shiftRoll (_ : Unit) (s : State) : State × Reply :=
  (s.setFleet (s.fleet.map Vehicle.roll), .okWith (.shiftRoll (s.fleet.filter (fun v => v.allowance.isSome)).length))

/-- SHIFT_ROLL (R34). -/
def execShiftRoll (s : State) : Host.Outcome State Fault Refusal := request 0x2C parseNone noFields shiftRoll s

/-! ## SERVICE DONE -/

/-- R54: remaining set to the interval. -/
def Counter.reset (c : Counter) : Counter := { c with remaining := c.interval }

/-- R54 steps 1 and 2: a record whose counter of a code is reset. -/
def Vehicle.service (code : Nat) (v : Vehicle) : Vehicle :=
  let cs := v.counters.map (fun c => if c.code = code then c.reset else c)
  { v with counters := cs, limpUsed := v.limpUsed && anyOverdue cs }

/-- The counter of a code. -/
def Vehicle.counterOf (code : Nat) (v : Vehicle) : Option Counter := v.counters.find? (fun c => c.code == code)

/-- R54: SERVICE DONE. -/
def serviceDone (r : Nat × Nat) (s : State) : State × Reply :=
  match findTag r.1 s.fleet with
  | none => (s, .refuse .notFound)
  | some v =>
    match v.counterOf r.2 with
    | none => (s, .refuse .notFound)
    | some c =>
      let w := v.service r.2
      ((s.setFleet (setVehicle w s.fleet)).log (.serviceDone r.1 r.2),
        .okWith (.serviceDone r.1 r.2 c.reset.remaining w.standing))

/-- SERVICE_DONE (R54). -/
def execServiceDone (s : State) : Host.Outcome State Fault Refusal := request 0x2F (parseTwo 4 1) noFields serviceDone s

/-! ## FLEET GET, FLEET NEXT -/

/-- R32: a record in the view of a code. -/
def viewOf (count : Nat) (v : Vehicle) : Nat → Option ReplyFields
  | 0 => some (.fleetRecord count v)
  | 1 => some (.fleetCounters count v)
  | _ => none

/-- R32, R33: the reply that shows the record found, in the view asked for; INVALID for a view code that names nothing
and then NOT FOUND, both with the record count. -/
def fleetView (found : Option Vehicle) (view : Nat) (s : State) : Reply :=
  if 1 < view then .refuseWith .invalid (countFields s)
  else
    match found.bind (fun v => viewOf s.fleet.length v view) with
    | some f => .okWith f
    | none => .refuseWith .notFound (countFields s)

/-- R32: FLEET GET. -/
def fleetGet (r : Nat × Nat) (s : State) : State × Reply := (s, fleetView (findTag r.1 s.fleet) r.2 s)

/-- FLEET_GET (R32). -/
def execFleetGet (s : State) : Host.Outcome State Fault Refusal := request 0x3C (parseTwo 4 1) countFields fleetGet s

/-- R33: FLEET NEXT. -/
def fleetNext (r : Nat × Nat) (s : State) : State × Reply := (s, fleetView (nextTag r.1 s.fleet) r.2 s)

/-- FLEET_NEXT (R33). -/
def execFleetNext (s : State) : Host.Outcome State Fault Refusal := request 0x3D (parseTwo 4 1) countFields fleetNext s

end Sys2Proof.Machine
end

