-- ==== Sys2Proof/Machine/JournalRequests.lean ====
section
/-! DEFINITION. The Journal's requests (09): JOURNAL LAYOUT, JOURNAL READ and JOURNAL RELEASE. -/

namespace Sys2Proof.Machine

/-! ## JOURNAL LAYOUT -/

/-- R150: whether a layout may be taken: both rings empty and no reservation. -/
def Journal.idle (j : Journal) : Bool := j.issues.records.isEmpty && j.events.records.isEmpty && j.reservations == 0

/-- R150: the store divided anew. -/
def Journal.layout (span : Nat) (j : Journal) : Journal :=
  { j with
    issueSpan := span
    issues := { j.issues with readPtr := 0, writePtr := 0 }
    events := { j.events with readPtr := span, writePtr := span } }

/-- R150: JOURNAL LAYOUT. -/
def journalLayout (span : Nat) (s : State) : State × Reply :=
  if s.journal.idle then
    let j := s.journal.layout (clampNat Config.minIssueSpan Config.maxIssueSpan span)
    (s.setJournal j, .okClamped (outsideNat Config.minIssueSpan Config.maxIssueSpan span)
      (.journalLayout j.issueSpan j.eventSpan))
  else (s, .refuse .busy)

/-- JOURNAL_LAYOUT (R150). -/
def execJournalLayout (s : State) : Host.Outcome State Fault Refusal :=
  request 0x36 (parseOne 2) noFields journalLayout s

/-! ## The rings as reported -/

/-- R156, R157: the held count, the oldest sequence or, when empty, the next one, the count of the ring's own, and the
overwrite count. -/
def ringSummary {α : Type} (seqOf : α → Nat) (g : Ring α) (aux overwrites : Nat) : RingSummary :=
  match g.records with
  | [] => { held := 0, oldest := g.nextSeq, empty := true, aux := aux, overwrites := overwrites }
  | r :: rest =>
    { held := rest.length + 1, oldest := seqOf r, empty := false, aux := aux, overwrites := overwrites }

/-- R156, R157: the issue ring, with its reservation count. R154 has the overwrite count in every JOURNAL READ and JOURNAL
RELEASE reply, so it stands here too; the bytes R170 lays out for JOURNAL READ of this ring have no place for it
(DEDUCED, unsafe in that reply: log 34). -/
def Journal.issueSummary (j : Journal) : RingSummary :=
  ringSummary IssueRecord.seq j.issues j.reservations j.overwrites

/-- R154, R156: the event ring, whose own count is the overwrite count. -/
def Journal.eventSummary (j : Journal) : RingSummary := ringSummary EventRecord.seq j.events j.overwrites j.overwrites

/-! ## JOURNAL READ -/

/-- R156: the most records one reply carries. -/
def replyRecords : RingId → Nat
  | .issue => 1
  | .event => 3

/-- R156: the records at positions k onward, at most so many. -/
def heldFrom {α : Type} (k n : Nat) (rs : List α) : List α := (rs.drop k).take n

/-- R156: JOURNAL READ. -/
def journalRead (r : Nat × Nat × Nat) (s : State) : State × Reply :=
  match ringOf r.1 with
  | none => (s, .refuse .invalid)
  | some .issue =>
    (s, .okWith (.journalIssues s.journal.issueSummary
      (heldFrom r.2.1 (min r.2.2 (replyRecords .issue)) s.journal.issues.records)))
  | some .event =>
    (s, .okWith (.journalEvents s.journal.eventSummary
      (heldFrom r.2.1 (min r.2.2 (replyRecords .event)) s.journal.events.records)))

/-- JOURNAL_READ (R156). -/
def execJournalRead (s : State) : Host.Outcome State Fault Refusal :=
  request 0x3E (parseThree 1 2 1) noFields journalRead s

/-! ## JOURNAL RELEASE -/

/-- R157: the journal after a release of n records of a ring. -/
def Journal.releaseFrom (ring : RingId) (n : Nat) (j : Journal) : Journal :=
  match ring with
  | .issue => { j with issues := Ring.release 0 j.issueSpan n j.issues }
  | .event => { j with events := Ring.release j.issueSpan j.eventSpan n j.events }

/-- R157: a ring's held count. -/
def Journal.held (j : Journal) : RingId → Nat
  | .issue => j.issues.records.length
  | .event => j.events.records.length

/-- R157: a ring's summary. -/
def Journal.summary (j : Journal) : RingId → RingSummary
  | .issue => j.issueSummary
  | .event => j.eventSummary

/-- R157: JOURNAL RELEASE; R171 clamps a count above 1,024. The reply carries the fields of R157, and a CLAMPED one
the count as clamped (R171; DEDUCED, unsafe in that field: log 36). -/
def journalRelease (r : Nat × Nat) (s : State) : State × Reply :=
  match ringOf r.1 with
  | none => (s, .refuse .invalid)
  | some ring =>
    let n := min r.2 Config.journalSlots
    let j := s.journal.releaseFrom ring n
    let clamped := decide (Config.journalSlots < r.2)
    (s.setJournal j, .okClamped clamped
      (.journalRelease ring (s.journal.held ring - j.held ring) (j.summary ring) (shownIf clamped n)))

/-- JOURNAL_RELEASE (R157). -/
def execJournalRelease (s : State) : Host.Outcome State Fault Refusal :=
  request 0x37 (parseTwo 1 2) noFields journalRelease s

end Sys2Proof.Machine
end

