-- ==== Sys2Proof/Machine/Pod.lean ====
section
/-! DEFINITION. The Pod Controller (11): the pod clock and TIME SET, the pod settings, the pod states, the watch delay
timer's expiry, POD RESET and POD STATUS. -/

namespace Sys2Proof.Machine

/-! ## The pod clock -/

/-- R172: the second ends: the rest of it passes for every timer and the clock advances by one (log 4). -/
def State.clockTick (s : State) : State := (s.elapse (1000 - s.subMs)).tickClock

/-- POD_CLOCK_TICK (R172): the clock counts while main power is present. -/
def execPodClockTick (s : State) : Host.Outcome State Fault Refusal := event s.powered State.clockTick s

/-- R172: TIME SET. The part of the present second already passed stays as it was, so the first tick after it comes within
a second (DESIGN CHOICE, safe: log 38). -/
def timeSet (time : Nat) (s : State) : State × Reply :=
  ({ s with clock := time, clockSet := true }, .okWith (.timeSet s.stamp time))

/-- TIME_SET (R172). -/
def execTimeSet (s : State) : Host.Outcome State Fault Refusal := request 0x2B (parseOne 4) noFields timeSet s

/-! ## POD SET -/

/-- R160, R173: a rate setting clamped. -/
def clampRate (rs d : Nat) : Rate := { s := clampNat 0 7 rs, d := clampNat 2 127 d }

/-- R173: the pod settings a POD SET gives once clamped. -/
def PodSetReq.settings (r : PodSetReq) : PodSettings :=
  { censusPeriod := clampNat 30 3600 r.censusPeriod, watchDelay := clampNat 10 600 r.watchDelay,
    deliveryWindow := clampNat 10 240 r.deliveryWindow, yardRate := clampRate r.yardS r.yardD,
    trunkRate := clampRate r.trunkS r.trunkD }

/-- R173: whether any value of a POD SET is clamped. -/
def PodSetReq.clamps (r : PodSetReq) : Bool :=
  outsideNat 30 3600 r.censusPeriod || outsideNat 10 600 r.watchDelay || outsideNat 10 240 r.deliveryWindow
    || outsideNat 0 7 r.yardS || outsideNat 2 127 r.yardD || outsideNat 0 7 r.trunkS || outsideNat 2 127 r.trunkD

/-- R119, R160, R173: the pod settings replaced: the census timer and a running watch delay timer start again, the yard
port takes its rate at once when it is between frames, the trunk port later (log 18). -/
def State.applyPodSettings (s : State) (p : PodSettings) : State :=
  (({ s with podSettings := p } : State).startCensusTimer).restartWatch.tryYardRate

/-- R173: POD SET. -/
def podSet (r : PodSetReq) (s : State) : State × Reply :=
  (s.applyPodSettings r.settings,
    .okClamped r.clamps (.podSettings r.settings r.settings.yardRate.bitRate r.settings.trunkRate.bitRate))

/-- POD_SET (R173). -/
def execPodSet (s : State) : Host.Outcome State Fault Refusal := request 0x26 parsePodSet noFields podSet s

/-! ## POD START -/

/-- R175: some enabled bay names a tank that has no stock-set mark. -/
def State.wantsStock (s : State) (t : TankId) : Bool :=
  bayList.any (fun b => (s.bay b).settings.enabled && decide ((s.bay b).settings.tank = t)) && !(s.tank t).stockSet

/-- R175: the conditions of POD START that fail. -/
def State.startConditions (s : State) : StartConditions :=
  { clockUnset := !s.clockSet, noBayEnabled := !bayList.any (fun b => (s.bay b).settings.enabled),
    tank1NotSet := s.wantsStock .t1, tank2NotSet := s.wantsStock .t2 }

/-- R175: whether some condition fails. -/
def StartConditions.fails (c : StartConditions) : Bool := c.clockUnset || c.noBayEnabled || c.tank1NotSet || c.tank2NotSet

/-- R175: POD START. -/
def podStart (_ : Unit) (s : State) : State × Reply :=
  if s.pod = .blank then
    if s.startConditions.fails then (s, .refuseWith .stateRefused (.startConditions s.startConditions))
    else (s.changePod .inService, .okWith .nothing)
  else (s, .refuse .stateRefused)

/-- POD_START (R175). -/
def execPodStart (s : State) : Host.Outcome State Fault Refusal := request 0x27 parseNone noFields podStart s

/-! ## POD SUSPEND, POD RESUME, POD RESET -/

/-- R176: whether a halt ends the issue of a bay in this state. -/
def BayState.haltable : BayState → Bool
  | .granted => true
  | .flowing => true
  | .trimming => true
  | _ => false

/-- R176: the number of bays a halt completes or sends to CLOSING. -/
def State.haltCount (s : State) : Nat := (bayList.filter (fun b => (s.bay b).state.haltable)).length

/-- R176: a halt acts on the bays in bay order. -/
def State.haltBays (s : State) : State := bayList.foldl (fun u b => u.endIssue .site b) s

/-- R176: POD SUSPEND. -/
def podSuspend (n : Nat) (s : State) : State × Reply :=
  match yesNo n with
  | none => (s, .refuse .invalid)
  | some halt =>
    if s.pod = .blank then (s, .refuse .stateRefused)
    else
      let s1 := if s.pod = .suspended then s else s.changePod .suspended
      if halt then (s1.haltBays, .okWith (.podSuspend s1.pod s1.haltCount)) else (s1, .okWith (.podSuspend s1.pod 0))

/-- POD_SUSPEND (R176). -/
def execPodSuspend (s : State) : Host.Outcome State Fault Refusal := request 0x28 (parseOne 1) noFields podSuspend s

/-- R176: POD RESUME. -/
def podResume (_ : Unit) (s : State) : State × Reply :=
  if s.pod = .suspended then (s.changePod .inService, .okWith .nothing) else (s, .refuse .stateRefused)

/-- POD_RESUME (R176). -/
def execPodResume (s : State) : Host.Outcome State Fault Refusal := request 0x29 parseNone noFields podResume s

/-- R182: POD RESET: from here the Frame Handler takes no further frame. -/
def podReset (_ : Unit) (s : State) : State × Reply := ({ s with resetPending := true }, .okWith .nothing)

/-- POD_RESET (R182). -/
def execPodReset (s : State) : Host.Outcome State Fault Refusal := request 0x2A parseNone noFields podReset s

/-! ## The watch delay timer -/

/-- R163, R177: the pod enters WATCH. -/
def State.enterWatch (s : State) : State := (s.changePod .watch).setYardMode .watch

/-- WATCH_DELAY_TIMER_EXPIRY (R177): its occasion is a watch delay timer that has run out. A frame placed
in a receive queue first has started it again, and the pod stays IN SERVICE. -/
def execWatchDelayTimerExpiry (s : State) : Host.Outcome State Fault Refusal :=
  event (s.powered && s.pod == .inService && s.watchTimer.ranOut) State.enterWatch s

/-! ## POD STATUS -/

/-- R179: a tank as POD STATUS summarises it. -/
def State.tankSummary (s : State) (t : TankId) : TankSummary :=
  { standing := (s.tank t).standing, receiving := (s.tank t).receiving, varianceHold := (s.tank t).varianceHold,
    waterHold := (s.tank t).waterHold, want := (s.probeTank t).want }

/-- R179: what POD STATUS carries. The census timer's remaining time is in whole seconds rounded up, as the other timers'
are, R179 naming no unit for it (DEDUCED, unsafe in that field: log 37). The watch delay timer is as the wake from WATCH left
it: a POD STATUS that wakes the pod shows the full delay when R177's conditions then hold (DEDUCED, unsafe in that field:
log 39). -/
def State.podReport (s : State) : PodReport :=
  { pod := s.pod, lastStart := s.lastStart, straps := s.straps, station := s.station, clock := s.clock,
    clockSet := s.clockSet, settings := s.podSettings, watchDelay := s.watchTimer.map secondsLeft,
    censusTimer := secondsLeft s.probe.censusTimer,
    inFlight := s.probe.inFlight.map (fun c => { tank := c.tank, purpose := c.purpose, attempt := c.attempt }),
    lastServed := s.probe.lastServed, bays := s.bays.map (·.state),
    tanks := { t1 := s.tankSummary .t1, t2 := s.tankSummary .t2 }, issueHeld := s.journal.issues.records.length,
    eventHeld := s.journal.events.records.length, reservations := s.journal.reservations,
    overwrites := s.journal.overwrites }

/-- R179: POD STATUS. -/
def podStatus (_ : Unit) (s : State) : State × Reply := (s, .okWith (.podReport s.podReport))

/-- POD_STATUS (R179). -/
def execPodStatus (s : State) : Host.Outcome State Fault Refusal := request 0x39 parseNone noFields podStatus s

end Sys2Proof.Machine
end

