-- ==== Sys2Proof/Machine/Codec.lean ====
section
/-! DEFINITION. The bytes of R170: the check of a frame, the value codes, and the payloads whose layout the manual gives
(yard notices, valve orders, FORWARD REFUSED, FLEET GET, FLEET NEXT, JOURNAL READ and its records). A reply whose layout
it does not give has no bytes here (DESIGN CHOICE, safe: log 16). -/

namespace Sys2Proof.Machine

/-! ## The check -/

/-- One bit of the CRC-16 of polynomial 1021 hex, most significant bit first. -/
def crcShift (c : BitVec 16) : BitVec 16 := if c.getLsbD 15 then (c <<< 1) ^^^ 0x1021#16 else c <<< 1

/-- One byte of the CRC. -/
def crcByte (c : BitVec 16) (b : Byte) : BitVec 16 :=
  crcShift (crcShift (crcShift (crcShift (crcShift (crcShift (crcShift (crcShift (c ^^^ (b.zeroExtend 16 <<< 8)))))))))

/-- R170: the check of the bytes from the destination through the last payload byte. -/
def crc16 (bs : List Byte) : BitVec 16 := bs.foldl crcByte 0xFFFF#16

/-! ## Widths -/

/-- R170: a whole number over so many bytes, most significant first. -/
def bytesBE : Nat → Nat → List Byte
  | 0, _ => []
  | w + 1, n => bytesBE w (n / 256) ++ [BitVec.ofNat 8 n]

/-- R170: a signed value in two's complement over so many bytes. -/
def bytesSigned (w : Nat) (i : Int) : List Byte := bytesBE w (i % (256 ^ w : Nat)).toNat

/-- A number as one byte. -/
def oneByte (n : Nat) : Byte := BitVec.ofNat 8 n

/-- A bit of a code byte. -/
def bitOf (b : Bool) (k : Nat) : Nat := if b then 2 ^ k else 0

/-- R170: an optional four-byte field; FFFFFFFF hex marks it absent. -/
def optBytes4 : Option Nat → List Byte
  | some n => bytesBE 4 n
  | none => [0xFF, 0xFF, 0xFF, 0xFF]

/-- R170: an optional temperature; 8000 hex marks it absent. -/
def tempBytes : Option Int → List Byte
  | some t => bytesSigned 2 t
  | none => [0x80, 0x00]

/-! ## Value codes -/

/-- R170: result codes. -/
def Result.code : Result → Nat
  | .ok => 0
  | .busy => 1
  | .notFound => 2
  | .full => 3
  | .invalid => 4
  | .stateRefused => 5

/-- R170: the result byte; 80 hex is added for CLAMPED. -/
def Reply.resultByte (r : Reply) : Byte := oneByte (r.result.code + bitOf r.clamped 7)

/-- R170: limit reason codes. -/
def LimitReason.code : LimitReason → Nat
  | .fillCeiling => 1
  | .allowance => 2
  | .ration => 3
  | .limp => 4
  | .stock => 5

/-- R170: refusal codes in the order of the table of R68. -/
def RefusalCode.code : RefusalCode → Nat
  | .podClosed => 0x01
  | .bayBusy => 0x02
  | .bayDraining => 0x03
  | .bayDisabled => 0x04
  | .unknownTag => 0x05
  | .barred => 0x06
  | .inUse => 0x07
  | .bayNotPermitted => 0x08
  | .serviceLock => 0x09
  | .tankReceiving => 0x0A
  | .tankHold => 0x0B
  | .tankEmpty => 0x0C
  | .reserveOnly => 0x0D
  | .journalFull => 0x0E
  | .limitTooLow _ => 0x0F

/-- R68, R170: the limit reason a refusal carries; 00 for none. -/
def RefusalCode.reasonCode : RefusalCode → Nat
  | .limitTooLow r => r.code
  | _ => 0

/-- R170: close cause codes. -/
def CloseCause.code : CloseCause → Nat
  | .limit => 0x01
  | .noFlow => 0x02
  | .nozzle => 0x03
  | .site => 0x04
  | .meterSilent => 0x05
  | .meterFault => 0x06
  | .overspeed => 0x07
  | .tank => 0x08
  | .valve => 0x09
  | .armTimeout => 0x0A
  | .interrupted => 0x0B

/-- R170: bay fault cause codes. -/
def BayFaultCause.code : BayFaultCause → Nat
  | .overspeed => 0x07
  | .meterFault => 0x06
  | .valve => 0x09
  | .afterRun => 0x0C

/-- R170: vehicle standing codes. -/
def VehicleStanding.code : VehicleStanding → Nat
  | .clear => 0
  | .due => 1
  | .overdue => 2
  | .locked => 3

/-- R170: tank standing codes. -/
def TankStanding.code : TankStanding → Nat
  | .normal => 0
  | .ration => 1
  | .reserve => 2
  | .empty => 3

/-- R170: pod state codes. -/
def PodState.code : PodState → Nat
  | .blank => 0
  | .inService => 1
  | .watch => 2
  | .suspended => 3

/-- R170: service notice codes. -/
def ServiceNotice.code : ServiceNotice → Nat
  | .noNotice => 0
  | .due => 1
  | .limp => 2

/-- R170: basis codes. -/
def Basis.code : Basis → Nat
  | .hours => 0
  | .fuel => 1

/-- R170: valve order codes. -/
def ValveOrder.code : ValveOrder → Nat
  | .shut => 0
  | .slow => 1
  | .full => 2

/-- R170: vehicle status codes. -/
def VehicleStatus.code : VehicleStatus → Nat
  | .active => 0
  | .barred => 1

/-! ## Records -/

/-- R170: permitted bays as one byte. -/
def permittedByte : Option (PerBay Bool) → Nat
  | none => 0
  | some p => bitOf p.b1 0 + bitOf p.b2 1 + bitOf p.b3 2 + bitOf p.b4 3 + 128

/-- R170: a counter in the RECORD view. -/
def Counter.recordBytes (c : Counter) : List Byte :=
  [oneByte c.code, oneByte (c.basis.code + c.standing.rank * 16)] ++ bytesSigned 4 c.remaining

/-- R170: a counter in the COUNTERS view. -/
def Counter.fullBytes (c : Counter) : List Byte :=
  [oneByte c.code, oneByte (c.basis.code + c.standing.rank * 16)] ++ bytesBE 4 c.interval ++ bytesBE 4 c.grace
    ++ bytesSigned 4 c.remaining

/-- R170: the last issue time with its marks. -/
def lastIssueBytes : Option Stamp → List Byte
  | none => [0xFF, 0xFF, 0xFF, 0xFF, 0x00]
  | some t => bytesBE 4 t.time ++ [oneByte (bitOf t.unset 0 + 2)]

/-- R170: the RECORD view after the record count. -/
def Vehicle.recordBytes (v : Vehicle) : List Byte :=
  bytesBE 4 v.tag ++ bytesBE 2 v.unit ++ [oneByte v.cls, oneByte v.priority, oneByte v.status.code]
    ++ bytesBE 2 v.fillCeiling ++ [oneByte (permittedByte v.permitted)]
    ++ bytesBE 2 ((v.allowance.map (·.litres)).getD 0) ++ bytesBE 4 ((v.allowance.map (·.usedCl)).getD 0)
    ++ [oneByte (v.standing.code + bitOf v.limpUsed 7)] ++ optBytes4 v.lastHours
    ++ [oneByte ((v.armedAt.map bayNumber).getD 0)] ++ lastIssueBytes v.lastIssue
    ++ [oneByte v.counters.length] ++ v.counters.flatMap Counter.recordBytes

/-- R170: the COUNTERS view after the record count. -/
def Vehicle.counterBytes (v : Vehicle) : List Byte :=
  bytesBE 4 v.tag ++ [oneByte v.counters.length, oneByte v.standing.code] ++ v.counters.flatMap Counter.fullBytes

/-- R170: an issue record of 35 bytes. -/
def IssueRecord.bytes (r : IssueRecord) : List Byte :=
  bytesBE 4 r.start ++ bytesBE 4 r.finish ++ [oneByte (bayNumber r.bay), oneByte (tankNumber r.tank)] ++ bytesBE 4 r.tag
    ++ bytesBE 2 r.unit ++ bytesBE 2 r.limit ++ [oneByte r.reason.code, oneByte r.cause.code] ++ bytesBE 4 r.grossCl
    ++ bytesBE 4 r.netCl ++ tempBytes r.averageTemp
    ++ [oneByte (bitOf r.uncompensated 0 + bitOf r.tempClamped 1 + bitOf r.saturated 2 + bitOf r.overspeed 3
        + bitOf r.afterRun 4 + bitOf r.valve 5 + bitOf r.limp 6 + bitOf r.clockUnset 7)]
    ++ optBytes4 r.hours

/-- R170: an event's kind code and its fields before padding. -/
def EventKind.bytes : EventKind → Nat × List Byte
  | .refusal b t c => (0x01, [oneByte (bayNumber b)] ++ bytesBE 4 t ++ [oneByte c.code, oneByte c.reasonCode])
  | .service t c s => (0x02, bytesBE 4 t ++ [oneByte c, oneByte s.rank])
  | .serviceDone t c => (0x03, bytesBE 4 t ++ [oneByte c])
  | .hoursRebased t o n => (0x04, bytesBE 4 t ++ bytesBE 3 o ++ bytesBE 3 n)
  | .hoursJump t a => (0x05, bytesBE 4 t ++ bytesBE 2 a)
  | .bayFault b c => (0x06, [oneByte (bayNumber b), oneByte c.code])
  | .unaccountedFlow b cl => (0x07, [oneByte (bayNumber b)] ++ bytesBE 4 cl)
  | .variance t cl => (0x08, [oneByte (tankNumber t)] ++ bytesSigned 5 cl)
  | .water t l => (0x09, [oneByte (tankNumber t)] ++ bytesBE 2 l)
  | .gaugeLost t => (0x0A, [oneByte (tankNumber t)])
  | .gaugeRestored t => (0x0B, [oneByte (tankNumber t)])
  | .stockStanding t s => (0x0C, [oneByte (tankNumber t), oneByte s.code])
  | .stockSet t o n => (0x0D, [oneByte (tankNumber t)] ++ bytesSigned 5 o ++ bytesSigned 4 n)
  | .delivery t docket m v e =>
    (0x0E, [oneByte (tankNumber t + bitOf m.isSome 4 + bitOf v.isSome 5 + bitOf e 6)]
      ++ bytesBE 9 (docket * 2 ^ 54 + ((m.getD 0) % (2 ^ 27 : Nat)).toNat * 2 ^ 27 + ((v.getD 0) % (2 ^ 27 : Nat)).toNat))
  | .deliveryAborted t => (0x0F, [oneByte (tankNumber t)])
  | .podState o n => (0x10, [oneByte o.code, oneByte n.code])
  | .warmStart => (0x11, [])

/-- R170: bytes of a record that carry no field are 0. -/
def padTo (w : Nat) (bs : List Byte) : List Byte := bs ++ List.replicate (w - bs.length) 0

/-- R170: an event record of 15 bytes. -/
def EventRecord.bytes (r : EventRecord) : List Byte :=
  bytesBE 4 r.time.time ++ [oneByte (r.kind.bytes.1 + bitOf r.time.unset 7)] ++ padTo 10 r.kind.bytes.2

/-! ## Payloads -/

/-- R170: the head of a JOURNAL READ reply after the result. -/
def journalHead (ring : RingId) (s : RingSummary) (returned : Nat) : List Byte :=
  [oneByte (bitOf (ring == .event) 7 + bitOf s.empty 6 + returned)] ++ bytesBE 2 s.held ++ bytesBE 4 s.oldest
    ++ bytesBE 2 s.aux

/-- R170: the reply fields whose layout the manual gives. -/
def ReplyFields.bytes : ReplyFields → Option (List Byte)
  | .nothing => some []
  | .fleetCount n => some (bytesBE 2 n)
  | .fleetRecord n v => some (bytesBE 2 n ++ v.recordBytes)
  | .fleetCounters n v => some (bytesBE 2 n ++ v.counterBytes)
  | .journalIssues s rs => some (journalHead .issue s rs.length ++ rs.flatMap IssueRecord.bytes)
  | .journalEvents s rs => some (journalHead .event s rs.length ++ rs.flatMap EventRecord.bytes)
  | _ => none

/-- R170: the payload of a frame to be sent, where the manual gives its layout. -/
def Body.bytes : Body → Option (List Byte)
  | .raw p => some p
  | .valveOrder o => some [oneByte o.code]
  | .grantNotice t l r n => some (bytesBE 4 t ++ bytesBE 2 l ++ [oneByte r.code, oneByte n.code])
  | .refusalNotice t c => some (bytesBE 4 t ++ [oneByte c.code, oneByte c.reasonCode])
  | .closeNotice t n c => some (bytesBE 4 t ++ bytesBE 4 n ++ [oneByte c.code])
  | .forwardRefused d k r => some [d, k, oneByte r.code]
  | .reply ref r => r.fields.bytes.map (fun bs => [ref, r.resultByte] ++ bs)

/-- R170: the characters of a frame whose payload is given, start character and check included. -/
def wireBytes (dst src kind : Byte) (payload : List Byte) : List Byte :=
  let covered : List Byte := [dst, src, kind, oneByte payload.length] ++ payload
  (0xA5 :: covered) ++ [((crc16 covered) >>> 8).setWidth 8, (crc16 covered).setWidth 8]

/-- The characters a transmitter sends for a frame, where the manual gives its layout. -/
def OutFrame.wire (f : OutFrame) : Option (List Byte) := f.body.bytes.map (wireBytes f.dst f.src f.kind)

end Sys2Proof.Machine
end

