-- ==== Sys2Proof/Machine/Ports.lean ====
section
/-! DEFINITION. The two serial ports (10): receiving characters and frames, the gap timeout, rate settings and modes,
transmission, pass-through, frames dropped, and the requests LINK STATUS and LINK CLEAR. -/

namespace Sys2Proof.Machine

/-- A port. -/
def State.port (s : State) : PortId → Port
  | .yard => s.yard
  | .trunk => s.trunk

/-- The state with a port replaced. -/
def State.setPort (s : State) (p : PortId) (x : Port) : State :=
  match p with
  | .yard => { s with yard := x }
  | .trunk => { s with trunk := x }

/-- The capacity of a receive queue (10, head table). -/
def rxCap : PortId → Nat
  | .yard => Config.yardRxCap
  | .trunk => Config.trunkRxCap

/-! ## Receiving -/

/-- The reasons for which a receiver ends a frame (R161), OVERRUN apart. -/
inductive RxError
  | parity
  | framing
  | check
  deriving DecidableEq, Repr

/-- How a frame ends at a receiver. -/
inductive RxEnd
  | good (f : Frame)
  | bad (e : RxError)
  deriving DecidableEq, Repr

/-- R161, R170: a complete frame's characters after the start character, of the given payload length: the check decides. -/
def endFrame (got : List Byte) (len : Nat) : RxEnd :=
  let covered := got.take (4 + len)
  if beNat (got.drop (4 + len)) = (crc16 covered).toNat then
    .good { dst := covered.getD 0 0, src := covered.getD 1 0, kind := covered.getD 2 0, payload := covered.drop 4 }
  else .bad .check

/-- R161: a receiver takes one good character of a frame. -/
def takeInside (got : List Byte) (c : Byte) : Receiver × Option RxEnd :=
  let now := got ++ [c]
  if now.length < 4 then (.inside now, none)
  else
    let len := (now.getD 3 0).toNat
    if Config.maxPayload < len then (.hunting, some (.bad .framing))
    else if now.length < 4 + len + 2 then (.inside now, none)
    else (.hunting, some (endFrame now len))

/-- R161: a receiver takes one character. A wrong parity is met before a missing stop bit (DEDUCED: log 7). -/
def takeChar (r : Receiver) (c : RxChar) : Receiver × Option RxEnd :=
  match r with
  | .hunting =>
    if c.data = 0xA5 then
      if c.parityError then (.hunting, some (.bad .parity))
      else if c.stopMissing then (.hunting, some (.bad .framing))
      else (.inside [], none)
    else (.hunting, none)
  | .inside got =>
    if c.parityError then (.hunting, some (.bad .parity))
    else if c.stopMissing then (.hunting, some (.bad .framing))
    else takeInside got c.data

/-- R161: a flag set. -/
def PortFlags.raise (f : PortFlags) : RxError → PortFlags
  | .parity => { f with parity := true }
  | .framing => { f with framing := true }
  | .check => { f with check := true }

/-- R161, R163: whether the port drops in silence: the yard port in WATCH. -/
def State.silent (s : State) (p : PortId) : Bool := p == .yard && s.pod == .watch

/-- R163: a TAG whose source is a reader station and whose destination is the pod's station number. -/
def wakingTag (station : Byte) (f : Frame) : Bool := f.kind == kindTag && (readerBay f.src).isSome && f.dst == station

/-- R161, R177: a correct frame placed at the tail of the receive queue; a running watch delay timer starts again. -/
def State.placeFrame (s : State) (p : PortId) (f : Frame) : State :=
  (s.setPort p { s.port p with rx := (s.port p).rx ++ [f] }).restartWatch

/-- R161, R163: a frame ends at a port's receiver. -/
def State.frameEnds (s : State) (p : PortId) : RxEnd → State
  | .bad e => if s.silent p then s else s.setPort p { s.port p with flags := (s.port p).flags.raise e }
  | .good f =>
    if (s.port p).rx.length < rxCap p then
      if s.silent p && !wakingTag s.station f then s else s.placeFrame p f
    else if s.silent p then s
    else s.setPort p { s.port p with flags := { (s.port p).flags with overrun := true } }

/-- R161: one character at a port. -/
def State.receiveChar (p : PortId) (s : State) (c : RxChar) : State :=
  let r := takeChar (s.port p).receiver c
  let s1 := s.setPort p { s.port p with receiver := r.1 }
  match r.2 with
  | none => s1
  | some e => s1.frameEnds p e

/-- R161: characters at a port, one after another. -/
def State.receiveChars (p : PortId) (s : State) (cs : List RxChar) : State := cs.foldl (State.receiveChar p) s

/-- FRAME_RECEIVE (R161). -/
def execFrameReceive (p : PortId) (cs : List RxChar) (s : State) : Host.Outcome State Fault Refusal :=
  event s.powered (fun t => t.receiveChars p cs) s

/-- START_CHARACTER (R161): its occasion is a receiver that hunts. -/
def execStartCharacter (p : PortId) (parityError : Bool) (s : State) : Host.Outcome State Fault Refusal :=
  event (s.powered && (s.port p).receiver == .hunting)
    (fun t => t.receiveChar p { data := 0xA5, parityError := parityError, stopMissing := false }) s

/-- R161: a gap ends the frame, drops it and sets FRAMING. -/
def State.gapTimeout (s : State) (p : PortId) : State :=
  (s.setPort p { s.port p with receiver := .hunting }).frameEnds p (.bad .framing)

/-- CHARACTER_GAP_TIMEOUT (R161): its occasion is a receiver inside a frame. -/
def execCharacterGapTimeout (p : PortId) (s : State) : Host.Outcome State Fault Refusal :=
  event (s.powered && (s.port p).receiver != .hunting) (fun t => t.gapTimeout p) s

/-! ## Rates -/

/-- R160: the reply to a POD SET still waits or is being sent. -/
def Port.podSetReplyWaits (p : Port) : Bool :=
  p.tx.any (fun e => match e.frame.body with
    | .reply _ r => (match r.fields with | .podSettings .. => true | _ => false)
    | _ => false)

/-- R160: whether a port may take its stored setting. -/
def State.mayTakeRate (s : State) : PortId → Bool
  | .yard => s.yard.betweenFrames
  | .trunk => s.trunk.receiver == .hunting && !s.trunk.podSetReplyWaits

/-- R160: a port takes its stored setting; the yard port also the mode it is to take. -/
def State.takeRate (s : State) : PortId → State
  | .yard => s.applyYardRate
  | .trunk => { s with trunk := { s.trunk with rate := s.podSettings.trunkRate } }

/-- RATE_SETTING_APPLIED (R160, R163). -/
def execRateSettingApplied (p : PortId) (s : State) : Host.Outcome State Fault Refusal :=
  event (s.powered && s.mayTakeRate p) (fun t => t.takeRate p) s

/-! ## Transmitting -/

/-- R95: the lowest-numbered bay whose slot is pending. -/
def State.pendingSlot (s : State) : Option BayId := bayList.find? (fun b => (s.bay b).slot.pending)

/-- R95: the VALVE ORDER frame of a bay's slot. -/
def State.slotFrame (s : State) (b : BayId) : OutFrame :=
  { dst := valveStation b, src := s.station, kind := kindValveOrder, body := .valveOrder (s.bay b).slot.order }

/-- R95: a slot taken: its pending mark is cleared and its frame is being sent. -/
def State.takeSlot (s : State) (b : BayId) : State :=
  let s1 := s.setBay b { s.bay b with slot := { (s.bay b).slot with pending := false } }
  { s1 with yard := { s1.yard with sending := some (.slotFrame (s.slotFrame b)) } }

/-- R95, R162: a free transmitter takes its next frame: on the yard port a pending slot first, otherwise the oldest frame
of its queue; nothing when there is none. -/
def State.takeNext (s : State) (p : PortId) : State :=
  match (if p = .yard then s.pendingSlot else none) with
  | some b => s.takeSlot b
  | none => if (s.port p).tx.isEmpty then s else s.setPort p { s.port p with sending := some .queueHead }

/-- R162: the oldest frame leaves the queue. R163: the yard port returns to RUN mode after the waking TAG's notice. -/
def State.lastCharacter (s : State) (p : PortId) : State :=
  match (s.port p).sending with
  | none => s
  | some (.slotFrame _) => s.setPort p { s.port p with sending := none }
  | some .queueHead =>
    let s1 := s.setPort p { s.port p with sending := none, tx := (s.port p).tx.tail }
    match (s.port p).tx.head? with
    | some e => if e.wake then s1.setYardMode .run else s1
    | none => s1

/-- TRANSMIT_FRAME (R95, R162): a free transmitter takes a frame, or the frame in progress has been sent. -/
def execTransmitFrame (p : PortId) (part : SendPart) (s : State) : Host.Outcome State Fault Refusal :=
  match part with
  | .take => event (s.powered && (s.port p).sending.isNone) (fun t => t.takeNext p) s
  | .last => event (s.powered && (s.port p).sending.isSome) (fun t => t.lastCharacter p) s

/-! ## Frames forwarded and dropped -/

/-- R166: the FORWARD REFUSED frame sent back for a refused trunk frame. -/
def State.forwardRefused (s : State) (f : Frame) : TxEntry :=
  { frame := { dst := f.src, src := s.station, kind := kindForwardRefused, body := .forwardRefused f.dst f.kind .busy },
    wake := false }

/-- R166: a trunk frame for a yard station forwarded, or refused while its bay is active. -/
def State.passFromTrunk (s : State) (f : Frame) : State :=
  match (meterBay f.dst).or (valveBay f.dst) with
  | some b => if (s.bay b).state.active then s.pushTrunkTx (s.forwardRefused f) else s.forwardToYard f
  | none => s.forwardToYard f

/-- PASS_THROUGH (R166): its occasion is a frame at the head of the port's receive queue that is passed on. -/
def execPassThrough (p : PortId) (s : State) : Host.Outcome State Fault Refusal :=
  match p with
  | .yard =>
    match s.yardHead with
    | some f => event (classifyYard s.station f == .passThrough) (fun t => t.popYard.forwardToTrunk f) s
    | none => .next s
  | .trunk =>
    match s.trunkHead with
    | some f => event (classifyTrunk s.station f == .passThrough) (fun t => t.popTrunk.passFromTrunk f) s
    | none => .next s

/-- STATION_DATA (R165, R166): forwarded to the trunk, or dropped when addressed to the pod. -/
def execStationData (s : State) : Host.Outcome State Fault Refusal :=
  match s.yardHead with
  | some f =>
    event (classifyYard s.station f == .stationData)
      (fun t => if f.dst = t.station then t.popYard else t.popYard.forwardToTrunk f) s
  | none => .next s

/-- FRAME_DROP (R164, R165, R167): taken and dropped, without flag or count. -/
def execFrameDrop (p : PortId) (s : State) : Host.Outcome State Fault Refusal :=
  match p with
  | .yard =>
    match s.yardHead with
    | some f => event (classifyYard s.station f == .drop) State.popYard s
    | none => .next s
  | .trunk =>
    match s.trunkHead with
    | some f => event (classifyTrunk s.station f == .drop) State.popTrunk s
    | none => .next s

/-! ## LINK STATUS and LINK CLEAR -/

/-- R160: the rate the yard port runs at. -/
def State.yardBitRate (s : State) : BitRate :=
  match s.yardMode with
  | .run => s.yard.rate.bitRate
  | .watch => watchBitRate

/-- R168: one port's part of LINK STATUS: the setting as stored and the rate the port runs at (DEDUCED: log 17). -/
def portReport (p : Port) (stored : Rate) (rate : BitRate) : PortReport :=
  { flags := p.flags, setting := stored, rate := rate, rxHeld := p.rx.length, txHeld := p.tx.length }

/-- R168: LINK STATUS. The counts are those of the queues when the request has been taken and its reply is not yet placed
(DESIGN CHOICE, unsafe in the trunk's transmit count: log 35). -/
def linkStatus (_ : Unit) (s : State) : State × Reply :=
  (s, .okWith (.linkReport (portReport s.yard s.podSettings.yardRate s.yardBitRate)
    (portReport s.trunk s.podSettings.trunkRate s.trunk.rate.bitRate) s.yardMode s.forwardDrops))

/-- LINK_STATUS (R168). -/
def execLinkStatus (s : State) : Host.Outcome State Fault Refusal := request 0x3F parseNone noFields linkStatus s

/-- R168, R170: the flags of a port less those named in four bits of the mask, PARITY first. -/
def PortFlags.less (f : PortFlags) (mask first : Nat) : PortFlags :=
  { parity := f.parity && !mask.testBit first
    framing := f.framing && !mask.testBit (first + 1)
    check := f.check && !mask.testBit (first + 2)
    overrun := f.overrun && !mask.testBit (first + 3) }

/-- R168: LINK CLEAR. -/
def linkClear (mask : Nat) (s : State) : State × Reply :=
  let t : State :=
    { s with yard := { s.yard with flags := s.yard.flags.less mask 0 }
             trunk := { s.trunk with flags := s.trunk.flags.less mask 4 }
             forwardDrops := if mask.testBit 8 then 0 else s.forwardDrops }
  (t, .okWith (.linkClear t.yard.flags t.trunk.flags t.forwardDrops))

/-- LINK_CLEAR (R168). -/
def execLinkClear (s : State) : Host.Outcome State Fault Refusal := request 0x38 (parseOne 2) noFields linkClear s

end Sys2Proof.Machine
end

