-- ==== Sys2Proof/Machine/Starts.lean ====
section
/-! DEFINITION. Starts and losses of power (11.6): COLD_START, WARM_START, MAIN_POWER_LOSS and BACKUP_SUPPLY_LOSS. -/

namespace Sys2Proof.Machine

/-! ## Cold start -/

/-- R179, R180: every block at its cold-start value, the straps as read, the retention mark set. The queue is no part of
the block and stays. -/
def State.coldStart (straps : Byte) (s : State) : State :=
  { State.reset with pending := s.pending, straps := straps, station := stationOf straps }

/-- COLD_START (R180): its occasion is an absent retention mark. -/
def execColdStart (straps : Byte) (s : State) : Host.Outcome State Fault Refusal :=
  event (!s.retentionMark) (State.coldStart straps) s

/-! ## Warm start -/

/-- R179, R182: the kind of a warm start: WARM by POD RESET when a POD RESET waits and the trunk transmit queue has
emptied (log 23). -/
def State.warmKind (s : State) : StartKind :=
  if s.powered && s.resetPending && s.trunk.tx.isEmpty then .warmByReset else .warm

/-- R117, R169, R172, R177, R181 step 1: the straps read, the ports rebuilt, the bus recovered, and what no retention
domain keeps made new. -/
def State.rebuild (straps : Byte) (s : State) : State :=
  { s with
    powered := true, resetPending := false, lastStart := s.warmKind, straps := straps, station := stationOf straps
    subMs := 0, watchTimer := none, yard := Port.fresh s.podSettings.yardRate
    trunk := Port.fresh s.podSettings.trunkRate, yardMode := .run, yardTarget := .run, forwardDrops := 0
    probe := { s.probe with busActs := busRecovery } }

/-- R181 step 3. -/
def State.leaveWatch (s : State) : State := if s.pod = .watch then s.changePod .inService else s

/-- R99: what a warm start makes of one bay. -/
def State.restartBay (s : State) (b : BayId) : State :=
  let y := s.bay b
  if y.state.active then s.complete b .interrupted
  else if y.state = .draining then s.setBay b y.toDraining
  else s

/-- R129: a running settle timer started again from its full settle time. -/
def State.restartSettle (s : State) (t : TankId) : State :=
  if (s.probeTank t).settle.isSome then s.startSettle t else s

/-- R129: an abandoned census's request raised again. -/
def State.abandonCensus (s : State) : State :=
  match s.probe.inFlight with
  | some c => (s.setFlight none).raiseCensus c.tank c.purpose
  | none => s

/-- R129, R181 step 6. -/
def State.restartProbe (s : State) : State :=
  (((s.restartSettle .t1).restartSettle .t2).abandonCensus).startCensusTimer

/-- R181 steps 1 to 5 as their parts in order. The step on the bays has a part for each, since each completion is taken
whole (R181) and the bays are treated in bay order (R99). -/
def warmParts (straps : Byte) : List (State → State) :=
  [State.rebuild straps, fun s => s.log .warmStart, State.leaveWatch] ++ bayList.map (fun b s => s.restartBay b)
    ++ [fun s => s.mapBays (Bay.order .shut)]

/-- Parts of a start made one after another. -/
def State.makeParts (s : State) (parts : List (State → State)) : State := parts.foldl (fun u p => p u) s

/-- R181: a whole warm start. Each settle timer that runs once the interrupted completions are made, whether it ran before
or they started it, has its full time, as in R129's order. -/
def State.warmStart (straps : Byte) (s : State) : State := (s.makeParts (warmParts straps)).restartProbe

/-! ## Losses of power -/

/-- R169, R180: main power is lost: what no retention domain keeps is gone (log 22). -/
def State.losePower (s : State) : State :=
  { s with
    powered := false, resetPending := false, watchTimer := none, yard := Port.fresh s.podSettings.yardRate
    trunk := Port.fresh s.podSettings.trunkRate, yardMode := .run, yardTarget := .run, forwardDrops := 0 }

/-- R181: a warm start during which main power is lost, with so many of its parts made. They stay made; the mark stays, so
the next start is a warm start again and makes the rest (DEDUCED, unsafe: log 30). -/
def State.warmStartCut (straps : Byte) (done : Fin 9) (s : State) : State :=
  (s.makeParts ((warmParts straps).take done)).losePower

/-- WARM_START (R181): its occasion is a retention mark that is present. -/
def execWarmStart (start : StartRun) (s : State) : Host.Outcome State Fault Refusal :=
  match start.reach with
  | .whole => event s.retentionMark (State.warmStart start.straps) s
  | .cut done => .next (if s.retentionMark then s.warmStartCut start.straps done else s)

/-- MAIN_POWER_LOSS (R180): the part stops; the retained state stays as it was. -/
def execMainPowerLoss (s : State) : Host.Outcome State Fault Refusal :=
  if s.powered then .next s.losePower else .next s

/-- BACKUP_SUPPLY_LOSS (R180): while main power is absent the retention mark is lost with its domain (log 21). While main
power is present it changes nothing and is not remembered: a supply that is still missing when main power fails is lost by
the command that follows MAIN_POWER_LOSS (DESIGN CHOICE, unsafe: log 40). -/
def execBackupSupplyLoss (s : State) : Host.Outcome State Fault Refusal :=
  if s.powered then .next s else .next { s with retentionMark := false }

end Sys2Proof.Machine
end

