-- ==== Sys2Proof/Machine/Tanks.lean ====
section
/-! DEFINITION. The Tank Account Unit's requests and its window timer (08): TANK SET, TANK CLEAR, STOCK SET, DELIVERY
OPEN, DELIVERY CLOSE, DELIVERY ABORT, TANK STATUS. -/

namespace Sys2Proof.Machine

/-! ## TANK SET -/

/-- R131: the settings a TANK SET gives once clamped: capacity first, then the ration level to it, then the reserve level
to that. -/
def TankSetReq.settings (r : TankSetReq) (hold : Bool) : TankSettings :=
  let cap := clampNat 1000 200000 r.capacity
  let ration := clampNat 0 cap r.rationLevel
  { capacity := cap
    expansion := clampNat 0 2000 r.expansion
    rationLevel := ration
    reserveLevel := clampNat 0 ration r.reserveLevel
    reservePriority := clampPriority r.reservePriority
    rationPercent := clampNat 10 100 r.rationPercent
    tolerance := clampNat 1 10000 r.tolerance
    holdEnable := hold
    waterLimit := clampNat 0 50000 r.waterLimit
    probeAddress := clampNat 8 119 r.probeAddress
    settleTime := clampNat 0 600 r.settleTime }

/-- R131: whether any value of a TANK SET is clamped. -/
def TankSetReq.clamps (r : TankSetReq) : Bool :=
  outsideNat 1000 200000 r.capacity || outsideNat 0 2000 r.expansion
    || outsideNat 0 (r.settings false).capacity r.rationLevel || outsideNat 0 (r.settings false).rationLevel r.reserveLevel
    || outsideNat 0 3 r.reservePriority || outsideNat 10 100 r.rationPercent || outsideNat 1 10000 r.tolerance
    || outsideNat 0 50000 r.waterLimit || outsideNat 8 119 r.probeAddress || outsideNat 0 600 r.settleTime

/-- R131: TANK SET. The reply names the tank, which R131 does not (DESIGN CHOICE, safe: log 33). -/
def tankSet (r : TankSetReq) (s : State) : State × Reply :=
  match tankOf r.tank, yesNo r.holdEnable with
  | some t, some hold =>
    if s.tankBusy t || (s.tank t).receiving then (s, .refuse .busy)
    else
      let u := (s.setTank t { s.tank t with settings := r.settings hold }).reformStanding t
      (u, .okClamped r.clamps (.tankSettings t (u.tank t).settings (u.tank t).standing))
  | _, _ => (s, .refuse .invalid)

/-- TANK_SET (R131). -/
def execTankSet (s : State) : Host.Outcome State Fault Refusal := request 0x24 parseTankSet noFields tankSet s

/-! ## TANK CLEAR, STOCK SET -/

/-- R138: a tank after TANK CLEAR. -/
def Tank.clear (k : Tank) : Tank := { k with varianceHold := false, waterHold := false, strikes := 0 }

/-- R138: TANK CLEAR. -/
def tankClear (n : Nat) (s : State) : State × Reply :=
  match tankOf n with
  | none => (s, .refuse .invalid)
  | some t =>
    let k := (s.tank t).clear
    (s.setTank t k, .okWith (.tankClear k.receiving k.varianceHold k.waterHold k.strikes))

/-- TANK_CLEAR (R138). -/
def execTankClear (s : State) : Host.Outcome State Fault Refusal := request 0x30 (parseOne 1) noFields tankClear s

/-- R133: the book set to a figure in litres. -/
def State.setStock (s : State) (t : TankId) (litres : Nat) : State :=
  let old := (s.tank t).book
  let new : Int := litres * 1000000
  ((s.setTank t { s.tank t with book := new, stockSet := true }).log (.stockSet t (toCl old) (toCl new))).reformStanding t

/-- R133: STOCK SET. -/
def stockSet (r : Nat × Nat) (s : State) : State × Reply :=
  match tankOf r.1 with
  | none => (s, .refuse .invalid)
  | some t =>
    if s.tankBusy t then (s, .refuse .busy)
    else
      let cap := (s.tank t).settings.capacity
      let u := s.setStock t (clampNat 0 cap r.2)
      (u, .okClamped (outsideNat 0 cap r.2)
        (.stockSet t (toCl (s.tank t).book) (toCl (u.tank t).book) (u.tank t).standing))

/-- STOCK_SET (R133). -/
def execStockSet (s : State) : Host.Outcome State Fault Refusal := request 0x31 (parseTwo 1 4) noFields stockSet s

/-! ## Deliveries -/

/-- R140: the delivery record that DELIVERY OPEN creates. -/
def Delivery.fresh (docket windowMinutes : Nat) : Delivery :=
  { phase := .awaitingPre, docket := docket, preNet := none, window := some (seconds (windowMinutes * 60)),
    expired := false }

/-- R140: DELIVERY OPEN. -/
def deliveryOpen (r : Nat × Nat) (s : State) : State × Reply :=
  match tankOf r.1 with
  | none => (s, .refuse .invalid)
  | some t =>
    if s.tankBusy t then (s, .refuse .busy)
    else if (s.tank t).receiving then (s, .refuse .stateRefused)
    else
      let docket := clampNat 0 200000 r.2
      let w := s.podSettings.deliveryWindow
      ((s.setTank t { s.tank t with delivery := some (Delivery.fresh docket w) }).raiseCensus t .pre,
        .okClamped (outsideNat 0 200000 r.2) (.deliveryOpen t docket w))

/-- DELIVERY_OPEN (R140). -/
def execDeliveryOpen (s : State) : Host.Outcome State Fault Refusal :=
  request 0x32 (parseTwo 1 4) noFields deliveryOpen s

/-- R142, R144: a delivery closed: the window stops, the phase is COMPLETING and a POST census is wanted. -/
def State.closeDelivery (s : State) (t : TankId) (d : Delivery) (expired : Bool) : State :=
  (s.setTank t { s.tank t with
    delivery := some { d with phase := .completing, window := none, expired := expired } }).raiseCensus t .post

/-- R142: DELIVERY CLOSE. -/
def deliveryClose (n : Nat) (s : State) : State × Reply :=
  match tankOf n with
  | none => (s, .refuse .invalid)
  | some t =>
    match (s.tank t).delivery with
    | none => (s, .refuse .stateRefused)
    | some d =>
      match d.phase with
      | .completing => (s, .refuse .stateRefused)
      | .awaitingPre => (s, .refuse .busy)
      | .opened => (s.closeDelivery t d d.expired, .okWith (.deliveryClose t .completing))

/-- DELIVERY_CLOSE (R142). -/
def execDeliveryClose (s : State) : Host.Outcome State Fault Refusal :=
  request 0x33 (parseOne 1) noFields deliveryClose s

/-- R121, R141: a census of the tank in flight stops being its delivery's own. -/
def State.disown (s : State) (t : TankId) : State :=
  s.setFlight (s.probe.inFlight.map (fun c => if c.tank = t then { c with own := false } else c))

/-- R145: DELIVERY ABORT. -/
def deliveryAbort (n : Nat) (s : State) : State × Reply :=
  match tankOf n with
  | none => (s, .refuse .invalid)
  | some t =>
    match (s.tank t).delivery with
    | none => (s, .refuse .stateRefused)
    | some d =>
      match d.phase with
      | .completing => (s, .refuse .stateRefused)
      | _ => (((s.setTank t { s.tank t with delivery := none }).disown t).log (.deliveryAborted t), .okWith .nothing)

/-- DELIVERY_ABORT (R145). -/
def execDeliveryAbort (s : State) : Host.Outcome State Fault Refusal :=
  request 0x34 (parseOne 1) noFields deliveryAbort s

/-- R144: the window timer's expiry. The POST request finds the delivery expecting POST, so a flag holding any purpose is
left holding POST (R120). -/
def State.windowExpires (s : State) (t : TankId) : State :=
  match (s.tank t).delivery with
  | some d => (s.disown t).closeDelivery t d true
  | none => s

/-- R144: whether the window timer of the tank's delivery has run out. -/
def State.windowRanOut (s : State) (t : TankId) : Bool :=
  match (s.tank t).delivery with
  | some d => d.phase != .completing && d.window.ranOut
  | none => false

/-- WINDOW_TIMER_EXPIRY (R144): its occasion is a window timer that has run out. -/
def execWindowTimerExpiry (t : TankId) (s : State) : Host.Outcome State Fault Refusal :=
  event (s.powered && s.windowRanOut t) (fun u => u.windowExpires t) s

/-! ## TANK STATUS -/

/-- R147: the ullage in whole litres. -/
def Tank.ullage (k : Tank) : Nat := k.settings.capacity - bookLitres k.book

/-- R147: a census result with its volumes in cL. -/
def CensusResult.report (r : CensusResult) : CensusReport :=
  { tank := r.tank, time := r.time, purpose := r.purpose, outcome := r.outcome, reading := r.reading,
    grossCl := r.volumes.map (fun v => toCl v.gross), netCl := r.volumes.map (fun v => toCl v.net), still := r.still }

/-- R147: a delivery as reported. -/
def Delivery.report (d : Delivery) : DeliveryReport :=
  { phase := d.phase, docket := d.docket, preNetCl := d.preNet.map toCl, window := d.window.map secondsLeft,
    expired := d.expired }

/-- R147: what TANK STATUS carries. -/
def State.tankReport (s : State) (t : TankId) : TankReport :=
  let k := s.tank t
  let p := s.probeTank t
  { bookCl := toCl k.book, stockSet := k.stockSet, standing := k.standing, ullage := k.ullage, receiving := k.receiving,
    varianceHold := k.varianceHold, waterHold := k.waterHold, strikes := k.strikes,
    varianceCl := k.latestVariance.map toCl, census := k.latestCensus.map CensusResult.report,
    lastGoodTemp := k.lastGoodTemp, gauge := gaugeOf k.strapping p.failures, failures := p.failures,
    loadState := k.strapping.load, points := k.strapping.points.length, want := p.want,
    inFlight := s.censusOf t,
    settle := p.settle.map secondsLeft, delivery := k.delivery.map Delivery.report }

/-- R147: TANK STATUS. The reply names the tank, which R147 does not list (DESIGN CHOICE, safe: log 33). -/
def tankStatus (n : Nat) (s : State) : State × Reply :=
  match tankOf n with
  | none => (s, .refuse .invalid)
  | some t => (s, .okWith (.tankReport t (s.tankReport t)))

/-- TANK_STATUS (R147). -/
def execTankStatus (s : State) : Host.Outcome State Fault Refusal := request 0x3B (parseOne 1) noFields tankStatus s

end Sys2Proof.Machine
end

