-- ==== Sys2Proof/Machine/Dispatch.lean ====
section
/-! DEFINITION. One arm for each command: its meaning. -/

namespace Sys2Proof.Machine

/-- The effect of a command on everything but the queue. -/
def exec (i : Instr) (s : State) : Host.Outcome State Fault Refusal :=
  match i with
  | .coldStart straps => Sys2Proof.Machine.execColdStart straps s
  | .warmStart start => Sys2Proof.Machine.execWarmStart start s
  | .mainPowerLoss => Sys2Proof.Machine.execMainPowerLoss s
  | .podClockTick => Sys2Proof.Machine.execPodClockTick s
  | .frameReceive port chars => Sys2Proof.Machine.execFrameReceive port chars s
  | .characterGapTimeout port => Sys2Proof.Machine.execCharacterGapTimeout port s
  | .rateSettingApplied port => Sys2Proof.Machine.execRateSettingApplied port s
  | .transmitFrame port part => Sys2Proof.Machine.execTransmitFrame port part s
  | .tag => Sys2Proof.Machine.execTag s
  | .tally => Sys2Proof.Machine.execTally s
  | .valveStatus => Sys2Proof.Machine.execValveStatus s
  | .stationData => Sys2Proof.Machine.execStationData s
  | .passThrough port => Sys2Proof.Machine.execPassThrough port s
  | .frameDrop port => Sys2Proof.Machine.execFrameDrop port s
  | .armTimerExpiry bay => Sys2Proof.Machine.execArmTimerExpiry bay s
  | .noFlowTimerExpiry bay => Sys2Proof.Machine.execNoFlowTimerExpiry bay s
  | .gapTimerExpiry bay => Sys2Proof.Machine.execGapTimerExpiry bay s
  | .closeTimerExpiry bay => Sys2Proof.Machine.execCloseTimerExpiry bay s
  | .drainTimerExpiry bay => Sys2Proof.Machine.execDrainTimerExpiry bay s
  | .censusTimerExpiry => Sys2Proof.Machine.execCensusTimerExpiry s
  | .settleTimerExpiry tank => Sys2Proof.Machine.execSettleTimerExpiry tank s
  | .windowTimerExpiry tank => Sys2Proof.Machine.execWindowTimerExpiry tank s
  | .watchDelayTimerExpiry => Sys2Proof.Machine.execWatchDelayTimerExpiry s
  | .retryWaitExpiry => Sys2Proof.Machine.execRetryWaitExpiry s
  | .ackError phase => Sys2Proof.Machine.execAckError phase s
  | .censusTransaction data => Sys2Proof.Machine.execCensusTransaction data s
  | .fleetPut => Sys2Proof.Machine.execFleetPut s
  | .fleetDelete => Sys2Proof.Machine.execFleetDelete s
  | .classSet => Sys2Proof.Machine.execClassSet s
  | .baySet => Sys2Proof.Machine.execBaySet s
  | .tankSet => Sys2Proof.Machine.execTankSet s
  | .strapSet => Sys2Proof.Machine.execStrapSet s
  | .podSet => Sys2Proof.Machine.execPodSet s
  | .podStart => Sys2Proof.Machine.execPodStart s
  | .podSuspend => Sys2Proof.Machine.execPodSuspend s
  | .podResume => Sys2Proof.Machine.execPodResume s
  | .podReset => Sys2Proof.Machine.execPodReset s
  | .timeSet => Sys2Proof.Machine.execTimeSet s
  | .shiftRoll => Sys2Proof.Machine.execShiftRoll s
  | .bayStop => Sys2Proof.Machine.execBayStop s
  | .bayRelease => Sys2Proof.Machine.execBayRelease s
  | .serviceDone => Sys2Proof.Machine.execServiceDone s
  | .tankClear => Sys2Proof.Machine.execTankClear s
  | .stockSet => Sys2Proof.Machine.execStockSet s
  | .deliveryOpen => Sys2Proof.Machine.execDeliveryOpen s
  | .deliveryClose => Sys2Proof.Machine.execDeliveryClose s
  | .deliveryAbort => Sys2Proof.Machine.execDeliveryAbort s
  | .censusNow => Sys2Proof.Machine.execCensusNow s
  | .journalLayout => Sys2Proof.Machine.execJournalLayout s
  | .journalRelease => Sys2Proof.Machine.execJournalRelease s
  | .linkClear => Sys2Proof.Machine.execLinkClear s
  | .podStatus => Sys2Proof.Machine.execPodStatus s
  | .bayStatus => Sys2Proof.Machine.execBayStatus s
  | .tankStatus => Sys2Proof.Machine.execTankStatus s
  | .fleetGet => Sys2Proof.Machine.execFleetGet s
  | .fleetNext => Sys2Proof.Machine.execFleetNext s
  | .journalRead => Sys2Proof.Machine.execJournalRead s
  | .linkStatus => Sys2Proof.Machine.execLinkStatus s
  | .backupSupplyLoss => Sys2Proof.Machine.execBackupSupplyLoss s
  | .startCharacter port parityError => Sys2Proof.Machine.execStartCharacter port parityError s

end Sys2Proof.Machine
end

