-- ==== Sys2Proof/Safety.lean ====
section
/-! DEFINITION. What always holds of the part: the laws the manual prints in bold, and the ranges its tables give each
piece of state. Each is a property of one state; the obligations say that every step keeps it. Also the words in which
the obligations name a request that is taken and answered. -/

namespace Sys2Proof.Machine

/-! ## Queues (10, head table) -/

/-- The four queues hold at most what the table of chapter 10 gives them. -/
def QueuesBounded (s : State) : Prop :=
  s.yard.rx.length ≤ 8 ∧ s.yard.tx.length ≤ 8 ∧ s.trunk.rx.length ≤ 4 ∧ s.trunk.tx.length ≤ 6

/-! ## The Fleet Register -/

/-- R20: at most 256 records, in strictly ascending tag order, every tag from 1 to 4,294,967,295. -/
def FleetLaw (s : State) : Prop :=
  s.fleet.length ≤ 256 ∧ s.fleet.Pairwise (fun u v => u.tag < v.tag) ∧
    ∀ v ∈ s.fleet, 1 ≤ v.tag ∧ v.tag ≤ 4294967295

/-- 02 section 2.2, R39: the ranges of one counter. -/
def Counter.lawful (c : Counter) : Prop :=
  c.code ≤ 255 ∧ 1 ≤ c.interval ∧ c.interval ≤ 99999999 ∧ c.grace ≤ 99999999 ∧
    -99999999 ≤ c.remaining ∧ c.remaining ≤ 99999999

/-- 02 section 2.2, R22: the ranges of an allowance. -/
def Allowance.lawful (a : Allowance) : Prop := 1 ≤ a.litres ∧ a.litres ≤ 65535 ∧ a.usedCl ≤ 999999999

/-- 02 section 2.2: the ranges of one record. -/
def Vehicle.lawful (v : Vehicle) : Prop :=
  v.unit ≤ 65535 ∧ 10 ≤ v.fillCeiling ∧ v.fillCeiling ≤ 20000 ∧ v.counters.length ≤ 3 ∧
    (v.counters.map (·.code)).Nodup ∧ (∀ c ∈ v.counters, c.lawful) ∧ (∀ a, v.allowance = some a → a.lawful) ∧
    (∀ p, v.permitted = some p → ∃ b, p.get b = true) ∧ (∀ h, v.lastHours = some h → h ≤ 9999999)

/-- R23, R39: every record keeps its ranges, at most three counters and no two with one code. -/
def RecordsLaw (s : State) : Prop := ∀ v ∈ s.fleet, v.lawful

/-! ## Bays -/

/-- R94: the order a bay's slot holds in each state. -/
def orderFor : BayState → ValveOrder
  | .flowing => .full
  | .trimming => .slow
  | _ => .shut

/-- R94: FULL only in FLOWING, SLOW only in TRIMMING, SHUT in every other state. Only while main power is absent can a bay
that a cut warm start has taken to DRAINING or IDLE hold the order of its ended issue: R181 sets the slots to SHUT after
the bays, and the next start does (log 30). -/
def ValveLaw (s : State) : Prop :=
  ∀ b, (s.bay b).slot.order = orderFor (s.bay b).state ∨
    (s.powered = false ∧ ((s.bay b).state = .draining ∨ (s.bay b).state = .idle))

/-- R77: each timer runs in its state and in no other. -/
def Bay.timersLawful (y : Bay) : Prop :=
  (y.armTimer.isSome ↔ y.state = .granted) ∧ (y.noFlowTimer.isSome ↔ y.state.valveOpen) ∧
    (y.gapTimer.isSome ↔ y.state.valveOpen) ∧ (y.closeTimer.isSome ↔ y.state = .closing) ∧
    (y.drainTimer.isSome ↔ y.state = .draining)

/-- R77, for every bay. -/
def TimersLaw (s : State) : Prop := ∀ b, (s.bay b).timersLawful

/-- R5: a clamped temperature. -/
def tempLawful (t : Int) : Prop := -300 ≤ t ∧ t ≤ 900

/-- R13, R15, R16, R92: the ranges of a bay's accumulators. -/
def Bay.accumulatorsLawful (y : Bay) : Prop :=
  y.gross ≤ 1099511627775 ∧ y.net ≤ 1099511627775 ∧ y.closing ≤ y.net ∧ y.sumG = y.gross ∧
    -300 * (y.sumG : Int) ≤ y.sumTG ∧ y.sumTG ≤ 900 * (y.sumG : Int) ∧ (∀ t, y.heldTemp = some t → tempLawful t) ∧
    y.unassigned ≤ 2000000 ∧ y.tallyCount ≤ 65535 ∧ y.grossTotal.litres ≤ 999999999 ∧ y.grossTotal.micro ≤ 999999 ∧
    y.netTotal.litres ≤ 999999999 ∧ y.netTotal.micro ≤ 999999

/-- R5, R13, R15, R16, R92: every bay's accumulators, and the census temperatures their tallies may use. -/
def AccumulatorLaw (s : State) : Prop :=
  (∀ b, (s.bay b).accumulatorsLawful) ∧ ∀ t x, (s.tank t).lastGoodTemp = some x → tempLawful x

/-! ## Arming and reservations -/

/-- The tag of the grant copy a bay holds. -/
def Bay.grantTag (y : Bay) : Option Nat := y.grant.map (·.tag)

/-- R91: armed-at names bay b exactly when bay b is active for that tag; and the vehicle of an active bay is in the
register (R37). -/
def ArmedLaw (s : State) : Prop :=
  (∀ v ∈ s.fleet, ∀ b, v.armedAt = some b ↔ ((s.bay b).state.active = true ∧ (s.bay b).grantTag = some v.tag)) ∧
    ∀ b, (s.bay b).state.active = true → ∃ v ∈ s.fleet, (s.bay b).grantTag = some v.tag

/-- The number of active bays. -/
def State.activeCount (s : State) : Nat := (bayList.filter (fun b => (s.bay b).state.active)).length

/-- R149: a ring's pointers lie within it, and the write pointer is as far past the read pointer as records are held. -/
def Ring.lawful {α : Type} (base span : Nat) (g : Ring α) : Prop :=
  base ≤ g.readPtr ∧ g.readPtr < base + span ∧ g.writePtr = base + (g.readPtr - base + g.records.length) % span ∧
    g.records.length ≤ span

/-- R149, R152: spans, pointers and counts; held records plus reservations never exceed the issue span, and there is one
reservation for each active bay. -/
def JournalLaw (s : State) : Prop :=
  16 ≤ s.journal.issueSpan ∧ s.journal.issueSpan ≤ 1008 ∧ s.journal.issues.lawful 0 s.journal.issueSpan ∧
    s.journal.events.lawful s.journal.issueSpan s.journal.eventSpan ∧
    s.journal.issues.records.length + s.journal.reservations ≤ s.journal.issueSpan ∧
    s.journal.reservations = s.activeCount ∧ s.journal.overwrites ≤ 65535

/-- R151: the held records of a ring carry consecutive numbers, the newest the next sequence less one. -/
def Ring.numbered {α : Type} (seqOf : α → Nat) (g : Ring α) : Prop :=
  g.nextSeq < 4294967296 ∧ ∀ k r, g.records[k]? = some r →
    seqOf r < 4294967296 ∧ (seqOf r + (g.records.length - k)) % 4294967296 = g.nextSeq

/-- R151, for both rings. -/
def SequenceLaw (s : State) : Prop :=
  s.journal.issues.numbered IssueRecord.seq ∧ s.journal.events.numbered EventRecord.seq

/-! ## Tanks -/

/-- R139: while a tank is RECEIVING no bay assigned to it is active. -/
def ReceivingLaw (s : State) : Prop :=
  ∀ t b, (s.tank t).receiving = true → (s.bay b).settings.tank = t → (s.bay b).state.active = false

/-- R130: the ranges of a tank's settings. -/
def TankSettings.lawful (k : TankSettings) : Prop :=
  1000 ≤ k.capacity ∧ k.capacity ≤ 200000 ∧ k.expansion ≤ 2000 ∧ k.rationLevel ≤ k.capacity ∧
    k.reserveLevel ≤ k.rationLevel ∧ 10 ≤ k.rationPercent ∧ k.rationPercent ≤ 100 ∧ 1 ≤ k.tolerance ∧
    k.tolerance ≤ 10000 ∧ k.waterLimit ≤ 50000 ∧ 8 ≤ k.probeAddress ∧ k.probeAddress ≤ 119 ∧ k.settleTime ≤ 600

/-- R17, R130, R134, R136: the ranges of one tank account, and its standing as its book and levels give it. -/
def Tank.lawful (k : Tank) : Prop :=
  k.settings.lawful ∧ -1000000000000000 ≤ k.book ∧ k.book ≤ 1000000000000000 ∧
    k.standing = formStanding k.settings k.book ∧ k.strikes ≤ 3

/-- R17, R134, for both tanks. -/
def TankLaw (s : State) : Prop := ∀ t, (s.tank t).lawful

/-- R125, 01 section 1.10: a point's ranges. -/
def StrapPoint.lawful (p : StrapPoint) : Prop := p.level ≤ 50000 ∧ p.litres ≤ 200000

/-- R125, R126: EMPTY; LOADING with 1 to 24 points; COMPLETE with 2 to 24 points that pass the final check. -/
def Strapping.lawful : Strapping → Prop
  | .empty => True
  | .loading ps => 1 ≤ ps.length ∧ ps.length ≤ 24 ∧ ∀ p ∈ ps, p.lawful
  | .complete ps => ps.length ≤ 24 ∧ tablePasses ps = true ∧ ∀ p ∈ ps, p.lawful

/-- R125, for both tanks. -/
def StrappingLaw (s : State) : Prop := ∀ t, (s.tank t).strapping.lawful

/-! ## The Probe Bus Controller -/

/-- R121, R124, R141: a pending flag waits only while a census is in flight; a failure count is 0 to 3; the own-delivery
mark is set only while the delivery expects the census's purpose. -/
def CensusLaw (s : State) : Prop :=
  (s.probe.inFlight = none → ∀ t, (s.probeTank t).want = none) ∧ (∀ t, (s.probeTank t).failures ≤ 3) ∧
    ∀ c, s.probe.inFlight = some c → c.own = true → (s.tank c.tank).expects = some c.purpose

/-! ## The Pod Controller -/

/-- R174: in BLANK no bay is active and the issue ring holds no reservations. -/
def BlankLaw (s : State) : Prop :=
  s.pod = .blank → (∀ b, (s.bay b).state.active = false) ∧ s.journal.reservations = 0

/-- R177: while the part runs, the watch delay timer runs exactly when its conditions hold; in WATCH no bay is active. -/
def WatchLaw (s : State) : Prop :=
  (s.powered = true → (s.watchTimer.isSome = true ↔ s.watchReady = true)) ∧
    (s.pod = .watch → ∀ b, (s.bay b).state.active = false)

/-- R75: the ranges of a bay's settings, max flow as held in mL/s. -/
def BaySettings.lawful (k : BaySettings) : Prop :=
  1000 ≤ k.meterFactor ∧ k.meterFactor ≤ 1000000 ∧ 166 ≤ k.maxFlow ∧ k.maxFlow ≤ 25000 ∧ k.slowBand ≤ 500 ∧
    k.closeLead ≤ 2000 ∧ 10 ≤ k.armTime ∧ k.armTime ≤ 300 ∧ 2 ≤ k.noFlowTime ∧ k.noFlowTime ≤ 60 ∧ 1 ≤ k.gapTime ∧
    k.gapTime ≤ 10 ∧ 2 ≤ k.closeTime ∧ k.closeTime ≤ 30 ∧ k.drainTime ≤ 60 ∧ 1 ≤ k.afterRunLimit ∧
    k.afterRunLimit ≤ 200

/-- R160: the ranges of a rate setting. -/
def Rate.lawful (r : Rate) : Prop := r.s ≤ 7 ∧ 2 ≤ r.d ∧ r.d ≤ 127

/-- R173: the ranges of the pod settings. -/
def PodSettings.lawful (p : PodSettings) : Prop :=
  30 ≤ p.censusPeriod ∧ p.censusPeriod ≤ 3600 ∧ 10 ≤ p.watchDelay ∧ p.watchDelay ≤ 600 ∧ 10 ≤ p.deliveryWindow ∧
    p.deliveryWindow ≤ 240 ∧ p.yardRate.lawful ∧ p.trunkRate.lawful

/-- R25: the ranges of a class entry. -/
def ClassEntry.lawful (e : ClassEntry) : Prop :=
  10 ≤ e.limpAllotment ∧ e.limpAllotment ≤ 2000 ∧ 1 ≤ e.hourCeiling ∧ e.hourCeiling ≤ 10000

/-- R25, R75, R166, R172, R173, R179: the settings the site writes, the forward-drop count, the station in use and the pod
clock keep their ranges. -/
def SettingsLaw (s : State) : Prop :=
  (∀ b, (s.bay b).settings.lawful) ∧ s.podSettings.lawful ∧ (∀ c : Fin 16, s.classes[c].lawful) ∧
    s.forwardDrops ≤ 65535 ∧ 1 ≤ s.station.toNat ∧ s.station.toNat ≤ 239 ∧ s.clock < 4294967296

/-! ## A request taken and answered -/

/-- The state once the request at the head of the trunk receive queue is taken and the pod is awake (R164, R178). -/
def State.taken (s : State) : State := s.popTrunk.wakeByRequest

/-- The outcome of a request whose owner leaves state `t` and answers `r`: the reply queued, unless the request was a
broadcast, and the event ended (R167, R171). -/
def answered (f : Frame) (t : State) (r : Reply) : Host.Outcome State Fault Refusal :=
  .next (if f.dst = 255 then t else t.queueReply f r).settled

/-- The outcome of a request refused with a result and no field: nothing changes but the wake and the reply (R171). -/
def refused (f : Frame) (s : State) (r : Result) : Host.Outcome State Fault Refusal :=
  answered f s.taken (.refuse r)

/-- R170, 11.1: the kind of a request whose fields have one length, and the payload length its fields give, reference
included. -/
def fixedRequest : Instr → Option (Byte × Nat)
  | .fleetDelete => some (0x21, 5)
  | .classSet => some (0x22, 6)
  | .baySet => some (0x23, 26)
  | .tankSet => some (0x24, 27)
  | .podSet => some (0x26, 11)
  | .podStart => some (0x27, 1)
  | .podSuspend => some (0x28, 2)
  | .podResume => some (0x29, 1)
  | .podReset => some (0x2A, 1)
  | .timeSet => some (0x2B, 5)
  | .shiftRoll => some (0x2C, 1)
  | .bayStop => some (0x2D, 2)
  | .bayRelease => some (0x2E, 2)
  | .serviceDone => some (0x2F, 6)
  | .tankClear => some (0x30, 2)
  | .stockSet => some (0x31, 6)
  | .deliveryOpen => some (0x32, 6)
  | .deliveryClose => some (0x33, 2)
  | .deliveryAbort => some (0x34, 2)
  | .censusNow => some (0x35, 2)
  | .journalLayout => some (0x36, 3)
  | .journalRelease => some (0x37, 4)
  | .linkClear => some (0x38, 3)
  | .podStatus => some (0x39, 1)
  | .bayStatus => some (0x3A, 2)
  | .tankStatus => some (0x3B, 2)
  | .fleetGet => some (0x3C, 6)
  | .fleetNext => some (0x3D, 6)
  | .journalRead => some (0x3E, 5)
  | .linkStatus => some (0x3F, 1)
  | _ => none

/-! ## A yard frame taken -/

/-- A TAG for the pod from the reader of bay b, of a right length, may be taken (R58, R165). -/
def TagAt (s : State) (b : BayId) (r : TagRead) : Prop :=
  ∃ f, s.yardHead = some f ∧ classifyYard s.station f = .tag b ∧ parseTag f.payload = some r

/-- A TALLY for the pod from the meter head of bay b, not discarded, may be taken (R100, R165). -/
def TallyAt (s : State) (b : BayId) (t : Tally) : Prop :=
  ∃ f, s.yardHead = some f ∧ classifyYard s.station f = .tally b ∧ parseTally f.payload = some t

/-- A VALVE STATUS for the pod from the valve unit of bay b, not discarded, may be taken (R110, R165). -/
def ValveReportAt (s : State) (b : BayId) (r : ReportedValve) : Prop :=
  ∃ f, s.yardHead = some f ∧ classifyYard s.station f = .valveStatus b ∧ parseValveStatus f.payload = some r

/-- A character without error. -/
def goodChar (c : Byte) : RxChar := { data := c, parityError := false, stopMissing := false }

/-- The characters of a frame on the line, without error. -/
def goodFrame (f : Frame) : List RxChar := (wireBytes f.dst f.src f.kind f.payload).map goodChar

/-- The journal once events of these kinds are logged one after another at the state's clock reading (R154). -/
def State.journalAfter (s : State) (ks : List EventKind) : Journal :=
  ks.foldl (fun j k => j.logEvent s.stamp k) s.journal

/-- The newest event record of the event ring is of this kind. -/
def State.newestEvent (s : State) (k : EventKind) : Prop :=
  ∃ e, s.journal.events.records.getLast? = some e ∧ e.kind = k

/-- Fields in order, each with its width in bytes and its value, most significant byte first (R170). -/
def layout (fields : List (Nat × Nat)) : List Byte := fields.flatMap (fun f => bytesBE f.1 f.2)

/-- A signed value as the number its two's complement spells over so many bytes (R170). -/
def twosComplement (w : Nat) (i : Int) : Nat := (i % (256 ^ w : Nat)).toNat

/-- A counter of the given basis less so much, down to the floor; another counter as it was (R40). -/
def Counter.lowered (basis : Basis) (n : Nat) (c : Counter) : Counter :=
  if c.basis = basis then { c with remaining := max (c.remaining - n) (-99999999) } else c

/-- The SERVICE events of a decrease of a vehicle's counters of one basis, in list order: one for each counter whose
standing rises (R40). -/
def Vehicle.rises (basis : Basis) (n : Nat) (v : Vehicle) : List EventKind :=
  v.counters.flatMap (fun c =>
    if c.standing.rank < (c.lowered basis n).standing.rank then [.service v.tag c.code (c.lowered basis n).standing] else [])

/-- Such a decrease begins an overdue episode: no counter was OVERDUE and one becomes it (R42). -/
def Vehicle.episodeBegins (basis : Basis) (n : Nat) (v : Vehicle) : Prop :=
  (∀ c ∈ v.counters, c.standing ≠ .overdue) ∧ ∃ c ∈ v.counters, (c.lowered basis n).standing = .overdue

/-- R49, R52, R80, R85 to R87, R123, R153: what the completion of the issue at bay b, with a cause other than INTERRUPTED,
makes of state s: t. `y` is the bay as the completion finds it, and `before` what the same event logged first. It says the
bay, the issue ring and its reservation, the vehicle of the grant with its SERVICE events, the BAY FAULT event, the settle
timer and the CLOSE NOTICE. -/
def IssueCompleted (before : List EventKind) (s t : State) (b : BayId) (y : Bay) (c : CloseCause) : Prop :=
  let g := y.serving
  let net := (convRound y.net 10000).toNat
  let flags : IssueFlags :=
    { y.flags with afterRun := y.flags.afterRun || decide (y.settings.afterRunLimit * 1000000 < y.closing) }
  let faulted := flags.fault.isSome
  let drains := !faulted && decide (y.state ≠ .granted) && decide (y.settings.drainTime ≠ 0)
  let fault : List EventKind := match flags.fault with | some q => [.bayFault b q] | none => []
  let logged := fun ks : List EventKind =>
    t.journal.events = (s.journalAfter ks).events ∧ t.journal.overwrites = (s.journalAfter ks).overwrites
  t.bay b = { y with
    state := if faulted then .faulted else if drains then .draining else .idle
    flags := flags, cause := some c, grossTotal := y.grossTotal.add y.gross, netTotal := y.netTotal.add y.net
    slot := if faulted then { order := .shut, pending := true } else y.slot
    armTimer := none, noFlowTimer := none, gapTimer := none, closeTimer := none
    drainTimer := if drains then some (y.settings.drainTime * 1000) else none } ∧
  (∀ k, k ≠ b → t.bay k = s.bay k) ∧
  t.journal.reservations = s.journal.reservations - 1 ∧
  t.journal.issues.records = s.journal.issues.records ++
    [{ seq := s.journal.issues.nextSeq, start := g.start.time, finish := s.clock,
       clockUnset := g.start.unset || !s.clockSet, bay := b, tank := g.tank, tag := g.tag, unit := g.unit,
       limit := g.limit, reason := g.reason, grossCl := (convRound y.gross 10000).toNat, netCl := net,
       averageTemp := if y.sumG = 0 then none else some (convRound y.sumTG y.sumG), cause := c,
       uncompensated := flags.uncompensated, tempClamped := flags.tempClamped, saturated := flags.saturated,
       overspeed := flags.overspeed, afterRun := flags.afterRun, valve := flags.valve, limp := g.limp,
       hours := g.hours }] ∧
  (findTag g.tag s.fleet = none → t.fleet = s.fleet ∧ logged (before ++ fault)) ∧
  (∀ v, findTag g.tag s.fleet = some v → ∃ w : Vehicle, t.fleet = setVehicle w s.fleet ∧
    w = { v with
      counters := v.counters.map (Counter.lowered .fuel net), limpUsed := w.limpUsed
      allowance := v.allowance.map (fun a => { a with usedCl := min (a.usedCl + net) 999999999 })
      armedAt := none, lastIssue := some { time := s.clock, unset := !s.clockSet } } ∧
    (v.lawful →
      (v.episodeBegins .fuel net → w.limpUsed = false) ∧
      (¬v.episodeBegins .fuel net → w.limpUsed = (v.limpUsed || (g.limp && decide (100 ≤ net)))) ∧
      logged (before ++ v.rises .fuel net ++ fault))) ∧
  t.probe = { s.probe with tanks := s.probe.tanks.set g.tank { s.probeTank g.tank with
    settle := if (s.tank g.tank).settings.settleTime = 0 then none
              else some ((s.tank g.tank).settings.settleTime * 1000) } } ∧
  t.yard.tx = (if s.yard.tx.length < 8 then s.yard.tx ++
    [{ frame := { dst := BitVec.ofNat 8 (239 + bayNumber b), src := s.station, kind := 0x1B
                  body := .closeNotice g.tag net c }, wake := false }]
    else s.yard.tx)

/-- R27: some value of a FLEET PUT lies outside its range. -/
def FleetPutReq.outOfRange (r : FleetPutReq) : Prop :=
  3 < r.priority ∨ r.fillCeiling < 10 ∨ 20000 < r.fillCeiling ∨ 65535 < r.allowance ∨
    ∃ k ∈ r.counters, k.interval < 1 ∨ 99999999 < k.interval ∨ 99999999 < k.grace

/-- A bay that has left its issue or its drain at a warm start: every timer stopped but a drain timer at its full time, no
drain with a drain time of 0, and the slot as given (R87, R99). -/
def Bay.drained (slot : Slot) (y : Bay) : Bay :=
  { y with
    state := if y.settings.drainTime = 0 then .idle else .draining
    armTimer := none, noFlowTimer := none, gapTimer := none, closeTimer := none
    drainTimer := if y.settings.drainTime = 0 then none else some (y.settings.drainTime * 1000)
    slot := slot }

/-- R4, R5: the temperature used for a tally at a bay whose tank has the last good census temperature given. -/
def tempUsed (y : Bay) (lastGood : Option Int) (t : Tally) : Int :=
  match t.temp with
  | some x => clampTemp x
  | none =>
    match (if y.state.active then y.heldTemp else none) with
    | some h => h
    | none => lastGood.getD 150

end Sys2Proof.Machine
end

