-- ==== Sys2Proof/Certificates/Slice0/Obligations.lean ====
section
/-! DEFINITION. The statements for the provers. A request that stands at the head of the trunk receive queue and may be
taken is `s.requestAt kind = some f`; `s.taken` is the state once it is taken and the pod awake; `answered f t r` is the
outcome whose state is `t` with reply `r` queued. Every such equality says the frame too: what `t` does not name is as
`s.taken` has it, and what an event ends with (a census start, the watch delay timer) is the statement on it. -/

section
open Sys2Proof Sys2Proof.Machine

/-! ## The step -/

/-- A step with command c at the front of the queue is exec of c on the state with the queue's rest. -/
def Obligations.StepRunsFrontCommand : Prop :=
  ∀ (c : Instr) (rest : List Instr) (s : State),
    step { s with pending := c :: rest } = exec c { s with pending := rest }

/-- No command faults or is refused by the model, and none touches the queue. -/
def Obligations.EveryCommandAnswersAndKeepsTheQueue : Prop :=
  ∀ (c : Instr) (s : State), ∃ t : State, exec c s = .next t ∧ t.pending = s.pending

/-- What an event ends with (R121, R177; log 9): with no census in flight and a flag pending, the census of the one
flagged tank, or of the tank other than the last served, starts with the flag's purpose; then the watch delay timer
runs exactly when its conditions hold. Nothing else changes. The list of what is driven on the bus is the model's own
record (log 25). Last, the conditions of R177. -/
def Obligations.EventEndsWithCensusStartAndWatchTimer : Prop :=
  ∀ s : State,
    (∀ c, s.probe.inFlight = some c → s.settled = s.settleWatch) ∧
    ((∀ t, (s.probeTank t).want = none) → s.settled = s.settleWatch) ∧
    (∀ t p, s.probe.inFlight = none → (s.probeTank t).want = some p →
      ((s.probeTank (otherTank t)).want = none ∨ s.probe.lastServed = otherTank t) →
        ∃ c : CensusInFlight,
          s.settled = ({ s with probe := { s.probe with
            tanks := s.probe.tanks.set t { s.probeTank t with want := none }
            inFlight := some c
            busActs := s.probe.busActs ++ [.start, .addressWrite c.address] } } : State).settleWatch ∧
          c.tank = t ∧ c.purpose = p ∧ c.attempt = .first ∧ c.wait = none ∧
          c.address = (s.tank t).settings.probeAddress ∧
          (c.own = true ↔ (s.tank t).expects = some p) ∧
          (c.stillAtStart = true ↔
            ((s.probeTank t).settle = none ∧ (s.tank t).receiving = false ∧
              ∀ b, (s.bay b).settings.tank = t →
                (s.bay b).state ≠ .flowing ∧ (s.bay b).state ≠ .trimming ∧ (s.bay b).state ≠ .closing))) ∧
    s.settleWatch = { s with watchTimer := s.settleWatch.watchTimer } ∧
    (s.watchReady = true → s.settleWatch.watchTimer =
      some (s.watchTimer.getD (s.podSettings.watchDelay * 1000))) ∧
    (s.watchReady = false → s.settleWatch.watchTimer = none) ∧
    (s.watchReady = true ↔
      s.pod = .inService ∧
      (∀ b, ((s.bay b).state = .idle ∨ (s.bay b).state = .disabled) ∧ (s.bay b).slot.pending = false) ∧
      (∀ t, (s.tank t).delivery = none ∧ (s.probeTank t).want = none) ∧ s.probe.inFlight = none ∧
      s.yard.tx = [] ∧ s.trunk.tx = [])

/-! ## Laws that every step keeps -/

/-- The state after reset has every law below. -/
def Obligations.ResetHasEveryLaw : Prop :=
  QueuesBounded State.reset ∧ FleetLaw State.reset ∧ RecordsLaw State.reset ∧ ValveLaw State.reset ∧
    TimersLaw State.reset ∧ AccumulatorLaw State.reset ∧ ArmedLaw State.reset ∧ JournalLaw State.reset ∧
    SequenceLaw State.reset ∧ ReceivingLaw State.reset ∧ TankLaw State.reset ∧ StrappingLaw State.reset ∧
    CensusLaw State.reset ∧ BlankLaw State.reset ∧ WatchLaw State.reset ∧ SettingsLaw State.reset

/-- R20: at most 256 records, ascending and distinct tags, none 0. -/
def Obligations.FleetStaysOrderedAndBounded : Prop := ∀ s t : State, FleetLaw s → step s = .next t → FleetLaw t

/-- R23, R39: every counter's remaining stays within ±99,999,999, and every record keeps the ranges of its fields. -/
def Obligations.RecordsStayInRange : Prop := ∀ s t : State, RecordsLaw s → step s = .next t → RecordsLaw t

/-- R13, R15, R16, R92: Σg equals the gross accumulator, and every accumulator, sum and totalizer keeps its range. -/
def Obligations.AccumulatorsStayInRange : Prop :=
  ∀ s t : State, AccumulatorLaw s → step s = .next t → AccumulatorLaw t

/-- R91: armed-at names bay b exactly when bay b is active for that tag. -/
def Obligations.ArmedAtNamesTheActiveBay : Prop :=
  ∀ s t : State, FleetLaw s → ArmedLaw s → step s = .next t → ArmedLaw t

/-- R17, R125, R130, R134, R136: book within its bounds, standing as the book gives it, settings and strike count in
range, strapping table in a lawful load state. -/
def Obligations.TankAccountsStayLawful : Prop :=
  ∀ s t : State, TankLaw s → StrappingLaw s → step s = .next t → TankLaw t ∧ StrappingLaw t

/-- 10, head table; R25, R75, R160, R166, R172, R173, R179: no queue outgrows its capacity, and what the site writes, the
clock, the station and the drop count keep their ranges. -/
def Obligations.QueuesAndSettingsStayInRange : Prop :=
  (∀ s t : State, QueuesBounded s → step s = .next t → QueuesBounded t) ∧
  (∀ s t : State, SettingsLaw s → step s = .next t → SettingsLaw t)

/-- R94: FULL only in FLOWING, SLOW only in TRIMMING, SHUT in every other state; only while main power is absent may a bay
that a cut warm start took to DRAINING or IDLE hold another order, since R181 orders SHUT after the bays (log 30). R77:
each bay timer runs in its state and in no other. -/
def Obligations.ValveOrderAndTimersFollowBayState : Prop :=
  (∀ s t : State, ValveLaw s → step s = .next t → ValveLaw t) ∧
  (∀ s t : State, TimersLaw s → step s = .next t → TimersLaw t)

/-- R149, R152: spans, pointers and held counts; records plus reservations within the span; one reservation for each
active bay. R151: the held records of each ring carry consecutive numbers. -/
def Obligations.JournalKeepsItsRoomAndItsNumbers : Prop :=
  (∀ s t : State, JournalLaw s → step s = .next t → JournalLaw t) ∧
  (∀ s t : State, SequenceLaw s → step s = .next t → SequenceLaw t)

/-- R139: no bay on a RECEIVING tank is active. R121, R124, R141: a flag waits only while a census is in flight; failure
counts 0 to 3; the own mark. -/
def Obligations.DeliveriesAndCensusesStayLawful : Prop :=
  (∀ s t : State, ReceivingLaw s → step s = .next t → ReceivingLaw t) ∧
  (∀ s t : State, CensusLaw s → step s = .next t → CensusLaw t)

/-- R174: in BLANK no bay is active and no reservation is held. R177: the watch delay timer runs exactly when its
conditions hold; in WATCH no bay is active. -/
def Obligations.PodStatesKeepTheirConditions : Prop :=
  (∀ s t : State, BlankLaw s → step s = .next t → BlankLaw t) ∧
  (∀ s t : State, WatchLaw s → step s = .next t → WatchLaw t)

/-! ## Quantities -/

/-- R2: convergent rounding: nearest, a half to the even one, the table, the symmetry and the four examples. -/
def Obligations.ConvergentRoundingIsNearestTiesToEven : Prop :=
  (∀ a d : Int, 0 < d →
    (0 ≤ a - a / d * d ∧ a - a / d * d ≤ d - 1) ∧
    (2 * (a - a / d * d) < d → convRound a d = a / d) ∧
    (d < 2 * (a - a / d * d) → convRound a d = a / d + 1) ∧
    (2 * (a - a / d * d) = d → a / d % 2 = 0 → convRound a d = a / d) ∧
    (2 * (a - a / d * d) = d → a / d % 2 = 1 → convRound a d = a / d + 1) ∧
    (∀ z : Int, |a - convRound a d * d| ≤ |a - z * d|) ∧
    (2 * (a - a / d * d) = d → convRound a d % 2 = 0) ∧
    convRound (-a) d = -convRound a d) ∧
  convRound 5 2 = 2 ∧ convRound 7 2 = 4 ∧ convRound (-5) 2 = -2 ∧ convRound (-7) 2 = -4

/-- R6, R7: Q lies between 8,500,000 and 10,900,000, and a net increment between 0.85 and 1.09 times its gross, to
within half a microlitre. -/
def Obligations.CorrectionFactorAndNetAreBounded : Prop :=
  ∀ (e : Nat) (t : Int) (g : Nat), e ≤ 2000 → -300 ≤ t → t ≤ 900 →
    8500000 ≤ correctionFactor e t ∧ correctionFactor e t ≤ 10900000 ∧ correctionFactor e 150 = 10000000 ∧
    netIncrement g 150 e = g ∧
    2 * |(netIncrement g t e : Int) * 10000000 - g * correctionFactor e t| ≤ 10000000 ∧
    85 * (g : Int) ≤ 100 * (netIncrement g t e : Int) + 50 ∧ 100 * (netIncrement g t e : Int) ≤ 109 * (g : Int) + 50

/-! ## Starts and losses of power -/

/-- R180, R179: a start with the mark absent gives every block its cold-start value, reported COLD; and those values (R25, R36, R75,
R98, R129, R130, R148, R159, R169, R172, R173, R174). -/
def Obligations.ColdStartGivesEveryBlockItsValue : Prop :=
  (∀ (s : State) (x : Byte), s.retentionMark = false →
    exec (.coldStart x) s =
      .next { State.reset with
        pending := s.pending, straps := x
        station := if 1 ≤ x.toNat ∧ x.toNat ≤ 239 then x else 239#8 }) ∧
  State.reset.retentionMark = true ∧ State.reset.lastStart = .cold ∧ State.reset.pod = .blank ∧ State.reset.clock = 0 ∧
  State.reset.clockSet = false ∧ State.reset.fleet = [] ∧ State.reset.watchTimer = none ∧
  (∀ c : Fin 16, State.reset.classes[c] = { limpAllotment := 200, hourCeiling := 2400 }) ∧
  (∀ b, (State.reset.bay b).state = .disabled ∧ (State.reset.bay b).grant = none ∧
    (State.reset.bay b).slot = { order := .shut, pending := true } ∧ (State.reset.bay b).reported = none ∧
    (State.reset.bay b).gross = 0 ∧ (State.reset.bay b).net = 0 ∧ (State.reset.bay b).closing = 0 ∧
    (State.reset.bay b).unassigned = 0 ∧ (State.reset.bay b).sumTG = 0 ∧ (State.reset.bay b).sumG = 0 ∧
    (State.reset.bay b).tallyCount = 0 ∧ (State.reset.bay b).flow = 0 ∧ (State.reset.bay b).seeded = false ∧
    (State.reset.bay b).heldTemp = none ∧ (State.reset.bay b).cause = none ∧
    (State.reset.bay b).flags = { uncompensated := false, tempClamped := false, saturated := false, overspeed := false,
                                  afterRun := false, valve := false, meter := false } ∧
    (State.reset.bay b).shutSeen = false ∧ (State.reset.bay b).armTimer = none ∧
    (State.reset.bay b).noFlowTimer = none ∧ (State.reset.bay b).gapTimer = none ∧
    (State.reset.bay b).closeTimer = none ∧ (State.reset.bay b).drainTimer = none ∧
    (State.reset.bay b).grossTotal = { litres := 0, micro := 0 } ∧
    (State.reset.bay b).netTotal = { litres := 0, micro := 0 } ∧
    (State.reset.bay b).settings =
      { enabled := false, tank := if b = .b1 ∨ b = .b2 then .t1 else .t2, meterFactor := 100000, maxFlow := 20000,
        slowBand := 20, closeLead := 400, armTime := 90, noFlowTime := 8, gapTime := 3, closeTime := 10,
        drainTime := 15, afterRunLimit := 20 }) ∧
  (∀ t, (State.reset.tank t).book = 0 ∧ (State.reset.tank t).stockSet = false ∧
    (State.reset.tank t).standing = .empty ∧ (State.reset.tank t).varianceHold = false ∧
    (State.reset.tank t).waterHold = false ∧ (State.reset.tank t).strikes = 0 ∧
    (State.reset.tank t).latestVariance = none ∧ (State.reset.tank t).latestCensus = none ∧
    (State.reset.tank t).lastGoodTemp = none ∧ (State.reset.tank t).strapping = .empty ∧
    (State.reset.tank t).delivery = none ∧ (State.reset.probeTank t).want = none ∧
    (State.reset.probeTank t).failures = 0 ∧ (State.reset.probeTank t).settle = none ∧
    (State.reset.tank t).settings =
      { capacity := 60000, expansion := 830, rationLevel := 0, reserveLevel := 0, reservePriority := 3,
        rationPercent := 100, tolerance := 500, holdEnable := false, waterLimit := 200,
        probeAddress := if t = .t1 then 16 else 17, settleTime := 120 }) ∧
  State.reset.probe.inFlight = none ∧ State.reset.probe.lastServed = .t2 ∧ State.reset.probe.censusTimer = 300000 ∧
  State.reset.probe.busActs = [.nineClocks, .stop] ∧
  State.reset.journal.issueSpan = 768 ∧ State.reset.journal.eventSpan = 256 ∧
  State.reset.journal.issues = { records := [], readPtr := 0, writePtr := 0, nextSeq := 0 } ∧
  State.reset.journal.events = { records := [], readPtr := 768, writePtr := 768, nextSeq := 0 } ∧
  State.reset.journal.reservations = 0 ∧ State.reset.journal.overwrites = 0 ∧
  State.reset.podSettings =
    { censusPeriod := 300, watchDelay := 60, deliveryWindow := 120, yardRate := { s := 2, d := 95 },
      trunkRate := { s := 2, d := 95 } } ∧
  State.reset.yard = State.reset.trunk ∧ State.reset.yardMode = .run ∧ State.reset.forwardDrops = 0 ∧
  State.reset.trunk = { rx := [], tx := [], sending := none, flags := PortFlags.clear, receiver := .hunting,
                        rate := { s := 2, d := 95 } }

/-- R99, R129, R148, R152, R169, R181: what a warm start keeps, and what it repairs. `t` is the state as the start ends,
before what every event ends with; `ks` are the SERVICE events of the interrupted completions. A warm start cut short by
a power loss (log 30) has made its first `n` parts: the ports, the event, the leaving of WATCH, bays 1 to 4 in order, and
the slots; what it has made stays made, and bays not yet reached are as they were. The model's choices: a start begins a new
second (log 22), and the record of what is driven on the bus begins anew (log 25). -/
def Obligations.WarmStartKeepsTheRetainedState : Prop :=
  (∀ (s : State) (x : Byte), s.retentionMark = true →
    ∃ (t : State) (ks : List EventKind) (new : List IssueRecord),
      exec (.warmStart ⟨x, .whole⟩) s = .next t.settled ∧
      t.powered = true ∧ t.retentionMark = true ∧ t.resetPending = false ∧ t.straps = x ∧
      t.station = (if 1 ≤ x.toNat ∧ x.toNat ≤ 239 then x else 239#8) ∧
      t.lastStart = (if s.powered = true ∧ s.resetPending = true ∧ s.trunk.tx = [] then .warmByReset else .warm) ∧
      t.pod = (if s.pod = .watch then .inService else s.pod) ∧ t.clock = s.clock ∧ t.clockSet = s.clockSet ∧
      t.subMs = 0 ∧ t.watchTimer = none ∧ t.pending = s.pending ∧
      t.podSettings = s.podSettings ∧ t.classes = s.classes ∧ t.tanks = s.tanks ∧
      t.yard = Port.fresh s.podSettings.yardRate ∧ t.trunk = Port.fresh s.podSettings.trunkRate ∧ t.yardMode = .run ∧
      t.yardTarget = .run ∧ t.forwardDrops = 0 ∧
      (∀ b, (s.bay b).state.active = true → t.bay b =
        { (s.bay b).drained { order := .shut, pending := true } with
          cause := some .interrupted, grossTotal := (s.bay b).grossTotal.add (s.bay b).gross
          netTotal := (s.bay b).netTotal.add (s.bay b).net }) ∧
      (∀ b, (s.bay b).state = .draining → t.bay b = (s.bay b).drained { order := .shut, pending := true }) ∧
      (∀ b, (s.bay b).state.active = false → (s.bay b).state ≠ .draining →
        t.bay b = { s.bay b with slot := { order := .shut, pending := true } }) ∧
      t.journal.issueSpan = s.journal.issueSpan ∧
      t.journal.reservations = s.journal.reservations - s.activeCount ∧
      t.journal.issues.records = s.journal.issues.records ++ new ∧
      new.map (·.bay) = bayList.filter (fun b => (s.bay b).state.active) ∧
      (∀ r ∈ new, r.cause = .interrupted ∧ r.finish = s.clock ∧ r.tag = (s.bay r.bay).serving.tag ∧
        r.grossCl = clOf (s.bay r.bay).gross ∧ r.netCl = clOf (s.bay r.bay).net ∧
        r.afterRun = (s.bay r.bay).flags.afterRun) ∧
      t.journal.events =
        (s.journalAfter ([.warmStart] ++ (if s.pod = .watch then [.podState .watch .inService] else []) ++ ks)).events ∧
      t.journal.overwrites =
        (s.journalAfter ([.warmStart] ++ (if s.pod = .watch then [.podState .watch .inService] else []) ++ ks)).overwrites ∧
      (∀ k ∈ ks, ∃ b c st, (s.bay b).state.active = true ∧ k = .service (s.bay b).serving.tag c st) ∧
      (s.activeCount = 0 → ks = [] ∧ t.fleet = s.fleet) ∧
      t.fleet.map (·.tag) = s.fleet.map (·.tag) ∧
      (∀ v ∈ t.fleet, ∀ b, (s.bay b).state.active = true → v.tag = (s.bay b).serving.tag →
        v.armedAt = none ∧ v.lastIssue = some s.stamp) ∧
      (∀ v ∈ s.fleet, (∀ b, (s.bay b).state.active = true → v.tag ≠ (s.bay b).serving.tag) → v ∈ t.fleet) ∧
      t.probe.lastServed = s.probe.lastServed ∧ t.probe.inFlight = none ∧
      t.probe.censusTimer = s.podSettings.censusPeriod * 1000 ∧ t.probe.busActs = [.nineClocks, .stop] ∧
      (∀ k, (t.probeTank k).failures = (s.probeTank k).failures) ∧
      (s.probe.inFlight = none → ∀ k, (t.probeTank k).want = (s.probeTank k).want) ∧
      (∀ c, s.probe.inFlight = some c → ∀ k,
        (t.probeTank k).want = ((s.raiseCensus c.tank c.purpose).probeTank k).want) ∧
      (∀ k, ((s.probeTank k).settle ≠ none ∨ ∃ b, (s.bay b).state.active = true ∧ (s.bay b).serving.tank = k) →
        (t.probeTank k).settle = if (s.tank k).settings.settleTime = 0 then none
          else some ((s.tank k).settings.settleTime * 1000)) ∧
      (∀ k, (s.probeTank k).settle = none → (∀ b, (s.bay b).state.active = true → (s.bay b).serving.tank ≠ k) →
        (t.probeTank k).settle = none)) ∧
  (∀ (s : State) (x : Byte) (n : Fin 9), s.retentionMark = true →
    ∃ (t : State) (new : List IssueRecord), exec (.warmStart ⟨x, .cut n⟩) s = .next t ∧
      t.powered = false ∧ t.retentionMark = true ∧ t.pending = s.pending ∧ t.clock = s.clock ∧
      t.clockSet = s.clockSet ∧ t.podSettings = s.podSettings ∧ t.classes = s.classes ∧ t.tanks = s.tanks ∧
      t.pod = (if 3 ≤ n.val ∧ s.pod = .watch then .inService else s.pod) ∧
      (n.val ≤ 1 → t.journal = s.journal) ∧
      (2 ≤ n.val → ∃ rest, t.journal.events = (s.journalAfter (.warmStart :: rest)).events) ∧
      t.journal.issues.records = s.journal.issues.records ++ new ∧
      new.map (·.bay) = bayList.filter (fun b => (s.bay b).state.active && decide (bayNumber b + 3 ≤ n.val)) ∧
      (∀ r ∈ new, r.cause = .interrupted) ∧ t.journal.reservations = s.journal.reservations - new.length ∧
      (∀ b, (n.val < bayNumber b + 3 → t.bay b = s.bay b) ∧
        (bayNumber b + 3 ≤ n.val →
          (t.bay b).state = (if (s.bay b).state.active = true ∨ (s.bay b).state = .draining then
              (if (s.bay b).settings.drainTime = 0 then .idle else .draining)
             else (s.bay b).state) ∧
          (t.bay b).slot = (if n.val = 8 then { order := .shut, pending := true } else (s.bay b).slot) ∧
          ((s.bay b).state.active = true → (t.bay b).cause = some .interrupted)))) ∧
  (∀ (s : State) (w : StartRun), s.retentionMark = false → exec (.warmStart w) s = .next s)

/-- R180: the loss of main power stops the part and leaves the retained state; until a start nothing but the backup
supply's loss, which takes the mark, changes anything; with main power present that loss takes nothing, and is not remembered
(log 40). The emptied queues are the model's own reading (log 22). -/
def Obligations.PowerLossKeepsTheRetainedStateUntilAStart : Prop :=
  (∀ s : State, s.powered = true →
    exec .mainPowerLoss s =
      .next { s with
        powered := false, resetPending := false, watchTimer := none, yard := Port.fresh s.podSettings.yardRate
        trunk := Port.fresh s.podSettings.trunkRate, yardMode := .run, yardTarget := .run, forwardDrops := 0 }) ∧
  (∀ s : State, s.powered = false → exec .backupSupplyLoss s = .next { s with retentionMark := false }) ∧
  (∀ s : State, s.powered = true → exec .backupSupplyLoss s = .next s) ∧
  (∀ (c : Instr) (s : State), s.powered = false → (∀ x, c ≠ .coldStart x) → (∀ w, c ≠ .warmStart w) →
    c ≠ .backupSupplyLoss → exec c s = .next s)

/-- R172: each second the clock advances by one, from 4,294,967,295 to 0; that the rest of the second passes for every
timer, and that a millisecond passes at an empty queue, is the model's convention (log 4). TIME SET gives the clock a
value, sets the mark, shifts no timer and logs nothing; the second in progress goes on (log 38). -/
def Obligations.ClockCountsSecondsAndIsSet : Prop :=
  (∀ s : State, s.powered = true →
    exec .podClockTick s =
      .next ({ s.elapse (1000 - s.subMs) with
        clock := if s.clock = 4294967295 then 0 else (s.clock + 1) % 4294967296, subMs := 0 } : State).settled) ∧
  (∀ (s : State) (f : Frame) (ref a b c d : Byte), s.requestAt 0x2B = some f → f.payload = [ref, a, b, c, d] →
    exec .timeSet s =
      answered f { s.taken with clock := beNat [a, b, c, d], clockSet := true }
        (.okWith (.timeSet { time := s.clock, unset := !s.clockSet } (beNat [a, b, c, d])))) ∧
  (∀ s : State, s.pending = [] →
    step s = .next
      (if s.powered = true then
        (if 999 ≤ s.subMs then { s.elapse 1 with clock := (s.clock + 1) % 4294967296, subMs := 0 }
         else { s.elapse 1 with subMs := s.subMs + 1 })
       else s))

/-! ## Ports -/

/-- R161, R163, R170, R177: a frame that arrives whole and correct at a hunting receiver is placed at the tail of the
receive queue, which starts a running watch delay timer again; at a full queue it sets OVERRUN; in WATCH the yard port
keeps only a TAG from a reader for the pod, and drops a frame that fails its check too, and sets no flag. That the pod is
still in WATCH while that TAG stands in the queue, until it is taken, is log 8. -/
def Obligations.CorrectFrameJoinsItsReceiveQueue : Prop :=
  ∀ (s : State) (p : PortId) (f : Frame), s.powered = true → f.payload.length ≤ 56 →
    (s.port p).receiver = .hunting →
    ((s.port p).rx.length < rxCap p → (p = .trunk ∨ s.pod ≠ .watch) →
      exec (.frameReceive p (goodFrame f)) s =
        .next (((s.setPort p { s.port p with rx := (s.port p).rx ++ [f] }).restartWatch).settled)) ∧
    (rxCap p ≤ (s.port p).rx.length → (p = .trunk ∨ s.pod ≠ .watch) →
      exec (.frameReceive p (goodFrame f)) s =
        .next (s.setPort p { s.port p with flags := { (s.port p).flags with overrun := true } }).settled) ∧
    (p = .yard → s.pod = .watch → s.yard.rx.length < 8 → f.kind = 0x10 → (readerBay f.src).isSome = true →
      f.dst = s.station →
      exec (.frameReceive .yard (goodFrame f)) s =
        .next ((({ s with yard := { s.yard with rx := s.yard.rx ++ [f] } } : State).restartWatch).settled)) ∧
    (∀ c : RxChar, c.parityError = false → c.stopMissing = false → (goodFrame f).getLast? ≠ some c →
      (p = .trunk ∨ s.pod ≠ .watch) →
      exec (.frameReceive p ((goodFrame f).dropLast ++ [c])) s =
        .next (s.setPort p { s.port p with flags := { (s.port p).flags with check := true } }).settled) ∧
    (∀ c : RxChar, c.parityError = false → c.stopMissing = false → (goodFrame f).getLast? ≠ some c → p = .yard →
      s.pod = .watch → exec (.frameReceive .yard ((goodFrame f).dropLast ++ [c])) s = .next s.settled) ∧
    (p = .yard → s.pod = .watch → (8 ≤ s.yard.rx.length ∨ f.kind ≠ 0x10 ∨ readerBay f.src = none ∨ f.dst ≠ s.station) →
      exec (.frameReceive .yard (goodFrame f)) s = .next s.settled)

/-- R161, R163: each condition that ends a frame drops it, sets its flag unless the yard port is in WATCH, and returns the
receiver to hunting; a start character opens a frame; while hunting any other character is discarded. -/
def Obligations.ReceptionErrorsSetTheirFlag : Prop :=
  (∀ (s : State) (p : PortId) (got : List Byte) (c : RxChar), s.powered = true → (s.port p).receiver = .inside got →
    (p = .trunk ∨ s.pod ≠ .watch) →
    (c.parityError = true → exec (.frameReceive p [c]) s =
      .next (s.setPort p { s.port p with
        receiver := .hunting, flags := { (s.port p).flags with parity := true } }).settled) ∧
    (c.parityError = false → c.stopMissing = true → exec (.frameReceive p [c]) s =
      .next (s.setPort p { s.port p with
        receiver := .hunting, flags := { (s.port p).flags with framing := true } }).settled) ∧
    (c.parityError = false → c.stopMissing = false → got.length = 3 → 56 < c.data.toNat →
      exec (.frameReceive p [c]) s =
        .next (s.setPort p { s.port p with
          receiver := .hunting, flags := { (s.port p).flags with framing := true } }).settled) ∧
    exec (.characterGapTimeout p) s =
      .next (s.setPort p { s.port p with
        receiver := .hunting, flags := { (s.port p).flags with framing := true } }).settled) ∧
  (∀ (s : State) (got : List Byte) (c : RxChar), s.powered = true → s.yard.receiver = .inside got → s.pod = .watch →
    let dropped := ({ s with yard := { s.yard with receiver := .hunting } } : State).settled
    exec (.characterGapTimeout .yard) s = .next dropped ∧
    (c.parityError = true → exec (.frameReceive .yard [c]) s = .next dropped) ∧
    (c.parityError = false → c.stopMissing = true → exec (.frameReceive .yard [c]) s = .next dropped) ∧
    (c.parityError = false → c.stopMissing = false → got.length = 3 → 56 < c.data.toNat →
      exec (.frameReceive .yard [c]) s = .next dropped)) ∧
  (∀ (s : State) (p : PortId), s.powered = true → (s.port p).receiver = .hunting →
    exec (.startCharacter p false) s = .next (s.setPort p { s.port p with receiver := .inside [] }).settled ∧
    ((p = .trunk ∨ s.pod ≠ .watch) → exec (.startCharacter p true) s =
      .next (s.setPort p { s.port p with flags := { (s.port p).flags with parity := true } }).settled) ∧
    (p = .yard → s.pod = .watch → exec (.startCharacter p true) s = .next s.settled) ∧
    (∀ c : RxChar, c.data ≠ 0xA5 → exec (.frameReceive p [c]) s = .next s.settled))

/-- R95, R162: a free transmitter takes the slot of the lowest-numbered pending bay on the yard port, clearing its mark and
sending its order to station 247 + b; otherwise the oldest frame of its queue, which leaves the queue when its last
character has been sent; with neither it takes nothing. R160, R163: the yard port returns to RUN mode after the waking
TAG's notice; the yard port takes its stored rate only when neither its receiver nor its transmitter is in a frame, the
trunk port only when its receiver is not and no reply to a POD SET waits; otherwise nothing changes. Last, how the yard port
is put in a mode: once it is between frames (log 18), or in RUN mode at once. -/
def Obligations.TransmitterTakesAndSendsFrames : Prop :=
  (∀ (s : State) (b : BayId), s.powered = true → s.yard.sending = none → (s.bay b).slot.pending = true →
    (∀ c, bayNumber c < bayNumber b → (s.bay c).slot.pending = false) →
    exec (.transmitFrame .yard .take) s =
      .next ({ s.setBay b { s.bay b with slot := { order := (s.bay b).slot.order, pending := false } } with
        yard := { s.yard with sending := some (.slotFrame
          { dst := BitVec.ofNat 8 (247 + bayNumber b), src := s.station, kind := 0x18,
            body := .valveOrder (s.bay b).slot.order }) } } : State).settled) ∧
  (∀ (s : State) (p : PortId) (e : TxEntry) (rest : List TxEntry), s.powered = true → (s.port p).sending = none →
    (p = .trunk ∨ ∀ b, (s.bay b).slot.pending = false) → (s.port p).tx = e :: rest →
    exec (.transmitFrame p .take) s = .next (s.setPort p { s.port p with sending := some .queueHead }).settled) ∧
  (∀ (s : State) (p : PortId), s.powered = true → (s.port p).sending = none →
    (p = .trunk ∨ ∀ b, (s.bay b).slot.pending = false) → (s.port p).tx = [] →
    exec (.transmitFrame p .take) s = .next s.settled) ∧
  (∀ (s : State) (p : PortId) (e : TxEntry) (rest : List TxEntry), s.powered = true →
    (s.port p).sending = some .queueHead → (s.port p).tx = e :: rest →
    (e.wake = false → exec (.transmitFrame p .last) s =
      .next (s.setPort p { s.port p with sending := none, tx := rest }).settled) ∧
    (e.wake = true → exec (.transmitFrame p .last) s =
      .next ((s.setPort p { s.port p with sending := none, tx := rest }).setYardMode .run).settled)) ∧
  (∀ (s : State) (f : OutFrame), s.powered = true → s.yard.sending = some (.slotFrame f) →
    exec (.transmitFrame .yard .last) s = .next ({ s with yard := { s.yard with sending := none } } : State).settled) ∧
  (∀ s : State, s.powered = true → s.yard.receiver = .hunting → s.yard.sending = none →
    exec (.rateSettingApplied .yard) s =
      .next ({ s with yardMode := s.yardTarget, yard := { s.yard with rate := s.podSettings.yardRate } } : State).settled) ∧
  (∀ s : State, s.yard.receiver ≠ .hunting ∨ s.yard.sending ≠ none → exec (.rateSettingApplied .yard) s = .next s) ∧
  (∀ s : State, s.powered = true → s.trunk.receiver = .hunting →
    (∀ e ∈ s.trunk.tx, ∀ ref r, e.frame.body = .reply ref r → ∀ p y t, r.fields ≠ .podSettings p y t) →
    exec (.rateSettingApplied .trunk) s =
      .next ({ s with trunk := { s.trunk with rate := s.podSettings.trunkRate } } : State).settled) ∧
  (∀ s : State, s.trunk.receiver ≠ .hunting ∨
      (∃ e ∈ s.trunk.tx, ∃ ref r p y t, e.frame.body = .reply ref r ∧ r.fields = .podSettings p y t) →
    exec (.rateSettingApplied .trunk) s = .next s) ∧
  (∀ (s : State) (m : RateMode),
    let free : Prop := s.yard.receiver = .hunting ∧ s.yard.sending = none
    (free → s.setYardMode m =
      { s with yardTarget := m, yardMode := m, yard := { s.yard with rate := s.podSettings.yardRate } }) ∧
    (¬free → s.setYardMode m = { s with yardTarget := m }) ∧
    (free → s.runAtOnce =
      { s with yardTarget := .run, yardMode := .run, yard := { s.yard with rate := s.podSettings.yardRate } }) ∧
    (¬free → s.runAtOnce = { s with yardTarget := .run, yardMode := .run }))

/-- R164 to R166: how frames are classified, by the tables of R164 and R165; frames passed on, refused and dropped: the
other port's queue with room takes the frame unchanged, a full one drops it and counts; a trunk frame for the meter head
or valve unit of an active bay is answered FORWARD REFUSED; STATION DATA for the pod and frames R164 and R165 drop are
only taken. R163: a waking TAG of wrong length sets RUN mode at once. Which row takes which frame is log 3; a broadcast
without payload is dropped by log 27. -/
def Obligations.FramesArePassedOnRefusedOrDropped : Prop :=
  (∀ (n : Byte) (f : Frame), 1 ≤ n.toNat → n.toNat ≤ 239 →
    (f.dst = n → classifyTrunk n f =
      if 0x20 ≤ f.kind.toNat ∧ f.kind.toNat ≤ 0x3F ∧ f.payload ≠ [] then .request else .drop) ∧
    (f.dst = 255 → classifyTrunk n f = if (f.kind = 0x2B ∨ f.kind = 0x2C) ∧ f.payload ≠ [] then .broadcast else .drop) ∧
    (240 ≤ f.dst.toNat → f.dst.toNat ≤ 251 → classifyTrunk n f = .passThrough) ∧
    (f.dst ≠ n → f.dst ≠ 255 → (f.dst.toNat ≤ 239 ∨ 252 ≤ f.dst.toNat) → classifyTrunk n f = .drop)) ∧
  (∀ (n : Byte) (f : Frame), 1 ≤ n.toNat → n.toNat ≤ 239 →
    let reader := fun b : BayId => f.src = BitVec.ofNat 8 (239 + bayNumber b)
    let head := fun b : BayId => f.src = BitVec.ofNat 8 (243 + bayNumber b)
    let unit := fun b : BayId => f.src = BitVec.ofNat 8 (247 + bayNumber b)
    let mayCome := (∃ b, (reader b ∨ head b ∨ unit b) ∧ f.kind = 0x13) ∨ (∃ b, reader b ∧ f.kind = 0x10) ∨
      (∃ b, head b ∧ f.kind = 0x11) ∨ (∃ b, unit b ∧ f.kind = 0x12)
    (¬mayCome → classifyYard n f = .drop) ∧
    (252 ≤ f.dst.toNat → classifyYard n f = .drop) ∧
    (mayCome → f.dst.toNat ≤ 251 →
      (f.kind = 0x13 → classifyYard n f = .stationData) ∧
      (f.kind ≠ 0x13 → f.dst ≠ n → classifyYard n f = .passThrough) ∧
      (∀ b, f.dst = n → f.kind = 0x10 → reader b → classifyYard n f = .tag b) ∧
      (∀ b, f.dst = n → f.kind = 0x11 → head b → classifyYard n f = .tally b) ∧
      (∀ b, f.dst = n → f.kind = 0x12 → unit b → classifyYard n f = .valveStatus b))) ∧
  (∀ (s : State) (f : Frame), s.yardHead = some f →
    (classifyYard s.station f = .passThrough → exec (.passThrough .yard) s =
      .next (if s.trunk.tx.length < 6 then s.popYard.pushTrunkTx f.forwarded
             else { s.popYard with forwardDrops := min (s.forwardDrops + 1) 65535 }).settled) ∧
    (classifyYard s.station f = .stationData → f.dst ≠ s.station → exec .stationData s =
      .next (if s.trunk.tx.length < 6 then s.popYard.pushTrunkTx f.forwarded
             else { s.popYard with forwardDrops := min (s.forwardDrops + 1) 65535 }).settled) ∧
    (classifyYard s.station f = .stationData → f.dst = s.station → exec .stationData s = .next s.popYard.settled) ∧
    (classifyYard s.station f = .drop → exec (.frameDrop .yard) s = .next s.popYard.settled) ∧
    (∀ b, classifyYard s.station f = .tally b → parseTally f.payload = none →
      exec .tally s = .next s.popYard.settled) ∧
    (∀ b, classifyYard s.station f = .valveStatus b → parseValveStatus f.payload = none →
      exec .valveStatus s = .next s.popYard.settled) ∧
    (∀ b, classifyYard s.station f = .tag b → parseTag f.payload = none →
      exec .tag s = .next (if s.pod = .watch then (s.popYard.changePod .inService).runAtOnce
                           else s.popYard).settled)) ∧
  (∀ (s : State) (f : Frame), s.trunkHead = some f →
    (classifyTrunk s.station f = .drop → exec (.frameDrop .trunk) s = .next s.popTrunk.settled) ∧
    (classifyTrunk s.station f = .passThrough →
      ((∃ b, (f.dst = BitVec.ofNat 8 (243 + bayNumber b) ∨ f.dst = BitVec.ofNat 8 (247 + bayNumber b)) ∧
          (s.bay b).state.active = true) →
        exec (.passThrough .trunk) s =
          .next (s.popTrunk.pushTrunkTx
            { frame := { dst := f.src, src := s.station, kind := 0x1F, body := .forwardRefused f.dst f.kind .busy },
              wake := false }).settled) ∧
      ((∀ b, (f.dst = BitVec.ofNat 8 (243 + bayNumber b) ∨ f.dst = BitVec.ofNat 8 (247 + bayNumber b)) →
          (s.bay b).state.active = false) →
        exec (.passThrough .trunk) s =
          .next (if s.yard.tx.length < 8 then s.popTrunk.pushYardTx f.forwarded
                 else { s.popTrunk with forwardDrops := min (s.forwardDrops + 1) 65535 }).settled)))

/-- R168: LINK STATUS changes nothing and carries both ports, its queue counts those before its own reply is placed (log 35); LINK CLEAR clears each flag that is set and named in the
mask, and the count when it is named. -/
def Obligations.LinkStatusAndLinkClear : Prop :=
  (∀ (s : State) (f : Frame) (ref : Byte), s.requestAt 0x3F = some f → f.payload = [ref] →
    exec .linkStatus s = answered f s.taken (.okWith (.linkReport
      { flags := s.taken.yard.flags, setting := s.podSettings.yardRate, rate := s.taken.yardBitRate,
        rxHeld := s.taken.yard.rx.length, txHeld := s.taken.yard.tx.length }
      { flags := s.trunk.flags, setting := s.podSettings.trunkRate,
        rate := { num := 14745600, den := 2 ^ s.trunk.rate.s * (2 * (s.trunk.rate.d + 1)) },
        rxHeld := s.trunk.rx.length - 1, txHeld := s.trunk.tx.length }
      s.taken.yardMode s.forwardDrops))) ∧
  (∀ (s : State) (f : Frame) (ref a b : Byte), s.requestAt 0x38 = some f → f.payload = [ref, a, b] →
    exec .linkClear s = answered f
      { s.taken with
        yard := { s.taken.yard with flags :=
          { parity := s.yard.flags.parity && !b.getLsbD 0, framing := s.yard.flags.framing && !b.getLsbD 1,
            check := s.yard.flags.check && !b.getLsbD 2, overrun := s.yard.flags.overrun && !b.getLsbD 3 } }
        trunk := { s.taken.trunk with flags :=
          { parity := s.trunk.flags.parity && !b.getLsbD 4, framing := s.trunk.flags.framing && !b.getLsbD 5,
            check := s.trunk.flags.check && !b.getLsbD 6, overrun := s.trunk.flags.overrun && !b.getLsbD 7 } }
        forwardDrops := if a.getLsbD 0 then 0 else s.forwardDrops }
      (.okWith (.linkClear
        { parity := s.yard.flags.parity && !b.getLsbD 0, framing := s.yard.flags.framing && !b.getLsbD 1,
          check := s.yard.flags.check && !b.getLsbD 2, overrun := s.yard.flags.overrun && !b.getLsbD 3 }
        { parity := s.trunk.flags.parity && !b.getLsbD 4, framing := s.trunk.flags.framing && !b.getLsbD 5,
          check := s.trunk.flags.check && !b.getLsbD 6, overrun := s.trunk.flags.overrun && !b.getLsbD 7 }
        (if a.getLsbD 0 then 0 else s.forwardDrops))))

/-- R164, R167, R171, R178, R182: when a request is taken, what taking it does to a watching pod, and the replies to a
wrong length. The watch delay timer starts with the wake if its conditions then hold (log 39). For a broadcast these rest on log 27: one with no payload is not taken as a request, and one of a wrong
length wakes the pod and has no reply. The count in the FLEET PUT refusal is log 24. -/
def Obligations.RequestIsTakenWakesAndIsChecked : Prop :=
  (∀ (s : State) (f : Frame) (rest : List Frame), s.trunk.rx = f :: rest → 1 ≤ s.station.toNat →
    s.station.toNat ≤ 239 →
    (s.requestAt f.kind = some f ↔
      s.powered = true ∧ s.resetPending = false ∧ s.trunk.tx.length < 6 ∧ f.payload ≠ [] ∧
        ((f.dst = s.station ∧ 0x20 ≤ f.kind.toNat ∧ f.kind.toNat ≤ 0x3F) ∨
          (f.dst = 255 ∧ (f.kind = 0x2B ∨ f.kind = 0x2C)))) ∧
    s.popTrunk = { s with trunk := { s.trunk with rx := rest } }) ∧
  (∀ s : State, s.pod ≠ .watch → s.taken = s.popTrunk) ∧
  (∀ s : State, s.pod = .watch → s.taken.pod = .inService ∧ s.taken.yardTarget = .run ∧
    s.taken.journal = s.journal.logEvent s.stamp (.podState .watch .inService) ∧ s.taken.trunk = s.popTrunk.trunk ∧
    s.taken.bays = s.bays ∧ s.taken.tanks = s.tanks ∧ s.taken.fleet = s.fleet ∧ s.taken.probe = s.probe ∧
    (s.yard.receiver = .hunting → s.yard.sending = none → s.taken.yardMode = .run) ∧
    (s.taken.watchReady = true → s.taken.watchTimer =
      some (s.watchTimer.getD (s.podSettings.watchDelay * 1000))) ∧
    (s.taken.watchReady = false → s.taken.watchTimer = none) ∧
    s.taken = { s.popTrunk with
      pod := .inService, journal := s.taken.journal, yardTarget := .run, yardMode := s.taken.yardMode
      yard := { s.yard with rate := s.taken.yard.rate }, watchTimer := s.taken.watchTimer }) ∧
  (∀ (c : Instr) (kind : Byte) (n : Nat) (s : State) (f : Frame), fixedRequest c = some (kind, n) →
    s.requestAt kind = some f → f.payload.length ≠ n →
    ∃ fields, exec c s = answered f s.taken { result := .invalid, clamped := false, fields := fields }) ∧
  (∀ (s : State) (f : Frame), s.requestAt 0x20 = some f → parseFleetPut f.payload.tail = none →
    exec .fleetPut s = answered f s.taken (.refuseWith .invalid (.fleetCount s.fleet.length))) ∧
  (∀ (s : State) (f : Frame), s.requestAt 0x25 = some f → parseStrapSet f.payload.tail = none →
    exec .strapSet s = refused f s .invalid)

/-- R170: the payloads the part forms, each with its fields in order, at their widths and with their codes; `layout` writes
a list of widths and values most significant byte first. An issue record has 35 bytes and an event record 15, its unused
bytes 0; every JOURNAL READ reply has at most 56 bytes; the check of a frame is over the bytes from the destination on. -/
def Obligations.FramesAndRecordsAreWrittenAsLaidOut : Prop :=
  (∀ w n : Nat, (bytesBE w n).length = w ∧ beNat (bytesBE w n) = n % 256 ^ w) ∧
  (∀ r : IssueRecord, r.bytes.length = 35 ∧ r.bytes = layout
    [(4, r.start), (4, r.finish), (1, bayNumber r.bay), (1, tankNumber r.tank), (4, r.tag), (2, r.unit), (2, r.limit),
      (1, r.reason.code), (1, r.cause.code), (4, r.grossCl), (4, r.netCl),
      (2, match r.averageTemp with | some t => twosComplement 2 t | none => 0x8000),
      (1, (if r.uncompensated then 1 else 0) + (if r.tempClamped then 2 else 0) + (if r.saturated then 4 else 0) +
        (if r.overspeed then 8 else 0) + (if r.afterRun then 16 else 0) + (if r.valve then 32 else 0) +
        (if r.limp then 64 else 0) + (if r.clockUnset then 128 else 0)),
      (4, r.hours.getD 0xFFFFFFFF)]) ∧
  (∀ r : EventRecord,
    let spelled := fun (code : Nat) (fields : List (Nat × Nat)) =>
      r.bytes = layout ([(4, r.time.time), (1, code + if r.time.unset then 128 else 0)] ++ fields ++
        [(10 - (fields.map (·.1)).sum, 0)])
    r.bytes.length = 15 ∧
    (∀ b t c, r.kind = .refusal b t c → spelled 0x01 [(1, bayNumber b), (4, t), (1, c.code), (1, c.reasonCode)]) ∧
    (∀ t c st, r.kind = .service t c st → spelled 0x02 [(4, t), (1, c), (1, st.rank)]) ∧
    (∀ t c, r.kind = .serviceDone t c → spelled 0x03 [(4, t), (1, c)]) ∧
    (∀ t old new, r.kind = .hoursRebased t old new → spelled 0x04 [(4, t), (3, old), (3, new)]) ∧
    (∀ t n, r.kind = .hoursJump t n → spelled 0x05 [(4, t), (2, n)]) ∧
    (∀ b c, r.kind = .bayFault b c → spelled 0x06 [(1, bayNumber b), (1, c.code)]) ∧
    (∀ b n, r.kind = .unaccountedFlow b n → spelled 0x07 [(1, bayNumber b), (4, n)]) ∧
    (∀ k n, r.kind = .variance k n → spelled 0x08 [(1, tankNumber k), (5, twosComplement 5 n)]) ∧
    (∀ k n, r.kind = .water k n → spelled 0x09 [(1, tankNumber k), (2, n)]) ∧
    (∀ k, r.kind = .gaugeLost k → spelled 0x0A [(1, tankNumber k)]) ∧
    (∀ k, r.kind = .gaugeRestored k → spelled 0x0B [(1, tankNumber k)]) ∧
    (∀ k st, r.kind = .stockStanding k st → spelled 0x0C [(1, tankNumber k), (1, st.code)]) ∧
    (∀ k old new, r.kind = .stockSet k old new →
      spelled 0x0D [(1, tankNumber k), (5, twosComplement 5 old), (4, twosComplement 4 new)]) ∧
    (∀ k docket m v e, r.kind = .delivery k docket m v e → spelled 0x0E
      [(1, tankNumber k + (if m.isSome then 16 else 0) + (if v.isSome then 32 else 0) + (if e then 64 else 0)),
        (9, docket * 2 ^ 54 + ((m.getD 0) % (2 ^ 27 : Nat)).toNat * 2 ^ 27 + ((v.getD 0) % (2 ^ 27 : Nat)).toNat)]) ∧
    (∀ k, r.kind = .deliveryAborted k → spelled 0x0F [(1, tankNumber k)]) ∧
    (∀ old new, r.kind = .podState old new → spelled 0x10 [(1, old.code), (1, new.code)]) ∧
    (r.kind = .warmStart → spelled 0x11 [])) ∧
  (∀ (n : Nat) (v : Vehicle) (ref : Byte),
    let status := fun c : Counter => (1, c.basis.code + 16 * c.standing.rank)
    (Body.reply ref (.okWith (.fleetRecord n v))).bytes = some (layout
      ([(1, ref.toNat), (1, 0), (2, n), (4, v.tag), (2, v.unit), (1, v.cls.val), (1, v.priority.val), (1, v.status.code),
        (2, v.fillCeiling),
        (1, match v.permitted with
          | none => 0
          | some p => 128 + (if p.b1 then 1 else 0) + (if p.b2 then 2 else 0) + (if p.b3 then 4 else 0) +
              (if p.b4 then 8 else 0)),
        (2, (v.allowance.map (·.litres)).getD 0), (4, (v.allowance.map (·.usedCl)).getD 0),
        (1, v.standing.code + if v.limpUsed then 128 else 0), (4, v.lastHours.getD 0xFFFFFFFF),
        (1, (v.armedAt.map bayNumber).getD 0), (4, (v.lastIssue.map (·.time)).getD 0xFFFFFFFF),
        (1, match v.lastIssue with | none => 0 | some t => 2 + if t.unset then 1 else 0), (1, v.counters.length)] ++
        v.counters.flatMap (fun c => [(1, c.code), status c, (4, twosComplement 4 c.remaining)]))) ∧
    (Body.reply ref (.okWith (.fleetCounters n v))).bytes = some (layout
      ([(1, ref.toNat), (1, 0), (2, n), (4, v.tag), (1, v.counters.length), (1, v.standing.code)] ++
        v.counters.flatMap (fun c =>
          [(1, c.code), status c, (4, c.interval), (4, c.grace), (4, twosComplement 4 c.remaining)]))) ∧
    (v.counters.length ≤ 3 → ∃ p q, (Body.reply ref (.okWith (.fleetRecord n v))).bytes = some p ∧
      p.length = 34 + 6 * v.counters.length ∧ (Body.reply ref (.okWith (.fleetCounters n v))).bytes = some q ∧
      q.length = 10 + 14 * v.counters.length) ∧
    (∀ res : Result, (Body.reply ref (.refuseWith res (.fleetCount n))).bytes =
      some (layout [(1, ref.toNat), (1, res.code), (2, n)]))) ∧
  (∀ (ref : Byte) (x : RingSummary) (is : List IssueRecord) (es : List EventRecord), is.length ≤ 1 → es.length ≤ 3 →
    (Body.reply ref (.okWith (.journalIssues x is))).bytes = some (layout
      [(1, ref.toNat), (1, 0), (1, (if x.empty then 64 else 0) + is.length), (2, x.held), (4, x.oldest), (2, x.aux)] ++
      is.flatMap IssueRecord.bytes) ∧
    (Body.reply ref (.okWith (.journalEvents x es))).bytes = some (layout
      [(1, ref.toNat), (1, 0), (1, 128 + (if x.empty then 64 else 0) + es.length), (2, x.held), (4, x.oldest),
        (2, x.aux)] ++ es.flatMap EventRecord.bytes) ∧
    ∃ p q, (Body.reply ref (.okWith (.journalIssues x is))).bytes = some p ∧ p.length = 11 + 35 * is.length ∧
      (Body.reply ref (.okWith (.journalEvents x es))).bytes = some q ∧ q.length = 11 + 15 * es.length ∧
      p.length ≤ 56 ∧ q.length ≤ 56) ∧
  (∀ (o : ValveOrder) (tag limit net : Nat) (r : LimitReason) (n : ServiceNotice) (c : RefusalCode) (q : CloseCause)
      (dst kind : Byte) (res : Result),
    (Body.valveOrder o).bytes = some (layout [(1, o.code)]) ∧
    (Body.grantNotice tag limit r n).bytes = some (layout [(4, tag), (2, limit), (1, r.code), (1, n.code)]) ∧
    (Body.refusalNotice tag c).bytes = some (layout [(4, tag), (1, c.code), (1, c.reasonCode)]) ∧
    (Body.closeNotice tag net q).bytes = some (layout [(4, tag), (4, net), (1, q.code)]) ∧
    (Body.forwardRefused dst kind res).bytes = some (layout [(1, dst.toNat), (1, kind.toNat), (1, res.code)])) ∧
  (∀ (x : Bool) (fields : ReplyFields), (Reply.okClamped x fields).resultByte = if x then 0x80 else 0x00) ∧
  [Result.ok, .busy, .notFound, .full, .invalid, .stateRefused].map Result.code = [0, 1, 2, 3, 4, 5] ∧
  [LimitReason.fillCeiling, .allowance, .ration, .limp, .stock].map LimitReason.code = [1, 2, 3, 4, 5] ∧
  [RefusalCode.podClosed, .bayBusy, .bayDraining, .bayDisabled, .unknownTag, .barred, .inUse, .bayNotPermitted, .serviceLock,
    .tankReceiving, .tankHold, .tankEmpty, .reserveOnly, .journalFull].map RefusalCode.code =
    [1, 2, 3, 4, 5, 6, 7, 8, 9, 10, 11, 12, 13, 14] ∧
  (∀ r : LimitReason, (RefusalCode.limitTooLow r).code = 15 ∧ (RefusalCode.limitTooLow r).reasonCode = r.code) ∧
  (∀ c : RefusalCode, (∀ r, c ≠ .limitTooLow r) → c.reasonCode = 0) ∧
  [CloseCause.limit, .noFlow, .nozzle, .site, .meterSilent, .meterFault, .overspeed, .tank, .valve, .armTimeout,
    .interrupted].map CloseCause.code = [1, 2, 3, 4, 5, 6, 7, 8, 9, 10, 11] ∧
  [BayFaultCause.overspeed, .meterFault, .valve, .afterRun].map BayFaultCause.code = [7, 6, 9, 12] ∧
  [CounterStanding.clear, .due, .overdue].map CounterStanding.rank = [0, 1, 2] ∧
  [VehicleStanding.clear, .due, .overdue, .locked].map VehicleStanding.code = [0, 1, 2, 3] ∧
  [TankStanding.normal, .ration, .reserve, .empty].map TankStanding.code = [0, 1, 2, 3] ∧
  [PodState.blank, .inService, .watch, .suspended].map PodState.code = [0, 1, 2, 3] ∧
  [ServiceNotice.noNotice, .due, .limp].map ServiceNotice.code = [0, 1, 2] ∧
  [Basis.hours, .fuel].map Basis.code = [0, 1] ∧ [VehicleStatus.active, .barred].map VehicleStatus.code = [0, 1] ∧
  [ValveOrder.shut, .slow, .full].map ValveOrder.code = [0, 1, 2] ∧
  (∀ (dst src kind : Byte) (p : List Byte), p.length ≤ 56 → ∃ hi lo : Byte,
    wireBytes dst src kind p = [0xA5, dst, src, kind, BitVec.ofNat 8 p.length] ++ p ++ [hi, lo] ∧
      (hi ++ lo : BitVec 16) = crc16 ([dst, src, kind, BitVec.ofNat 8 p.length] ++ p)) ∧
  crc16 [0x31, 0x32, 0x33, 0x34, 0x35, 0x36, 0x37, 0x38, 0x39] = 0x29B1

/-! ## Metering -/

/-- R43, R58, R100, R110, R170, 11.1: how the payloads of the three yard kinds and of the longer requests are read;
a FLEET PUT's counters and a STRAP SET's points are lists of any length. -/
def Obligations.PayloadsAreReadAsLaidOut : Prop :=
  (∀ p1 p0 t1 t0 c1 c0 nz st : Byte,
    parseTally [p1, p0, t1, t0, c1, c0, nz, st] =
      (if 4095 < beNat [p1, p0] then none
       else some
        { pulses := beNat [p1, p0], interval := beNat [t1, t0]
          temp := if c1 = 0x80 ∧ c0 = 0 then none else some (c1 ++ c0 : BitVec 16).toInt
          nozzle := if nz = 1 ∧ (st = 0 ∨ st = 1) then .lifted else .stowed
          status := if st = 0 ∧ (nz = 0 ∨ nz = 1) then .ok else .faulty })) ∧
  (∀ bs : List Byte, bs.length ≠ 8 → parseTally bs = none) ∧
  (∀ p h : Byte, parseValveStatus [p, h] =
    some { position := if p = 0 then .shut else if p = 1 then .slow else if p = 2 then .full else .moving
           health := if h = 0 then .ok else .faulty }) ∧
  (∀ bs : List Byte, bs.length ≠ 2 → parseValveStatus bs = none) ∧
  (∀ a b c d : Byte, parseTag [a, b, c, d] = some { tag := beNat [a, b, c, d], hours := none }) ∧
  (∀ a b c d e f g h : Byte, parseTag [a, b, c, d, e, f, g, h] =
    some { tag := beNat [a, b, c, d]
           hours := if 9999999 < beNat [e, f, g, h] then none else some (beNat [e, f, g, h]) }) ∧
  (∀ bs : List Byte, bs.length ≠ 4 → bs.length ≠ 8 → parseTag bs = none) ∧
  (∀ a1 a0 b1 b0 c1 c0 ys yd ts td : Byte, parsePodSet [a1, a0, b1, b0, c1, c0, ys, yd, ts, td] =
    some { censusPeriod := beNat [a1, a0], watchDelay := beNat [b1, b0], deliveryWindow := beNat [c1, c0],
           yardS := ys.toNat, yardD := yd.toNat, trunkS := ts.toNat, trunkD := td.toNat }) ∧
  (∀ bay en tk f3 f2 f1 f0 m1 m0 s1 s0 c1 c0 a1 a0 n1 n0 g1 g0 k1 k0 d1 d0 r1 r0 : Byte,
    parseBaySet [bay, en, tk, f3, f2, f1, f0, m1, m0, s1, s0, c1, c0, a1, a0, n1, n0, g1, g0, k1, k0, d1, d0, r1, r0] =
      some { bay := bay.toNat, enabled := en.toNat, tank := tk.toNat, meterFactor := beNat [f3, f2, f1, f0],
             maxFlow := beNat [m1, m0], slowBand := beNat [s1, s0], closeLead := beNat [c1, c0],
             armTime := beNat [a1, a0], noFlowTime := beNat [n1, n0], gapTime := beNat [g1, g0],
             closeTime := beNat [k1, k0], drainTime := beNat [d1, d0], afterRunLimit := beNat [r1, r0] }) ∧
  (∀ tk c3 c2 c1 c0 e1 e0 r3 r2 r1 r0 v3 v2 v1 v0 rp pc t1 t0 he w1 w0 p1 p0 s1 s0 : Byte,
    parseTankSet [tk, c3, c2, c1, c0, e1, e0, r3, r2, r1, r0, v3, v2, v1, v0, rp, pc, t1, t0, he, w1, w0, p1, p0, s1, s0] =
      some { tank := tk.toNat, capacity := beNat [c3, c2, c1, c0], expansion := beNat [e1, e0],
             rationLevel := beNat [r3, r2, r1, r0], reserveLevel := beNat [v3, v2, v1, v0],
             reservePriority := rp.toNat, rationPercent := pc.toNat, tolerance := beNat [t1, t0],
             holdEnable := he.toNat, waterLimit := beNat [w1, w0], probeAddress := beNat [p1, p0],
             settleTime := beNat [s1, s0] }) ∧
  (∀ (tk i fin n : Byte) (ps : List (Byte × Byte × Byte × Byte × Byte × Byte)), n.toNat = ps.length →
    parseStrapSet ([tk, i, fin, n] ++ ps.flatMap (fun p => [p.1, p.2.1, p.2.2.1, p.2.2.2.1, p.2.2.2.2.1, p.2.2.2.2.2])) =
      some { tank := tk.toNat, first := i.toNat, final := fin.toNat
             points := ps.map (fun p =>
               { level := beNat [p.1, p.2.1], litres := beNat [p.2.2.1, p.2.2.2.1, p.2.2.2.2.1, p.2.2.2.2.2] }) }) ∧
  (∀ (t3 t2 t1 t0 u1 u0 cls prio st c1 c0 perm a1 a0 keep n : Byte)
      (cs : List ((Byte × Byte) × (Byte × Byte × Byte × Byte) × (Byte × Byte × Byte × Byte))) (rest : List Byte),
    let head : List Byte := [t3, t2, t1, t0, u1, u0, cls, prio, st, c1, c0, perm, a1, a0, keep, n]
    let quad := fun q : Byte × Byte × Byte × Byte => [q.1, q.2.1, q.2.2.1, q.2.2.2]
    (n.toNat = cs.length →
      parseFleetPut (head ++ cs.flatMap (fun c => [c.1.1, c.1.2] ++ quad c.2.1 ++ quad c.2.2)) = some
        { tag := beNat [t3, t2, t1, t0], unit := beNat [u1, u0], cls := cls.toNat, priority := prio.toNat
          status := st.toNat, fillCeiling := beNat [c1, c0], permitted := perm.toNat, allowance := beNat [a1, a0]
          keep := keep.toNat
          counters := cs.map (fun c => { code := c.1.1.toNat, basis := c.1.2.toNat, interval := beNat (quad c.2.1)
                                         grace := beNat (quad c.2.2) }) }) ∧
    (rest.length ≠ 10 * n.toNat → parseFleetPut (head ++ rest) = none)) ∧
  (∀ bs : List Byte, bs.length < 16 → parseFleetPut bs = none)

/-- R101, R102, R107, R92: a tally is metered by the state it is taken in, and its net increment is debited from the book of
the bay's tank in every state. R13: the temperature sums; R4: the held temperature; R104: the flags (SATURATED on reaching
the bound, log 11); R10: the flow estimate. R92, R93: outside an issue, the fault a tally leads to and its events, each
rule by the state the tally was taken in (log 15). R134: in an active bay a change of standing is logged before what the
Sequencer logs, which is SERVICE and BAY FAULT events at most, and only where the tally completes the issue. A tally that completes
none leaves the vehicles, the Probe Bus Controller, the yard transmit queue and the issue ring. The frame: no other bay, no other
tank and no setting changes. -/
def Obligations.TallyIsMeteredAndDebited : Prop :=
  ∀ (s : State) (b : BayId) (tl : Tally), TallyAt s b tl → AccumulatorLaw s →
    let y := s.bay b
    let k := s.tank y.settings.tank
    let g := tl.pulses * y.settings.meterFactor
    let x := tempUsed y k.lastGoodTemp tl
    let n := (convRound ((g : Int) * (10000000 - k.settings.expansion * (x - 150))) 10000000).toNat
    let rise := min (y.gross + g) 1099511627775 - y.gross
    let sample := (convRound (g : Int) tl.interval).toNat
    let sum := y.unassigned + n
    let standing := formStanding k.settings (clampBook (k.book - n))
    let faulted : Prop := (y.state = .idle ∨ y.state = .draining) ∧ (2000000 < sum ∨ tl.status = .faulty)
    let completes : Prop := (y.state = .granted ∧ tl.status = .faulty) ∨
      (y.state = .closing ∧ tl.pulses = 0 ∧ y.shutSeen = true)
    ∃ t : State, exec .tally s = .next t.settled ∧
      (t.bay b).gross = (if y.state.active then min (y.gross + g) 1099511627775 else y.gross) ∧
      (t.bay b).net = (if y.state.active then min (y.net + n) 1099511627775 else y.net) ∧
      (t.bay b).tallyCount = (if y.state.active then min (y.tallyCount + 1) 65535 else y.tallyCount) ∧
      (y.state = .closing → (t.bay b).closing = min (y.closing + n) 1099511627775) ∧
      (y.state.active = true → (t.bay b).unassigned = y.unassigned ∧ (t.bay b).sumTG = y.sumTG + x * rise ∧
        (t.bay b).sumG = y.sumG + rise ∧ (t.bay b).heldTemp = (if tl.temp = none then y.heldTemp else some x) ∧
        ((t.bay b).flags.uncompensated = true ↔
          y.flags.uncompensated = true ∨ (tl.temp = none ∧ y.heldTemp = none ∧ k.lastGoodTemp = none)) ∧
        ((t.bay b).flags.tempClamped = true ↔
          y.flags.tempClamped = true ∨ ∃ c, tl.temp = some c ∧ (c < -300 ∨ 900 < c)) ∧
        ((t.bay b).flags.saturated = true ↔
          y.flags.saturated = true ∨ 1099511627775 ≤ y.gross + g ∨ 1099511627775 ≤ y.net + n)) ∧
      (y.state = .flowing ∨ y.state = .trimming →
        (tl.interval = 0 → (t.bay b).flow = y.flow ∧ (t.bay b).seeded = y.seeded) ∧
        (tl.interval ≠ 0 → y.seeded = true →
          (t.bay b).flow = (convRound (3 * y.flow + sample : Nat) 4).toNat ∧ (t.bay b).seeded = true) ∧
        (tl.interval ≠ 0 → y.seeded = false → 0 < tl.pulses → (t.bay b).flow = sample ∧ (t.bay b).seeded = true) ∧
        (tl.interval ≠ 0 → y.seeded = false → tl.pulses = 0 → (t.bay b).flow = y.flow ∧ (t.bay b).seeded = false)) ∧
      (y.state ≠ .flowing → y.state ≠ .trimming → ¬(y.state = .granted ∧ tl.status = .ok ∧ tl.nozzle = .lifted) →
        (t.bay b).flow = y.flow ∧ (t.bay b).seeded = y.seeded) ∧
      (y.state.active = false →
        (t.bay b).unassigned = (if 2000000 < sum then 0 else sum) ∧
        (faulted → t.bay b = { y with
          unassigned := if 2000000 < sum then 0 else sum
          state := .faulted, slot := { order := .shut, pending := true }
          armTimer := none, noFlowTimer := none, gapTimer := none, closeTimer := none, drainTimer := none }) ∧
        (¬faulted → t.bay b = { y with unassigned := if 2000000 < sum then 0 else sum }) ∧
        t.journal = s.journalAfter (
          (if n ≠ 0 ∧ standing ≠ k.standing then [.stockStanding y.settings.tank standing] else []) ++
          (if 2000000 < sum then [.unaccountedFlow b (convRound sum 10000).toNat] else []) ++
          (if (y.state = .idle ∨ y.state = .draining) ∧ tl.status = .faulty then [.bayFault b .meterFault] else []))) ∧
      (y.state.active = true → ∃ ks : List EventKind,
        let all := (if n ≠ 0 ∧ standing ≠ k.standing then [.stockStanding y.settings.tank standing] else []) ++ ks
        t.journal.events = (s.journalAfter all).events ∧ t.journal.overwrites = (s.journalAfter all).overwrites ∧
        (¬completes → ks = []) ∧
        ∀ e ∈ ks, (∃ c st, e = .service y.serving.tag c st) ∨ ∃ q, e = .bayFault b q) ∧
      t.tank y.settings.tank =
        (if n = 0 then k
         else { k with book := clampBook (k.book - n), standing := formStanding k.settings (clampBook (k.book - n)) }) ∧
      t.tank (otherTank y.settings.tank) = s.tank (otherTank y.settings.tank) ∧
      (∀ c, c ≠ b → t.bay c = s.bay c) ∧ (t.bay b).settings = y.settings ∧ (t.bay b).reported = y.reported ∧
      (¬completes → t.fleet = s.fleet ∧ t.probe = s.probe ∧ t.yard.tx = s.yard.tx ∧
        t.journal.issues = s.journal.issues ∧ t.journal.reservations = s.journal.reservations) ∧
      t = { s with
        bays := t.bays, tanks := t.tanks, fleet := t.fleet, journal := t.journal
        probe := { s.probe with tanks := t.probe.tanks }
        yard := { s.yard with rx := s.yard.rx.tail, tx := t.yard.tx } }

/-- R79, R80: a tally in GRANTED: FAULT completes the issue with METER FAULT (R49, R85, R86: the whole of the completion, after
a change of the tank's standing), and R87 faults the bay with its BAY FAULT event; LIFTED enters FLOWING; STOWED stays. `y` is
the bay with the tally added to the issue. -/
def Obligations.TallyInGrantedStartsOrEndsTheIssue : Prop :=
  ∀ (s : State) (b : BayId) (tl : Tally), TallyAt s b tl → (s.bay b).state = .granted →
    let m := meter (s.bay b) (s.tank (s.bay b).settings.tank) tl
    let y := (s.bay b).addTally m tl.pulses
    let k := s.tank (s.bay b).settings.tank
    let standing := formStanding k.settings (clampBook (k.book - m.net))
    let before : List EventKind :=
      if m.net ≠ 0 ∧ standing ≠ k.standing then [.stockStanding (s.bay b).settings.tank standing] else []
    ∃ t : State, exec .tally s = .next t.settled ∧
      (tl.status = .faulty → IssueCompleted before s t b { y with flags := { y.flags with meter := true } } .meterFault) ∧
      (tl.status = .ok → t = { s with
        bays := t.bays, tanks := t.tanks, journal := t.journal, yard := { s.yard with rx := s.yard.rx.tail } }) ∧
      (tl.status = .faulty → (t.bay b).state = .faulted ∧ (t.bay b).flags.meter = true ∧
        (t.bay b).cause = some .meterFault ∧ (t.bay b).slot = { order := .shut, pending := true } ∧
        t.newestEvent (.bayFault b (if (s.bay b).flags.overspeed then .overspeed else .meterFault)) ∧
        ∃ r, t.journal.issues.records = s.journal.issues.records ++ [r] ∧ r.cause = .meterFault ∧ r.bay = b) ∧
      (tl.status = .ok → tl.nozzle = .lifted → (t.bay b).state = .flowing ∧
        (t.bay b).slot = { order := .full, pending := true } ∧ (t.bay b).armTimer = none ∧
        (t.bay b).noFlowTimer = some ((s.bay b).settings.noFlowTime * 1000) ∧
        (t.bay b).gapTimer = some ((s.bay b).settings.gapTime * 1000) ∧ (t.bay b).flow = 0 ∧
        (t.bay b).seeded = false ∧ t.journal.issues = s.journal.issues) ∧
      (tl.status = .ok → tl.nozzle = .stowed → (t.bay b).state = .granted ∧
        (t.bay b).armTimer = (s.bay b).armTimer ∧ (t.bay b).slot = (s.bay b).slot ∧
        t.journal.issues = s.journal.issues)

/-- R81: a tally in FLOWING or TRIMMING: the five tests in order, the first that holds decides. `y` is the bay with the
tally added to the issue. No issue completes, so vehicles, the Probe Bus Controller and the yard transmit queue stay. -/
def Obligations.TallyInFlowTakesTheFiveTests : Prop :=
  ∀ (s : State) (b : BayId) (tl : Tally), TallyAt s b tl →
    ((s.bay b).state = .flowing ∨ (s.bay b).state = .trimming) →
    let m := meter (s.bay b) (s.tank (s.bay b).settings.tank) tl
    let y := (s.bay b).addTally m tl.pulses
    let fast := tl.interval ≠ 0 ∧
      y.settings.maxFlow < (convRound (tl.pulses * (s.bay b).settings.meterFactor : Nat) tl.interval).toNat
    let rem : Int := (y.serving.limit : Int) * 1000000 - y.net
    ∃ t : State, exec .tally s = .next t.settled ∧ t.journal.issues = s.journal.issues ∧
      t = { s with
        bays := t.bays, tanks := t.tanks, journal := t.journal, yard := { s.yard with rx := s.yard.rx.tail } } ∧
      (tl.status = .faulty → t.bay b = { y with flags := { y.flags with meter := true } }.toClosing .meterFault) ∧
      (tl.status = .ok → fast →
        t.bay b = { y with flags := { y.flags with overspeed := true } }.toClosing .overspeed) ∧
      (tl.status = .ok → ¬fast → rem ≤ y.flow * y.settings.closeLead → t.bay b = y.toClosing .limit) ∧
      (tl.status = .ok → ¬fast → (y.flow * y.settings.closeLead : Int) < rem →
        y.state = .flowing → 0 < y.settings.slowBand → rem ≤ y.settings.slowBand * 1000000 →
          (t.bay b).state = .trimming ∧ (t.bay b).slot = { order := .slow, pending := true } ∧
          (t.bay b).gapTimer = some (y.settings.gapTime * 1000) ∧
          (t.bay b).noFlowTimer = if 0 < tl.pulses then some (y.settings.noFlowTime * 1000) else y.noFlowTimer) ∧
      (tl.status = .ok → ¬fast → (y.flow * y.settings.closeLead : Int) < rem →
        (y.state = .trimming ∨ y.settings.slowBand = 0 ∨ (y.settings.slowBand * 1000000 : Int) < rem) →
          (tl.nozzle = .stowed → t.bay b = y.toClosing .nozzle) ∧
          (tl.nozzle = .lifted → t.bay b =
            { y with
              gapTimer := some (y.settings.gapTime * 1000)
              noFlowTimer := if 0 < tl.pulses then some (y.settings.noFlowTime * 1000) else y.noFlowTimer }))

/-- R84: a tally in CLOSING completes the issue with the recorded cause when it has no pulses and the shut-seen mark is set;
otherwise the bay stays. FAULT sets METER, in either case (log 32). R96: a sample above max flow sets OVERSPEED where the tally
met the event that closed the bay, that is, with no time passed since (log 31); at any later tally it is not read (R106). R49,
R85, R86, R87, R123: the whole of the completion. `y` is the bay with the tally added to the issue. -/
def Obligations.TallyInClosingCompletesAfterShut : Prop :=
  ∀ (s : State) (b : BayId) (tl : Tally) (c : CloseCause), TallyAt s b tl → (s.bay b).state = .closing →
    (s.bay b).cause = some c →
    let m := meter (s.bay b) (s.tank (s.bay b).settings.tank) tl
    let y := (s.bay b).addTally m tl.pulses
    let fast := tl.interval ≠ 0 ∧
      y.settings.maxFlow < (convRound (tl.pulses * (s.bay b).settings.meterFactor : Nat) tl.interval).toNat
    ∃ t : State, exec .tally s = .next t.settled ∧
      (t.bay b).flags.meter = ((s.bay b).flags.meter || tl.status == .faulty) ∧
      ((t.bay b).flags.overspeed = true ↔ (s.bay b).flags.overspeed = true ∨
        (tl.status = .ok ∧ (s.bay b).closeTimer = some ((s.bay b).settings.closeTime * 1000) ∧ fast)) ∧
      (c ≠ .interrupted → tl.pulses = 0 → (s.bay b).shutSeen = true →
        IssueCompleted [] s t b
          { y with flags := { y.flags with meter := (s.bay b).flags.meter || tl.status == .faulty } } c) ∧
      ((0 < tl.pulses ∨ (s.bay b).shutSeen = false) →
        t = { s with
          bays := t.bays, tanks := t.tanks, journal := t.journal, yard := { s.yard with rx := s.yard.rx.tail } } ∧
        t.bay b = { y with flags := { y.flags with
          meter := (s.bay b).flags.meter || tl.status == .faulty, overspeed := (t.bay b).flags.overspeed } }) ∧
      (tl.pulses = 0 → (s.bay b).shutSeen = true →
        (t.bay b).state.active = false ∧ t.journal.reservations = s.journal.reservations - 1 ∧
        (∃ r, t.journal.issues.records = s.journal.issues.records ++ [r] ∧ r.cause = c ∧ r.bay = b ∧
          r.netCl = clOf (t.bay b).net ∧ r.grossCl = clOf (t.bay b).gross ∧
          r.overspeed = (s.bay b).flags.overspeed) ∧
        (c ≠ .interrupted → (t.bay b).flags.fault = none → (t.bay b).slot = (s.bay b).slot ∧
          ((s.bay b).settings.drainTime = 0 → (t.bay b).state = .idle ∧ (t.bay b).drainTimer = none) ∧
          ((s.bay b).settings.drainTime ≠ 0 → (t.bay b).state = .draining ∧
            (t.bay b).drainTimer = some ((s.bay b).settings.drainTime * 1000))) ∧
        (∀ q, c ≠ .interrupted → (t.bay b).flags.fault = some q → (t.bay b).state = .faulted ∧
          (t.bay b).slot = { order := .shut, pending := true } ∧ t.newestEvent (.bayFault b q))) ∧
      ((0 < tl.pulses ∨ (s.bay b).shutSeen = false) →
        (t.bay b).state = .closing ∧ (t.bay b).cause = some c ∧ t.journal.issues = s.journal.issues)

/-- R110: every report is written as the reported valve; then the Sequencer acts by the bay's state. R49, R80, R85 to R87: a FAULT
in GRANTED completes the issue. -/
def Obligations.ValveReportIsWrittenAndActedOn : Prop :=
  ∀ (s : State) (b : BayId) (r : ReportedValve), ValveReportAt s b r →
    let y : Bay := { s.bay b with reported := some r }
    let faulty : Bay := { y with flags := { y.flags with valve := true } }
    ∃ t : State, exec .valveStatus s = .next t.settled ∧ (t.bay b).reported = some r ∧ (∀ c, c ≠ b → t.bay c = s.bay c) ∧
      t = { s with
        bays := t.bays, fleet := t.fleet, journal := t.journal, probe := { s.probe with tanks := t.probe.tanks }
        yard := { s.yard with rx := s.yard.rx.tail, tx := t.yard.tx } } ∧
      ((s.bay b).state ≠ .granted → t.fleet = s.fleet ∧ t.probe = s.probe ∧ t.yard.tx = s.yard.tx) ∧
      ((s.bay b).state = .granted → r.health = .faulty → (t.bay b).state = .faulted ∧
        (t.bay b).cause = some .valve ∧ (t.bay b).slot = { order := .shut, pending := true } ∧
        (t.bay b).flags.valve = true ∧ (∃ q, (t.bay b).flags.fault = some q ∧ t.newestEvent (.bayFault b q)) ∧
        (∃ i, t.journal.issues.records = s.journal.issues.records ++ [i] ∧ i.cause = .valve ∧ i.valve = true) ∧
        IssueCompleted [] s t b faulty .valve) ∧
      ((s.bay b).state.valveOpen = true → r.health = .faulty → t.bay b = faulty.toClosing .valve) ∧
      ((s.bay b).state = .closing →
        t.bay b = { (if r.health = .faulty then faulty else y) with shutSeen := decide (r.position = .shut) }) ∧
      (((s.bay b).state = .idle ∨ (s.bay b).state = .draining) → r.health = .faulty →
        t.bay b = y.toFaulted ∧ t.journal = s.journal.logEvent s.stamp (.bayFault b .valve)) ∧
      (((s.bay b).state = .faulted ∨ (s.bay b).state = .disabled) → t.bay b = y ∧ t.journal = s.journal) ∧
      ((s.bay b).state ≠ .closing → r.health = .ok → t.bay b = y ∧ t.journal = s.journal)

/-! ## Authorising an issue -/

/-- R59 checks 1 to 6, R68, R69, R73, R163: a WATCH pod is woken first; the first check that fails decides the refusal; its
notice is queued, or when the queue is full a waking one sets RUN mode at once; its event is logged unless it is coalesced; no hours are applied and nothing else changes. -/
def Obligations.EarlyChecksRefuseInOrder : Prop :=
  (∀ (s : State) (b : BayId) (r : TagRead), TagAt s b r →
    let u := if s.pod = .watch then s.popYard.changePod .inService else s.popYard
    let refusedWith := fun c => exec .tag s = .next (u.refuseTag b r.tag c (s.pod == .watch)).settled
    ((s.pod = .blank ∨ s.pod = .suspended) → refusedWith .podClosed) ∧
    ((s.pod = .inService ∨ s.pod = .watch) →
      ((s.bay b).state = .draining → refusedWith .bayDraining) ∧
      ((s.bay b).state = .disabled → refusedWith .bayDisabled) ∧
      ((s.bay b).state = .flowing ∨ (s.bay b).state = .trimming ∨ (s.bay b).state = .closing ∨
        (s.bay b).state = .faulted → refusedWith .bayBusy) ∧
      ((s.bay b).state = .granted → (s.bay b).grantTag ≠ some r.tag → refusedWith .bayBusy) ∧
      ((s.bay b).state = .idle →
        (findTag r.tag s.fleet = none → refusedWith .unknownTag) ∧
        (∀ v, findTag r.tag s.fleet = some v →
          (v.status = .barred → refusedWith .barred) ∧
          (v.status = .active → v.armedAt ≠ none → refusedWith .inUse) ∧
          (v.status = .active → v.armedAt = none → (∃ p, v.permitted = some p ∧ p.get b = false) →
            refusedWith .bayNotPermitted))))) ∧
  (∀ (u : State) (b : BayId) (tag : Nat) (c : RefusalCode) (wake : Bool),
    let t := u.refuseTag b tag c wake
    (u.yard.tx.length < 8 → t.yard = { u.yard with tx := u.yard.tx ++
        [{ frame := { dst := BitVec.ofNat 8 (239 + bayNumber b), src := u.station, kind := 0x1A,
                      body := .refusalNotice tag c }, wake := wake }] } ∧
      t.yardMode = u.yardMode ∧ t.yardTarget = u.yardTarget) ∧
    (8 ≤ u.yard.tx.length → t.yard.tx = u.yard.tx ∧
      (wake = false → t.yard = u.yard ∧ t.yardMode = u.yardMode ∧ t.yardTarget = u.yardTarget) ∧
      (wake = true → t.yardTarget = .run ∧ t.yardMode = .run ∧ t.yard = { u.yard with rate := t.yard.rate })) ∧
    ((∃ e, u.journal.events.records.getLast? = some e ∧ e.kind = .refusal b tag c ∧ e.time.time ≤ u.clock ∧
        u.clock - e.time.time < 60) → t.journal = u.journal) ∧
    ((∀ e, u.journal.events.records.getLast? = some e → e.kind = .refusal b tag c → e.time.time ≤ u.clock →
        60 ≤ u.clock - e.time.time) → t.journal = u.journal.logEvent u.stamp (.refusal b tag c)) ∧
    t = { u with yard := t.yard, yardMode := t.yardMode, yardTarget := t.yardTarget, journal := t.journal })

/-- R59, R63, R66, R67, R73, R78: a frame without hours that passes every check while the fill ceiling is the least
candidate ends in a grant: the copy's fields, the ceiling as the limit, the reservation, the arming, the notice and the
issue's fresh start. R87: the grant clears the flow estimate, its seeded mark with it (log 14). -/
def Obligations.FrameThatPassesEveryCheckIsGranted : Prop :=
  ∀ (s : State) (b : BayId) (v : Vehicle) (tag : Nat), TagAt s b { tag := tag, hours := none } →
    (s.pod = .inService ∨ s.pod = .watch) →
    (s.bay b).state = .idle → findTag tag s.fleet = some v → v.status = .active → v.armedAt = none →
    v.permitted = none → (v.standing = .clear ∨ v.standing = .due) →
    let k := s.tank (s.bay b).settings.tank
    let u := if s.pod = .watch then s.popYard.changePod .inService else s.popYard
    k.delivery = none → k.varianceHold = false → k.waterHold = false → (k.standing = .normal ∨ k.standing = .reserve) →
    (k.standing = .reserve → k.settings.reservePriority ≤ v.priority) →
    s.journal.issues.records.length + s.journal.reservations < s.journal.issueSpan → 5 ≤ v.fillCeiling →
    v.allowance = none → (v.fillCeiling : Int) * 1000000 ≤ k.book →
    ∃ t : State, exec .tag s = .next t.settled ∧
      t.bay b = { s.bay b with
        state := .granted
        grant := some
          { tag := v.tag, unit := v.unit, limit := v.fillCeiling, reason := .fillCeiling, limp := false
            notice := if v.standing = .due then .due else .noNotice
            hours := none, tank := (s.bay b).settings.tank, start := { time := s.clock, unset := !s.clockSet } }
        gross := 0, net := 0, closing := 0, sumTG := 0, sumG := 0, heldTemp := none, flow := 0, seeded := false
        tallyCount := 0, flags := IssueFlags.clear, cause := none, shutSeen := false
        armTimer := some ((s.bay b).settings.armTime * 1000)
        noFlowTimer := none, gapTimer := none, closeTimer := none, drainTimer := none } ∧
      (∀ c, c ≠ b → t.bay c = s.bay c) ∧
      t.journal = { u.journal with reservations := s.journal.reservations + 1 } ∧
      t.fleet = setVehicle { v with armedAt := some b } s.fleet ∧
      (s.yard.tx.length < 8 → t.yard = { u.yard with tx := s.yard.tx ++
        [{ frame := { dst := BitVec.ofNat 8 (239 + bayNumber b), src := s.station, kind := 0x19
                      body := .grantNotice v.tag v.fillCeiling .fillCeiling
                        (if v.standing = .due then .due else .noNotice) }
           wake := s.pod == .watch }] } ∧
        t = { u with bays := t.bays, fleet := t.fleet, journal := t.journal, yard := t.yard }) ∧
      (8 ≤ s.yard.tx.length → t.yard = { u.yard with rate := t.yard.rate } ∧
        t = { u with
          bays := t.bays, fleet := t.fleet, journal := t.journal, yard := t.yard
          yardMode := if s.pod = .watch then .run else s.yardMode
          yardTarget := if s.pod = .watch then .run else s.yardTarget })

/-- R59, R61 to R65, R51: a grant is made only in service, at an IDLE bay that the vehicle may use, to a vehicle that is
neither BARRED nor LOCKED nor armed, at a tank that is not RECEIVING, held or EMPTY, nor in RESERVE for a lower priority,
with journal room; every limit is at least 5 L and at most the ceiling (rationed where it is), the remaining allowance,
the book's whole litres and, when OVERDUE, the limp allotment. -/
def Obligations.EveryGrantIsAllowedAndBounded : Prop :=
  ∀ (s t : State) (b : BayId), TankLaw s → exec .tag s = .next t → (s.bay b).state ≠ .granted →
    (t.bay b).state = .granted →
    (s.pod = .inService ∨ s.pod = .watch) ∧ (s.bay b).state = .idle ∧
    s.journal.issues.records.length + s.journal.reservations < s.journal.issueSpan ∧
    ∃ g v w, (t.bay b).grant = some g ∧ v ∈ s.fleet ∧ w ∈ t.fleet ∧ v.tag = g.tag ∧ w.tag = g.tag ∧
      v.status = .active ∧ v.armedAt = none ∧ (∀ p, v.permitted = some p → p.get b = true) ∧ w.armedAt = some b ∧
      w.standing ≠ .locked ∧
      (g.limp = true ↔ w.standing = .overdue) ∧ g.tank = (s.bay b).settings.tank ∧
      (s.tank g.tank).receiving = false ∧ (s.tank g.tank).varianceHold = false ∧
      (s.tank g.tank).waterHold = false ∧ (s.tank g.tank).standing ≠ .empty ∧
      ((s.tank g.tank).standing = .reserve → (s.tank g.tank).settings.reservePriority ≤ v.priority) ∧
      5 ≤ g.limit ∧ g.limit ≤ v.fillCeiling ∧
      ((s.tank g.tank).standing = .ration → v.priority < 3 →
        g.limit ≤ v.fillCeiling * (s.tank g.tank).settings.rationPercent / 100) ∧
      (∀ a, v.allowance = some a → g.limit ≤ a.litres - a.usedCl / 100) ∧
      (g.limit : Int) * 1000000 ≤ (s.tank g.tank).book ∧
      (w.standing = .overdue → g.limit ≤ s.classes[v.cls].limpAllotment)

/-- R59 checks 7 to 10, R51, R53, R61 to R68: a frame that passes checks 1 to 6 has its hours applied, which leaves the
record `w` and logs `ks`; then the first check that fails decides the refusal, and with none the grant has as its limit
the least candidate, the first of those that tie, with its reason: the ceiling (rationed at a tank in RATION for a
priority below 3), the remaining allowance, the limp allotment when OVERDUE, the book's whole litres. -/
def Obligations.TagLateChecksRefuseInOrderElseGrant : Prop :=
  ∀ (s : State) (b : BayId) (r : TagRead) (v : Vehicle), TagAt s b r → (s.pod = .inService ∨ s.pod = .watch) →
    (s.bay b).state = .idle → findTag r.tag s.fleet = some v → v.status = .active → v.armedAt = none →
    (∀ p, v.permitted = some p → p.get b = true) →
    let u := if s.pod = .watch then s.popYard.changePod .inService else s.popYard
    let k := s.tank (s.bay b).settings.tank
    ∃ (w : Vehicle) (ks : List EventKind),
      w = { v with counters := w.counters, limpUsed := w.limpUsed, lastHours := w.lastHours } ∧
      (r.hours = none → w = v ∧ ks = []) ∧
      let h : State := { u with fleet := setVehicle w s.fleet, journal := u.journalAfter ks }
      let refusedWith := fun c => exec .tag s = .next (h.refuseTag b r.tag c (s.pod == .watch)).settled
      (w.standing = .locked → refusedWith .serviceLock) ∧
      (w.standing ≠ .locked → k.delivery ≠ none → refusedWith .tankReceiving) ∧
      (w.standing ≠ .locked → k.delivery = none → (k.varianceHold = true ∨ k.waterHold = true) → refusedWith .tankHold) ∧
      (w.standing ≠ .locked → k.delivery = none → k.varianceHold = false → k.waterHold = false →
        (k.standing = .empty → refusedWith .tankEmpty) ∧
        (k.standing = .reserve → v.priority < k.settings.reservePriority → refusedWith .reserveOnly) ∧
        (k.standing ≠ .empty → (k.standing = .reserve → k.settings.reservePriority ≤ v.priority) →
          (s.journal.issueSpan ≤ s.journal.issues.records.length + s.journal.reservations → refusedWith .journalFull) ∧
          (s.journal.issues.records.length + s.journal.reservations < s.journal.issueSpan →
            let candidates : List (LimitReason × Nat) :=
              [if k.standing = .ration ∧ v.priority < 3 then (.ration, v.fillCeiling * k.settings.rationPercent / 100)
                else (.fillCeiling, v.fillCeiling)] ++
              (match v.allowance with | none => [] | some a => [(.allowance, a.litres - a.usedCl / 100)]) ++
              (if w.standing = .overdue then [(.limp, s.classes[v.cls].limpAllotment)] else []) ++
              [(.stock, if k.book ≤ 0 then 0 else (k.book / 1000000).toNat)]
            ∃ reason limit,
              candidates.find? (fun c => candidates.all (fun d => decide (c.2 ≤ d.2))) = some (reason, limit) ∧
              (limit < 5 → refusedWith (.limitTooLow reason)) ∧
              (5 ≤ limit →
                let notice : ServiceNotice :=
                  match w.standing with | .due => .due | .overdue => .limp | _ => .noNotice
                ∃ t : State, exec .tag s = .next t.settled ∧
                  t.bay b = { s.bay b with
                    state := .granted
                    grant := some
                      { tag := v.tag, unit := v.unit, limit := limit, reason := reason
                        limp := decide (w.standing = .overdue), notice := notice, hours := r.hours
                        tank := (s.bay b).settings.tank, start := { time := s.clock, unset := !s.clockSet } }
                    gross := 0, net := 0, closing := 0, sumTG := 0, sumG := 0, heldTemp := none, flow := 0
                    seeded := false, tallyCount := 0, flags := IssueFlags.clear, cause := none, shutSeen := false
                    armTimer := some ((s.bay b).settings.armTime * 1000)
                    noFlowTimer := none, gapTimer := none, closeTimer := none, drainTimer := none } ∧
                  (∀ c, c ≠ b → t.bay c = s.bay c) ∧
                  t.journal = { h.journal with reservations := s.journal.reservations + 1 } ∧
                  t.fleet = setVehicle { w with armedAt := some b } s.fleet ∧
                  t.yard.tx = (if s.yard.tx.length < 8 then s.yard.tx ++
                    [{ frame := { dst := BitVec.ofNat 8 (239 + bayNumber b), src := s.station, kind := 0x19
                                  body := .grantNotice v.tag limit reason notice }
                       wake := s.pod == .watch }]
                    else s.yard.tx) ∧
                  let missed := s.pod = .watch ∧ 8 ≤ s.yard.tx.length
                  t = { h with
                    bays := t.bays, fleet := t.fleet, journal := t.journal
                    yard := { h.yard with tx := t.yard.tx, rate := t.yard.rate }
                    yardMode := if missed then .run else s.yardMode
                    yardTarget := if missed then .run else s.yardTarget }))))

/-- R39 to R46, R60: a frame that passes checks 1 to 6 applies its hours, whatever its outcome: the reading, the HOURS
counters, the HOURS REBASED or HOURS JUMP event, then the SERVICE events of the counters whose standing rises, in list
order, and limp used cleared when an overdue episode begins; `ref` is the refusal's event, if one is logged. A frame that
repeats a grant applies none and only queues the notice again. Last, the tables of the standings (R39, R41). -/
def Obligations.HoursAreAppliedOnceADecisionReachesService : Prop :=
  (∀ (s : State) (b : BayId) (v : Vehicle) (h : Nat), TagAt s b { tag := v.tag, hours := some h } → RecordsLaw s →
    (s.pod = .inService ∨ s.pod = .watch) → (s.bay b).state = .idle → findTag v.tag s.fleet = some v → v.status = .active →
    v.armedAt = none → (∀ p, v.permitted = some p → p.get b = true) →
    let ceiling := s.classes[v.cls].hourCeiling
    let applied : Nat := match v.lastHours with | none => 0 | some old => if h < old then 0 else min (h - old) ceiling
    let note : List EventKind := match v.lastHours with
      | none => []
      | some old =>
        if h < old then [.hoursRebased v.tag old h] else if ceiling < h - old then [.hoursJump v.tag ceiling] else []
    ∃ t w ref, exec .tag s = .next t ∧ findTag v.tag t.fleet = some w ∧ w.lastHours = some h ∧
      w.counters = v.counters.map (fun c =>
        if c.basis = .hours then { c with remaining := max (c.remaining - applied) (-99999999) } else c) ∧
      (v.episodeBegins .hours applied → w.limpUsed = false) ∧
      (¬v.episodeBegins .hours applied → w.limpUsed = v.limpUsed) ∧
      t.journal.events = (s.journalAfter ((if s.pod = .watch then [.podState .watch .inService] else []) ++ note ++
        v.rises .hours applied ++ ref)).events ∧
      ref.length ≤ 1 ∧ (∀ k ∈ ref, ∃ c, k = .refusal b v.tag c) ∧
      w.allowance = v.allowance ∧ w.lastIssue = v.lastIssue ∧
      ∀ u ∈ s.fleet, u.tag ≠ v.tag → u ∈ t.fleet) ∧
  (∀ (s : State) (b : BayId) (r : TagRead) (g : GrantCopy), TagAt s b r → s.pod = .inService →
    (s.bay b).state = .granted → (s.bay b).grant = some g → g.tag = r.tag →
    exec .tag s =
      .next (if s.yard.tx.length < 8 then
          s.popYard.pushYardTx
            { frame := { dst := BitVec.ofNat 8 (239 + bayNumber b), src := s.station, kind := 0x19
                         body := .grantNotice g.tag g.limit g.reason g.notice }, wake := false }
         else s.popYard).settled) ∧
  (∀ c : Counter,
    (0 < c.remaining → c.standing = .clear) ∧
    (c.remaining ≤ 0 → -(c.grace : Int) < c.remaining → c.standing = .due) ∧
    (c.remaining ≤ -(c.grace : Int) → c.standing = .overdue)) ∧
  (∀ v : Vehicle,
    ((∀ c ∈ v.counters, c.standing = .clear) → v.standing = .clear) ∧
    ((∃ c ∈ v.counters, c.standing = .due) → (∀ c ∈ v.counters, c.standing ≠ .overdue) → v.standing = .due) ∧
    ((∃ c ∈ v.counters, c.standing = .overdue) → v.standing = if v.limpUsed then .locked else .overdue))

/-! ## Bay Sequencers -/

/-- R40, R42, R49, R52, R80, R85, R86, R87, R123, R153: an arm timer's expiry completes the issue: its record, the
reservation, the charge to the vehicle with its SERVICE events and its limp used, the totalizers, the settle timer and the
bay's next state. The bay carries no fault flag, and any of the others (R104). -/
def Obligations.ArmTimeoutCompletesTheIssue : Prop :=
  ∀ (s : State) (b : BayId) (g : GrantCopy), s.powered = true → (s.bay b).state = .granted →
    (s.bay b).armTimer = some 0 → (s.bay b).grant = some g →
    (s.bay b).flags.fault = none → (s.bay b).closing ≤ (s.bay b).settings.afterRunLimit * 1000000 → RecordsLaw s →
    let net := (convRound (s.bay b).net 10000).toNat
    ∃ t : State, exec (.armTimerExpiry b) s = .next t.settled ∧
      t.bay b = { s.bay b with
        state := .idle, cause := some .armTimeout, grossTotal := (s.bay b).grossTotal.add (s.bay b).gross
        netTotal := (s.bay b).netTotal.add (s.bay b).net
        armTimer := none, noFlowTimer := none, gapTimer := none, closeTimer := none, drainTimer := none } ∧
      (∀ c, c ≠ b → t.bay c = s.bay c) ∧
      t.journal.reservations = s.journal.reservations - 1 ∧
      t.journal.issues.records = s.journal.issues.records ++
        [{ seq := s.journal.issues.nextSeq, start := g.start.time, finish := s.clock,
           clockUnset := g.start.unset || !s.clockSet, bay := b, tank := g.tank, tag := g.tag, unit := g.unit,
           limit := g.limit, reason := g.reason, grossCl := (convRound (s.bay b).gross 10000).toNat,
           netCl := net,
           averageTemp := if (s.bay b).sumG = 0 then none else some (convRound (s.bay b).sumTG (s.bay b).sumG),
           cause := .armTimeout, uncompensated := (s.bay b).flags.uncompensated,
           tempClamped := (s.bay b).flags.tempClamped, saturated := (s.bay b).flags.saturated, overspeed := false,
           afterRun := false, valve := false, limp := g.limp, hours := g.hours }] ∧
      t.fleet.map (·.tag) = s.fleet.map (·.tag) ∧
      (∀ v ∈ s.fleet, v.tag ≠ g.tag → v ∈ t.fleet) ∧
      (∀ v, findTag g.tag s.fleet = some v → ∃ w, findTag g.tag t.fleet = some w ∧ w.armedAt = none ∧
        w.lastIssue = some { time := s.clock, unset := !s.clockSet } ∧
        w.counters.map (fun c : Counter => c.remaining) = v.counters.map (fun c : Counter =>
          if c.basis = .fuel then max (c.remaining - (net : Int)) (-99999999)
          else c.remaining) ∧
        (v.episodeBegins .fuel net → w.limpUsed = false) ∧
        (¬v.episodeBegins .fuel net → w.limpUsed = (v.limpUsed || (g.limp && decide (100 ≤ net)))) ∧
        t.journal.events = (s.journalAfter (v.rises .fuel net)).events ∧
        w.allowance = v.allowance.map (fun a => { a with usedCl := min (a.usedCl + net) 999999999 })) ∧
      t.probe = { s.probe with tanks := s.probe.tanks.set g.tank { s.probeTank g.tank with
        settle := if (s.tank g.tank).settings.settleTime = 0 then none
                  else some ((s.tank g.tank).settings.settleTime * 1000) } } ∧
      t.yard.tx = (if s.yard.tx.length < 8 then s.yard.tx ++
        [{ frame := { dst := BitVec.ofNat 8 (239 + bayNumber b), src := s.station, kind := 0x1B
                      body := .closeNotice g.tag net .armTimeout }, wake := false }]
        else s.yard.tx) ∧
      t = { s with
        bays := t.bays, fleet := t.fleet, probe := t.probe, journal := t.journal, yard := { s.yard with tx := t.yard.tx } }

/-- R82, R83, R84, R88: the expiries of the other bay timers, each at a timer that has run out. R77, R96: an expiry whose
timer has been stopped or started again, as by a tally taken first, does nothing (log 5). R87: a completion whose flags
name a fault takes the bay to FAULTED with the event of the first of them. R49, R85, R86, R123: the whole of the completion at a
close timer's expiry. -/
def Obligations.BayTimerExpiriesActByState : Prop :=
  (∀ (s : State) (b : BayId), s.powered = true → (s.bay b).state.valveOpen = true →
    ((s.bay b).noFlowTimer = some 0 →
      exec (.noFlowTimerExpiry b) s = .next (s.setBay b ((s.bay b).toClosing .noFlow)).settled) ∧
    ((s.bay b).gapTimer = some 0 →
      exec (.gapTimerExpiry b) s = .next (s.setBay b ((s.bay b).toClosing .meterSilent)).settled)) ∧
  (∀ (s : State) (b : BayId), s.powered = true → (s.bay b).state = .draining → (s.bay b).drainTimer = some 0 →
    exec (.drainTimerExpiry b) s = .next (s.setBay b { s.bay b with
      state := .idle, armTimer := none, noFlowTimer := none, gapTimer := none, closeTimer := none
      drainTimer := none }).settled) ∧
  (∀ (s : State) (b : BayId),
    ((s.bay b).armTimer ≠ some 0 → exec (.armTimerExpiry b) s = .next s) ∧
    ((s.bay b).noFlowTimer ≠ some 0 → exec (.noFlowTimerExpiry b) s = .next s) ∧
    ((s.bay b).gapTimer ≠ some 0 → exec (.gapTimerExpiry b) s = .next s) ∧
    ((s.bay b).closeTimer ≠ some 0 → exec (.closeTimerExpiry b) s = .next s) ∧
    ((s.bay b).drainTimer ≠ some 0 → exec (.drainTimerExpiry b) s = .next s)) ∧
  (∀ (s : State) (b : BayId) (c : CloseCause), s.powered = true → (s.bay b).state = .closing →
    (s.bay b).closeTimer = some 0 → (s.bay b).cause = some c → c ≠ .interrupted →
    ∃ (t : State) (r : IssueRecord), exec (.closeTimerExpiry b) s = .next t.settled ∧ (∀ k, k ≠ b → t.bay k = s.bay k) ∧
      IssueCompleted [] s t b
        { s.bay b with flags := { (s.bay b).flags with valve := (s.bay b).flags.valve || !(s.bay b).shutSeen } } c ∧
      t = { s with
        bays := t.bays, fleet := t.fleet, journal := t.journal, probe := { s.probe with tanks := t.probe.tanks }
        yard := { s.yard with tx := t.yard.tx } } ∧
      t.journal.reservations = s.journal.reservations - 1 ∧ t.journal.issues.records = s.journal.issues.records ++ [r] ∧ r.cause = c ∧
      r.valve = ((s.bay b).flags.valve || !(s.bay b).shutSeen) ∧
      r.afterRun = ((s.bay b).flags.afterRun ||
        decide ((s.bay b).settings.afterRunLimit * 1000000 < (s.bay b).closing)) ∧
      ((s.bay b).shutSeen = false → (t.bay b).state = .faulted) ∧
      ((t.bay b).flags.fault = none → (t.bay b).state =
        if (s.bay b).settings.drainTime = 0 then .idle else .draining) ∧
      (∀ q, (t.bay b).flags.fault = some q → (t.bay b).state = .faulted ∧
        (t.bay b).slot = { order := .shut, pending := true } ∧ t.newestEvent (.bayFault b q))) ∧
  (∀ f : IssueFlags,
    (f.overspeed = true → f.fault = some .overspeed) ∧
    (f.overspeed = false → f.meter = true → f.fault = some .meterFault) ∧
    (f.overspeed = false → f.meter = false → f.valve = true → f.fault = some .valve) ∧
    (f.overspeed = false → f.meter = false → f.valve = false → f.afterRun = true → f.fault = some .afterRun) ∧
    (f.overspeed = false → f.meter = false → f.valve = false → f.afterRun = false → f.fault = none)) ∧
  (∀ (y : Bay) (c : CloseCause), (y.toClosing c).state = .closing ∧ (y.toClosing c).cause = some c ∧
    (y.toClosing c).slot = { order := .shut, pending := true } ∧ (y.toClosing c).noFlowTimer = none ∧
    (y.toClosing c).gapTimer = none ∧ (y.toClosing c).closeTimer = some (y.settings.closeTime * 1000) ∧
    (y.toClosing c).closing = 0 ∧ (y.toClosing c).shutSeen = false ∧ (y.toClosing c).flow = y.flow ∧
    (y.toClosing c).gross = y.gross ∧ (y.toClosing c).net = y.net ∧ (y.toClosing c).grant = y.grant)

/-- R76: BAY SET: its refusals, the settings it stores, the CLAMPED indication by the ranges of R75, and the state table. That
the reply names the bay is log 33. -/
def Obligations.BaySetReplacesSettingsByState : Prop :=
  ∀ (s : State) (f : Frame) (r : BaySetReq), s.requestAt 0x23 = some f → parseBaySet f.payload.tail = some r →
    ((bayOf r.bay = none ∨ tankOf r.tank = none ∨ 1 < r.enabled) → exec .baySet s = refused f s .invalid) ∧
    (∀ b k, bayOf r.bay = some b → tankOf r.tank = some k → r.enabled ≤ 1 →
      ((s.bay b).state.active = true ∨ (s.bay b).state = .draining → exec .baySet s = refused f s .busy) ∧
      ((s.bay b).state.active = false → (s.bay b).state ≠ .draining →
        ∃ (y : Bay) (clamped : Bool), exec .baySet s =
            answered f (s.taken.setBay b y) (.okClamped clamped (.baySettings b y.settings y.state)) ∧
          (clamped = true ↔ r.meterFactor < 1000 ∨ 1000000 < r.meterFactor ∨ r.maxFlow < 10 ∨ 1500 < r.maxFlow ∨
            500 < r.slowBand ∨ 2000 < r.closeLead ∨ r.armTime < 10 ∨ 300 < r.armTime ∨ r.noFlowTime < 2 ∨
            60 < r.noFlowTime ∨ r.gapTime < 1 ∨ 10 < r.gapTime ∨ r.closeTime < 2 ∨ 30 < r.closeTime ∨ 60 < r.drainTime ∨
            r.afterRunLimit < 1 ∨ 200 < r.afterRunLimit) ∧
          y.settings =
            { enabled := decide (r.enabled = 1), tank := k, meterFactor := clampNat 1000 1000000 r.meterFactor,
              maxFlow := clampNat 10 1500 r.maxFlow * 1000 / 60, slowBand := clampNat 0 500 r.slowBand,
              closeLead := clampNat 0 2000 r.closeLead, armTime := clampNat 10 300 r.armTime,
              noFlowTime := clampNat 2 60 r.noFlowTime, gapTime := clampNat 1 10 r.gapTime,
              closeTime := clampNat 2 30 r.closeTime, drainTime := clampNat 0 60 r.drainTime,
              afterRunLimit := clampNat 1 200 r.afterRunLimit } ∧
          y.state = (if r.enabled = 0 then .disabled
                     else if (s.bay b).state = .faulted then .faulted else .idle) ∧
          y.slot = (if r.enabled = 0 ∧ (s.bay b).state ≠ .disabled then { order := .shut, pending := true }
                    else (s.bay b).slot) ∧
          y = { s.bay b with
            settings := y.settings, state := y.state, slot := y.slot, armTimer := y.armTimer
            noFlowTimer := y.noFlowTimer, gapTimer := y.gapTimer, closeTimer := y.closeTimer
            drainTimer := y.drainTimer }))

/-- R89, R90: BAY STOP by the bay's state, with the whole of the completion of a GRANTED issue (R49, R80, R85 to R87, R123), and
BAY RELEASE. -/
def Obligations.BayStopAndBayRelease : Prop :=
  (∀ (s : State) (f : Frame) (ref n : Byte), s.requestAt 0x2D = some f → f.payload = [ref, n] →
    (bayOf n.toNat = none → exec .bayStop s = refused f s .invalid) ∧
    (∀ b, bayOf n.toNat = some b →
      ((s.bay b).state.valveOpen = true → exec .bayStop s =
        answered f (s.taken.setBay b ((s.bay b).toClosing .site)) (.okWith (.bayStop .closing))) ∧
      ((s.bay b).state ≠ .granted → (s.bay b).state.valveOpen = false → exec .bayStop s =
        answered f s.taken (.okWith (.bayStop (s.bay b).state))) ∧
      ((s.bay b).state = .granted → (s.bay b).flags.fault = none →
        (s.bay b).closing ≤ (s.bay b).settings.afterRunLimit * 1000000 →
        ∃ t : State, exec .bayStop s = answered f t (.okWith (.bayStop .idle)) ∧ (t.bay b).state = .idle ∧
          (t.bay b).flags = (s.bay b).flags ∧
          (∃ r, t.journal.issues.records = s.journal.issues.records ++ [r] ∧ r.cause = .site ∧ r.bay = b ∧
            r.uncompensated = (s.bay b).flags.uncompensated ∧ r.tempClamped = (s.bay b).flags.tempClamped ∧
            r.saturated = (s.bay b).flags.saturated ∧ r.overspeed = false ∧ r.afterRun = false ∧ r.valve = false) ∧
          (∀ c, c ≠ b → t.bay c = s.bay c) ∧ IssueCompleted [] s.taken t b (s.bay b) .site ∧
          t = { s.taken with
            bays := t.bays, fleet := t.fleet, journal := t.journal, probe := { s.probe with tanks := t.probe.tanks }
            yard := { s.taken.yard with tx := t.yard.tx } }))) ∧
  (∀ (s : State) (f : Frame) (ref n : Byte), s.requestAt 0x2E = some f → f.payload = [ref, n] →
    (bayOf n.toNat = none → exec .bayRelease s = refused f s .invalid) ∧
    (∀ b, bayOf n.toNat = some b →
      ((s.bay b).state ≠ .faulted → exec .bayRelease s = refused f s .stateRefused) ∧
      ((s.bay b).state = .faulted → exec .bayRelease s =
        answered f (s.taken.setBay b (((s.bay b).enter .idle).order .shut)) (.okWith .nothing))))

/-! ## The Fleet Register's requests -/

/-- R27, R28, R171: the checks of FLEET PUT, the seven of R27 and the keep-counters code that names nothing (R171), and the
record an insert makes, CLAMPED by the ranges of R27. R171: a CLAMPED reply shows the settings as stored, no other does
(which values stand in it is log 36). The count in refused replies is log 24. -/
def Obligations.FleetPutChecksAndInserts : Prop :=
  (∀ r : FleetPutReq, r.check = none ↔
    (r.tag = 0 ∨ 16 ≤ r.cls ∨ 1 < r.status ∨ 1 < r.keep ∨
      (r.permitted.testBit 7 = true ∧ r.permitted.testBit 0 = false ∧ r.permitted.testBit 1 = false ∧
        r.permitted.testBit 2 = false ∧ r.permitted.testBit 3 = false) ∨
      3 < r.counters.length ∨ (∃ c ∈ r.counters, 1 < c.basis) ∨ ¬(r.counters.map (·.code)).Nodup)) ∧
  (∀ (s : State) (f : Frame) (r : FleetPutReq), s.requestAt 0x20 = some f → parseFleetPut f.payload.tail = some r →
    (r.check = none → exec .fleetPut s = answered f s.taken (.refuseWith .invalid (.fleetCount s.fleet.length))) ∧
    (r.check ≠ none → findTag r.tag s.fleet = none → 256 ≤ s.fleet.length →
      exec .fleetPut s = answered f s.taken (.refuseWith .full (.fleetCount s.fleet.length))) ∧
    (r.check ≠ none → findTag r.tag s.fleet = none → s.fleet.length < 256 →
      ∃ (v : Vehicle) (clamped : Bool) (stored : Option VehicleSettings), exec .fleetPut s =
          answered f { s.taken with fleet := insertVehicle v s.fleet }
            (.okClamped clamped (.fleetPut (s.fleet.length + 1) r.tag true stored)) ∧
        (clamped = true ↔ r.outOfRange) ∧ (clamped = false → stored = none) ∧
        (clamped = true → stored = some
          { unit := v.unit, cls := v.cls, priority := v.priority, status := v.status, fillCeiling := v.fillCeiling
            permitted := v.permitted, allowance := v.allowance.map (fun a => a.litres)
            counters := v.counters.map (fun c =>
              { code := c.code, basis := c.basis, interval := c.interval, grace := c.grace }) }) ∧
        v.tag = r.tag ∧ v.unit = r.unit ∧ v.cls.val = r.cls ∧ v.priority.val = min r.priority 3 ∧
        v.status = (if r.status = 0 then .active else .barred) ∧ v.fillCeiling = clampNat 10 20000 r.fillCeiling ∧
        v.permitted = (if r.permitted.testBit 7 then
          some { b1 := r.permitted.testBit 0, b2 := r.permitted.testBit 1, b3 := r.permitted.testBit 2,
                 b4 := r.permitted.testBit 3 } else none) ∧
        v.allowance = (if r.allowance = 0 then none
                       else some { litres := clampNat 1 65535 r.allowance, usedCl := 0 }) ∧
        v.counters = r.counters.map (fun c =>
          { code := c.code, basis := if c.basis = 0 then .hours else .fuel, interval := clampNat 1 99999999 c.interval,
            grace := clampNat 0 99999999 c.grace, remaining := (clampNat 1 99999999 c.interval : Nat) }) ∧
        v.limpUsed = false ∧ v.lastHours = none ∧ v.armedAt = none ∧ v.lastIssue = none))

/-- R29: a FLEET PUT on a tag that is held replaces the record in place, with either keep-counters choice. `v` is the record
an insert would have made; CLAMPED by the ranges of R27. R171: a CLAMPED reply shows the settings as stored, no other does
(which values stand in it is the model's choice, log 36). -/
def Obligations.FleetPutReplacesInPlace : Prop :=
  ∀ (s : State) (f : Frame) (r : FleetPutReq) (v old : Vehicle) (keep : Bool), s.requestAt 0x20 = some f →
    parseFleetPut f.payload.tail = some r → r.check = some (v, keep) → findTag r.tag s.fleet = some old →
    ∃ (w : Vehicle) (clamped : Bool) (stored : Option VehicleSettings), exec .fleetPut s =
        answered f { s.taken with fleet := setVehicle w s.fleet }
          (.okClamped clamped (.fleetPut s.fleet.length r.tag false stored)) ∧
      (clamped = true ↔ r.outOfRange) ∧ (clamped = false → stored = none) ∧
      (clamped = true → stored = some
        { unit := w.unit, cls := w.cls, priority := w.priority, status := w.status, fillCeiling := w.fillCeiling
          permitted := w.permitted, allowance := w.allowance.map (fun a => a.litres)
          counters := w.counters.map (fun c =>
            { code := c.code, basis := c.basis, interval := c.interval, grace := c.grace }) }) ∧
      w.tag = r.tag ∧ w.unit = v.unit ∧ w.cls = v.cls ∧ w.priority = v.priority ∧ w.status = v.status ∧
      w.fillCeiling = v.fillCeiling ∧ w.permitted = v.permitted ∧ w.armedAt = old.armedAt ∧
      w.lastIssue = old.lastIssue ∧
      (keep = false → w.counters = v.counters ∧ w.allowance = v.allowance ∧ w.limpUsed = false ∧ w.lastHours = none) ∧
      (keep = true → w.lastHours = old.lastHours ∧
        w.allowance = (match old.allowance, v.allowance with
          | some a, some n => some { litres := n.litres, usedCl := a.usedCl }
          | _, n => n) ∧
        w.counters = v.counters.map (fun c =>
          match old.counters.find? (fun o => o.code == c.code && o.basis == c.basis) with
          | some o => { c with remaining := o.remaining }
          | none => c) ∧
        w.limpUsed = (old.limpUsed && w.counters.any (fun c => c.remaining ≤ -(c.grace : Int) && c.remaining ≤ 0)))

/-- R31, R32: FLEET DELETE and FLEET GET. -/
def Obligations.FleetDeleteAndFleetGet : Prop :=
  (∀ (s : State) (f : Frame) (ref a b c d : Byte), s.requestAt 0x21 = some f → f.payload = [ref, a, b, c, d] →
    let tag := beNat [a, b, c, d]
    (findTag tag s.fleet = none → exec .fleetDelete s =
      answered f s.taken (.refuseWith .notFound (.fleetDelete s.fleet.length tag))) ∧
    (∀ v, findTag tag s.fleet = some v →
      (v.armedAt ≠ none → exec .fleetDelete s =
        answered f s.taken (.refuseWith .busy (.fleetDelete s.fleet.length tag))) ∧
      (v.armedAt = none → FleetLaw s → exec .fleetDelete s =
        answered f { s.taken with fleet := s.fleet.filter (fun u => u.tag != tag) }
          (.okWith (.fleetDelete (s.fleet.length - 1) tag))))) ∧
  (∀ (s : State) (f : Frame) (ref a b c d view : Byte), s.requestAt 0x3C = some f →
    f.payload = [ref, a, b, c, d, view] →
    let tag := beNat [a, b, c, d]
    (1 < view.toNat → exec .fleetGet s =
      answered f s.taken (.refuseWith .invalid (.fleetCount s.fleet.length))) ∧
    (view.toNat ≤ 1 → findTag tag s.fleet = none → exec .fleetGet s =
      answered f s.taken (.refuseWith .notFound (.fleetCount s.fleet.length))) ∧
    (∀ v, findTag tag s.fleet = some v →
      (view = 0 → exec .fleetGet s = answered f s.taken (.okWith (.fleetRecord s.fleet.length v))) ∧
      (view = 1 → exec .fleetGet s = answered f s.taken (.okWith (.fleetCounters s.fleet.length v)))))

/-- R33: FLEET NEXT returns the record with the smallest tag greater than the tag given. -/
def Obligations.FleetNextFindsTheNextTag : Prop :=
  ∀ (s : State) (f : Frame) (ref a b c d view : Byte), FleetLaw s → s.requestAt 0x3D = some f →
    f.payload = [ref, a, b, c, d, view] →
    let tag := beNat [a, b, c, d]
    (1 < view.toNat → exec .fleetNext s =
      answered f s.taken (.refuseWith .invalid (.fleetCount s.fleet.length))) ∧
    (view.toNat ≤ 1 → (∀ v ∈ s.fleet, v.tag ≤ tag) → exec .fleetNext s =
      answered f s.taken (.refuseWith .notFound (.fleetCount s.fleet.length))) ∧
    (∀ v ∈ s.fleet, tag < v.tag → (∀ u ∈ s.fleet, tag < u.tag → v.tag ≤ u.tag) →
      (view = 0 → exec .fleetNext s = answered f s.taken (.okWith (.fleetRecord s.fleet.length v))) ∧
      (view = 1 → exec .fleetNext s = answered f s.taken (.okWith (.fleetCounters s.fleet.length v)))) ∧
    (tag = 0 → ∀ v rest, s.fleet = v :: rest → view = 0 →
      exec .fleetNext s = answered f s.taken (.okWith (.fleetRecord s.fleet.length v)))

/-- R34: SHIFT ROLL. -/
def Obligations.ShiftRollClearsAllowanceUsed : Prop :=
  (∀ (s : State) (f : Frame) (ref : Byte), s.requestAt 0x2C = some f → f.payload = [ref] →
    exec .shiftRoll s =
      answered f
        { s.taken with fleet := s.fleet.map (fun v =>
            match v.allowance with
            | some a => { v with allowance := some { a with usedCl := 0 } }
            | none => v) }
        (.okWith (.shiftRoll (s.fleet.filter (fun v => v.allowance.isSome)).length))) ∧
  (∀ (f : Frame) (t : State) (r : Reply), f.dst = 255 → answered f t r = .next t.settled) ∧
  (∀ (v : Vehicle) (a : Allowance), v.allowance = some { a with usedCl := 0 } →
    allowanceCandidate v = [(.allowance, a.litres)])

/-- R26, R54: CLASS SET and SERVICE DONE. That the reply to CLASS SET names the class is log 33. -/
def Obligations.ClassSetAndServiceDone : Prop :=
  (∀ (s : State) (f : Frame) (ref c l1 l0 h1 h0 : Byte), s.requestAt 0x22 = some f →
    f.payload = [ref, c, l1, l0, h1, h0] →
    let e : ClassEntry := { limpAllotment := clampNat 10 2000 (beNat [l1, l0])
                            hourCeiling := clampNat 1 10000 (beNat [h1, h0]) }
    (16 ≤ c.toNat → exec .classSet s = refused f s .invalid) ∧
    (∀ h : c.toNat < 16, exec .classSet s =
      answered f { s.taken with classes := s.classes.set c.toNat e h }
        (.okClamped (outsideNat 10 2000 (beNat [l1, l0]) || outsideNat 1 10000 (beNat [h1, h0]))
          (.classEntry c.toNat e)))) ∧
  (∀ (s : State) (f : Frame) (ref a b c d code : Byte), s.requestAt 0x2F = some f →
    f.payload = [ref, a, b, c, d, code] →
    let tag := beNat [a, b, c, d]
    (findTag tag s.fleet = none → exec .serviceDone s = refused f s .notFound) ∧
    (∀ v, findTag tag s.fleet = some v → (∀ k ∈ v.counters, k.code ≠ code.toNat) →
      exec .serviceDone s = refused f s .notFound) ∧
    (∀ v k, findTag tag s.fleet = some v → v.counters.find? (fun k => k.code == code.toNat) = some k →
      ∃ w : Vehicle, exec .serviceDone s =
          answered f (({ s.taken with fleet := setVehicle w s.fleet } : State).log (.serviceDone tag code.toNat))
            (.okWith (.serviceDone tag code.toNat k.interval w.standing)) ∧
        w = { v with counters := w.counters, limpUsed := w.limpUsed } ∧
        w.counters = v.counters.map (fun k => if k.code = code.toNat then { k with remaining := (k.interval : Int) } else k) ∧
        ((∀ k ∈ w.counters, k.standing ≠ .overdue) → w.limpUsed = false) ∧
        ((∃ k ∈ w.counters, k.standing = .overdue) → w.limpUsed = v.limpUsed)))

/-! ## Censuses -/

/-- R119, R120, R123, R127: the census timer, once it has run out, raises PERIODIC for both tanks and starts again; a settle timer that has run out stops; neither
event takes place before (log 5); CENSUS
NOW raises ON REQUEST and replies with the purpose then pending. Last, the order of the purposes (R120). -/
def Obligations.CensusRequestsAreRaised : Prop :=
  (∀ s : State, s.powered = true → s.probe.censusTimer = 0 → exec .censusTimerExpiry s =
    .next (((s.raiseCensus .t1 .periodic).raiseCensus .t2 .periodic).startCensusTimer).settled) ∧
  (∀ s : State, s.probe.censusTimer ≠ 0 → exec .censusTimerExpiry s = .next s) ∧
  (∀ s : State, s.startCensusTimer =
    { s with probe := { s.probe with censusTimer := s.podSettings.censusPeriod * 1000 } }) ∧
  (∀ (s : State) (t : TankId), s.powered = true → (s.probeTank t).settle = some 0 →
    exec (.settleTimerExpiry t) s = .next (s.setProbeTank t { s.probeTank t with settle := none }).settled) ∧
  (∀ (s : State) (t : TankId), (s.probeTank t).settle ≠ some 0 → exec (.settleTimerExpiry t) s = .next s) ∧
  (∀ (s : State) (f : Frame) (ref n : Byte), s.requestAt 0x35 = some f → f.payload = [ref, n] →
    (tankOf n.toNat = none → exec .censusNow s = refused f s .invalid) ∧
    (∀ t, tankOf n.toNat = some t → exec .censusNow s =
      answered f (s.taken.raiseCensus t .onRequest)
        (.okWith (.censusNow t ((s.taken.raiseCensus t .onRequest).probeTank t).want (s.censusOf t))))) ∧
  (∀ (s : State) (t : TankId) (p : Purpose),
    (∃ q, s.raiseCensus t p = s.setProbeTank t { s.probeTank t with want := some q } ∧
      ((s.probeTank t).want = none → q = p) ∧
      (∀ h, (s.probeTank t).want = some h → h.rank < p.rank → q = p) ∧
      (∀ h, (s.probeTank t).want = some h → p.rank < h.rank → q = h) ∧
      (∀ h, (s.probeTank t).want = some h → p.rank = h.rank →
        q = if (s.tank t).expects = some p then p else h))) ∧
  Purpose.pre.rank = Purpose.post.rank ∧ Purpose.onRequest.rank < Purpose.pre.rank ∧
  Purpose.periodic.rank < Purpose.onRequest.rank

/-- R117: the first ACK error ends the attempt with a stop and starts the wait of 50 ms; the retry begins with the address
as it then stands, once the wait has run out and not before (log 5); a second ACK error ends the census FAILED with no reading. -/
def Obligations.AckErrorIsRetriedOnce : Prop :=
  (∀ (s : State) (c : CensusInFlight) (ph : AckPhase), s.powered = true → s.probe.inFlight = some c → c.wait = none →
    c.attempt = .first →
    ∃ t acts, exec (.ackError ph) s = .next t ∧ t.probe.inFlight = some { c with wait := some 50 } ∧
      t.probe.busActs = s.probe.busActs ++ acts ++ [.stop] ∧ t.probe.tanks = s.probe.tanks ∧
      t.probe.lastServed = s.probe.lastServed ∧ t = { s with probe := t.probe, watchTimer := t.watchTimer }) ∧
  (∀ (s : State) (c : CensusInFlight), s.powered = true → s.probe.inFlight = some c → c.wait = some 0 →
    ∃ t : State, exec .retryWaitExpiry s = .next t ∧
      t.probe.inFlight = some { c with
        attempt := .retry, wait := none, address := (s.tank c.tank).settings.probeAddress } ∧
      t.probe.busActs = s.probe.busActs ++ [.start, .addressWrite (s.tank c.tank).settings.probeAddress] ∧
      t.probe.tanks = s.probe.tanks ∧ t = { s with probe := t.probe, watchTimer := t.watchTimer }) ∧
  (∀ s : State, (∀ c, s.probe.inFlight = some c → c.wait ≠ some 0) → exec .retryWaitExpiry s = .next s) ∧
  (∀ (s : State) (c : CensusInFlight) (ph : AckPhase), s.powered = true → s.probe.inFlight = some c → c.wait = none →
    c.attempt = .retry → c.own = false →
    ∃ (t : State) (r : CensusResult), exec (.ackError ph) s = .next t.settled ∧ r.outcome = .failed ∧ r.reading = none ∧ r.volumes = none ∧
      r.purpose = c.purpose ∧ r.tank = c.tank ∧ t.tanks = s.tanks.set c.tank { s.tank c.tank with latestCensus := some r } ∧
      t.probe.inFlight = none ∧ t.probe.lastServed = c.tank ∧ t.probe.tanks = s.probe.tanks.set c.tank
        { s.probeTank c.tank with failures := min ((s.probeTank c.tank).failures + 1) 3 } ∧
      ((s.probeTank c.tank).failures = 2 → t.journal = s.journal.logEvent s.stamp (.gaugeLost c.tank)) ∧
      ((s.probeTank c.tank).failures ≠ 2 → t.journal = s.journal) ∧
      t = { s with probe := t.probe, tanks := t.tanks, journal := t.journal })

/-- R118, R122, R123, R124, R135, R137: a reading is decoded, the failure count and the gauge event follow the outcome, and
the account takes the result; water above the limit sets the hold, logs WATER and ends every issue on the tank with cause
TANK. R141, R143: a delivery's own census (`own`) is decoded and tested like any other, and before the tests moves the
delivery, or completes it with its events. `var` is the variance test's event, if it logs one (the statement on the
delivery's censuses says when). R18: last, the interpolation table. What is driven on the bus is the model's own record
(log 25). -/
def Obligations.CensusResultIsHandedOver : Prop :=
  (∀ (s : State) (c : CensusInFlight) (d : ReadingBlock), s.powered = true → s.probe.inFlight = some c → c.wait = none →
    let k := s.tank c.tank
    let p := s.probeTank c.tank
    let good := d.b6 = 0x00 ∧ d.b7 = 0xFF
    let level := beNat [d.b0, d.b1]
    let x : Reading := { level := min level 50000, temp := clampTemp (d.b2 ++ d.b3 : BitVec 16).toInt,
                         water := min (beNat [d.b4, d.b5]) 50000 }
    let found : Option (Nat × Bool) := match k.strapping with | .complete ps => strapVolume ps x.level | _ => none
    let gauge : List EventKind :=
      if good then (if p.failures = 3 then [.gaugeRestored c.tank] else [])
      else (if p.failures = 2 then [.gaugeLost c.tank] else [])
    let own : Option Delivery := if c.own then k.delivery else none
    let credited := fun q : Delivery => clampBook (k.book + q.docket * 1000000)
    let account : Option Int → Tank := fun net =>
      match own with
      | some q => match q.phase with
        | .awaitingPre => { k with delivery := some { q with preNet := net, phase := .opened } }
        | .opened => k
        | .completing => { k with
            book := credited q, delivery := none, standing := formStanding k.settings (credited q) }
      | none => k
    let closing : Option Int → List EventKind := fun net =>
      match own with
      | some q => if q.phase = .completing then
          let measured : Option Int := match net, q.preNet with | some n, some m => some (n - m) | _, _ => none
          [.delivery c.tank q.docket (measured.map (fun m => convRound m 10000))
            (measured.map (fun m => convRound (m - q.docket * 1000000) 10000)) q.expired] ++
          (if formStanding k.settings (credited q) ≠ k.standing
            then [.stockStanding c.tank (formStanding k.settings (credited q))] else [])
        else []
      | none => []
    let on := fun b => (s.bay b).settings.tank = c.tank
    ∃ (t : State) (r : CensusResult) (var : List EventKind), exec (.censusTransaction d) s = .next t.settled ∧
      r.tank = c.tank ∧ r.purpose = c.purpose ∧ r.time = { time := s.clock, unset := !s.clockSet } ∧ r.reading = some x ∧
      (¬good → r.outcome = .failed ∧ r.volumes = none) ∧
      (good → r.outcome = (if 50000 < level ∨ found.map (·.2) = some true then .overRange else .ok) ∧
        r.volumes = found.map (fun v => Volumes.mk v.1 (convRound
          (v.1 * (10000000 - k.settings.expansion * (x.temp - 150))) 10000000))) ∧
      (r.still = true ↔ c.stillAtStart = true ∧ k.delivery = none ∧
        ∀ b, on b → (s.bay b).state ≠ .flowing ∧ (s.bay b).state ≠ .trimming ∧ (s.bay b).state ≠ .closing) ∧
      let net := r.volumes.map (·.net)
      t.tank c.tank = { account net with
        latestCensus := some r, lastGoodTemp := if good then some x.temp else k.lastGoodTemp
        waterHold := k.waterHold || (decide (r.outcome = .ok) && decide (k.settings.waterLimit < x.water))
        strikes := (t.tank c.tank).strikes, latestVariance := (t.tank c.tank).latestVariance
        varianceHold := (t.tank c.tank).varianceHold } ∧
      t.tank (otherTank c.tank) = s.tank (otherTank c.tank) ∧
      var.length ≤ 1 ∧ (∀ e ∈ var, ∃ cl, e = .variance c.tank cl) ∧
      (r.outcome ≠ .ok ∨ r.still = false ∨ r.volumes = none → var = [] ∧
        (t.tank c.tank).strikes = k.strikes ∧ (t.tank c.tank).latestVariance = k.latestVariance ∧
        (t.tank c.tank).varianceHold = k.varianceHold) ∧
      t.probe = { s.probe with
        inFlight := none, lastServed := c.tank, tanks := t.probe.tanks
        busActs := s.probe.busActs ++ [.index 0x20, .repeatedStart, .addressRead c.address, .readBytes 8, .stop] } ∧
      (t.probeTank c.tank).failures = (if good then 0 else min (p.failures + 1) 3) ∧
      (t.probeTank (otherTank c.tank)).failures = (s.probeTank (otherTank c.tank)).failures ∧
      (∀ q, (t.probeTank q).want = (s.probeTank q).want) ∧
      t = { s with
        probe := t.probe, tanks := t.tanks, bays := t.bays, fleet := t.fleet, journal := t.journal
        yard := { s.yard with tx := t.yard.tx } } ∧
      (r.outcome ≠ .ok ∨ x.water ≤ k.settings.waterLimit ∨ k.waterHold = true →
        t.bays = s.bays ∧ t.fleet = s.fleet ∧ t.yard = s.yard ∧ (∀ q, (t.probeTank q).settle = (s.probeTank q).settle) ∧
        t.journal = s.journalAfter (gauge ++ closing net ++ var)) ∧
      (r.outcome = .ok → k.settings.waterLimit < x.water → k.waterHold = false →
        (∀ b, ¬on b → t.bay b = s.bay b) ∧
        (∀ b, on b → (s.bay b).state ≠ .granted → (s.bay b).state.valveOpen = false → t.bay b = s.bay b) ∧
        (∀ b, on b → (s.bay b).state.valveOpen = true → t.bay b = (s.bay b).toClosing .tank) ∧
        (∀ b, on b → (s.bay b).state = .granted → (t.bay b).cause = some .tank ∧
          ((t.bay b).flags.fault = none → (t.bay b).state = .idle) ∧
          ((t.bay b).flags.fault ≠ none → (t.bay b).state = .faulted)) ∧
        (∃ new, t.journal.issues.records = s.journal.issues.records ++ new ∧
          new.map (·.bay) = bayList.filter (fun b => decide (on b) && (s.bay b).state == .granted) ∧
          ∀ i ∈ new, i.cause = .tank) ∧
        ∃ ks, t.journal.events = (s.journalAfter (gauge ++ closing net ++ [.water c.tank x.water] ++ ks ++ var)).events ∧
          ∀ e ∈ ks, ∃ b, on b ∧ (s.bay b).state = .granted ∧
            ((∃ code st, e = .service (s.bay b).serving.tag code st) ∨ ∃ q, e = .bayFault b q))) ∧
  (∀ (ps : List StrapPoint) (level : Nat), tablePasses ps = true →
    (∀ p, ps.head? = some p → level ≤ p.level → strapVolume ps level = some (p.litres * 1000000, false)) ∧
    (∀ i p q, ps[i]? = some p → ps[i + 1]? = some q → p.level < level → level ≤ q.level →
      ∃ v : Nat, strapVolume ps level = some (v, false) ∧ (v : Int) = p.litres * 1000000 +
        convRound (((q.litres : Int) - p.litres) * 1000000 * ((level : Int) - p.level)) ((q.level : Int) - p.level)) ∧
    (∀ p, ps.getLast? = some p → p.level < level → strapVolume ps level = some (p.litres * 1000000, true)))

/-- R125, R126: STRAP SET: refusals, pieces, and the final check. R171: a CLAMPED reply shows the piece's points as stored,
no other does (log 36). That the reply names the tank is log 33. Last, what the final check asks of a table. -/
def Obligations.StrapSetLoadsATable : Prop :=
  (∀ (s : State) (f : Frame) (r : StrapSetReq), s.requestAt 0x25 = some f → parseStrapSet f.payload.tail = some r →
    (tankOf r.tank = none → exec .strapSet s = refused f s .invalid) ∧
    (∀ t, tankOf r.tank = some t →
      let old := (s.tank t).strapping
      let piece := r.points.map (fun p =>
        ({ level := clampNat 0 50000 p.level, litres := clampNat 0 200000 p.litres } : StrapPoint))
      let state := fun k => s.taken.setTank t { s.tank t with strapping := k }
      let clamped := decide (∃ p ∈ r.points, 50000 < p.level ∨ 200000 < p.litres)
      let fields := fun (k : Strapping) =>
        ReplyFields.strapping t k.load k.points.length (gaugeOf k (s.probeTank t).failures)
      let stored : Option (List StrapPoint) := if clamped then some piece else none
      let taken := fun (ps : List StrapPoint) =>
        (r.final = 0 → exec .strapSet s =
          answered f (state (.loading ps)) (.okClamped clamped (fields (.loading ps) stored))) ∧
        (r.final = 1 → tablePasses ps = true → exec .strapSet s =
          answered f (state (.complete ps)) (.okClamped clamped (fields (.complete ps) stored))) ∧
        (r.final = 1 → tablePasses ps = false → exec .strapSet s =
          answered f (state .empty) (.refuseWith .invalid (fields .empty none)))
      (1 < r.final ∨ r.points = [] ∨ 8 < r.points.length ∨ 24 < r.first + r.points.length →
        exec .strapSet s = answered f s.taken (.refuseWith .invalid (fields old none))) ∧
      (r.points ≠ [] → r.points.length ≤ 8 → r.first + r.points.length ≤ 24 →
        (r.first = 0 → taken piece) ∧
        (∀ ps, old = .loading ps → r.first ≠ 0 → r.first = ps.length → taken (ps ++ piece)) ∧
        (∀ ps, old = .loading ps → r.first ≠ 0 → r.first ≠ ps.length →
          exec .strapSet s = answered f s.taken (.refuseWith .invalid (fields old none))) ∧
        ((∀ ps, old ≠ .loading ps) → r.first ≠ 0 →
          exec .strapSet s = answered f s.taken (.refuseWith .invalid (fields old none)))))) ∧
  (∀ ps : List StrapPoint, tablePasses ps = true ↔
    2 ≤ ps.length ∧ ∀ i p q, ps[i]? = some p → ps[i + 1]? = some q → p.level < q.level ∧ p.litres ≤ q.litres)

/-! ## Tank accounts -/

/-- R131, R133, R134, R138: TANK SET, CLAMPED by the ranges of R130 and R131, STOCK SET and TANK CLEAR, and the table of the
standings. That the reply to TANK SET names the tank is log 33. Last, when a bay on the tank is active. -/
def Obligations.TankSetStockSetAndTankClear : Prop :=
  (∀ (s : State) (f : Frame) (r : TankSetReq), s.requestAt 0x24 = some f → parseTankSet f.payload.tail = some r →
    (tankOf r.tank = none ∨ 1 < r.holdEnable → exec .tankSet s = refused f s .invalid) ∧
    (∀ t, tankOf r.tank = some t → r.holdEnable ≤ 1 →
      (s.tankBusy t = true ∨ (s.tank t).receiving = true → exec .tankSet s = refused f s .busy) ∧
      (s.tankBusy t = false → (s.tank t).receiving = false →
        let cap := clampNat 1000 200000 r.capacity
        let ration := clampNat 0 cap r.rationLevel
        let cfg : TankSettings :=
          { capacity := cap, expansion := clampNat 0 2000 r.expansion, rationLevel := ration,
            reserveLevel := clampNat 0 ration r.reserveLevel, reservePriority := clampPriority r.reservePriority,
            rationPercent := clampNat 10 100 r.rationPercent, tolerance := clampNat 1 10000 r.tolerance,
            holdEnable := decide (r.holdEnable = 1), waterLimit := clampNat 0 50000 r.waterLimit,
            probeAddress := clampNat 8 119 r.probeAddress, settleTime := clampNat 0 600 r.settleTime }
        ∃ clamped : Bool, exec .tankSet s =
          answered f ((s.taken.setTank t { s.tank t with settings := cfg }).reformStanding t)
            (.okClamped clamped (.tankSettings t cfg (formStanding cfg (s.tank t).book))) ∧
        (clamped = true ↔ r.capacity < 1000 ∨ 200000 < r.capacity ∨ 2000 < r.expansion ∨ cap < r.rationLevel ∨
          ration < r.reserveLevel ∨ 3 < r.reservePriority ∨ r.rationPercent < 10 ∨ 100 < r.rationPercent ∨ r.tolerance < 1 ∨
          10000 < r.tolerance ∨ 50000 < r.waterLimit ∨ r.probeAddress < 8 ∨ 119 < r.probeAddress ∨ 600 < r.settleTime)))) ∧
  (∀ (s : State) (f : Frame) (ref n a b c d : Byte), s.requestAt 0x31 = some f → f.payload = [ref, n, a, b, c, d] →
    (tankOf n.toNat = none → exec .stockSet s = refused f s .invalid) ∧
    (∀ t, tankOf n.toNat = some t →
      let k := s.tank t
      let litres := clampNat 0 k.settings.capacity (beNat [a, b, c, d])
      let book : Int := litres * 1000000
      (s.tankBusy t = true → exec .stockSet s = refused f s .busy) ∧
      (s.tankBusy t = false → exec .stockSet s =
        answered f
          (((s.taken.setTank t { k with book := book, stockSet := true }).log
            (.stockSet t (convRound k.book 10000) (litres * 100))).reformStanding t)
          (.okClamped (decide (k.settings.capacity < beNat [a, b, c, d]))
            (.stockSet t (convRound k.book 10000) (litres * 100) (formStanding k.settings book)))))) ∧
  (∀ (s : State) (f : Frame) (ref n : Byte), s.requestAt 0x30 = some f → f.payload = [ref, n] →
    (tankOf n.toNat = none → exec .tankClear s = refused f s .invalid) ∧
    (∀ t, tankOf n.toNat = some t → exec .tankClear s =
      answered f (s.taken.setTank t { s.tank t with varianceHold := false, waterHold := false, strikes := 0 })
        (.okWith (.tankClear (s.tank t).receiving false false 0)))) ∧
  (∀ (s : State) (t : TankId), (s.reformStanding t).tank t =
      { s.tank t with standing := formStanding (s.tank t).settings (s.tank t).book } ∧
    (formStanding (s.tank t).settings (s.tank t).book = (s.tank t).standing → s.reformStanding t = s) ∧
    (formStanding (s.tank t).settings (s.tank t).book ≠ (s.tank t).standing → (s.reformStanding t).journal =
      s.journal.logEvent s.stamp (.stockStanding t (formStanding (s.tank t).settings (s.tank t).book)))) ∧
  (∀ (k : TankSettings) (book : Int), k.reserveLevel ≤ k.rationLevel →
    ((k.rationLevel : Int) * 1000000 < book → formStanding k book = .normal) ∧
    (book ≤ (k.rationLevel : Int) * 1000000 → (k.reserveLevel : Int) * 1000000 < book → formStanding k book = .ration) ∧
    (book ≤ (k.reserveLevel : Int) * 1000000 → 0 < book → formStanding k book = .reserve) ∧
    (book ≤ 0 → formStanding k book = .empty)) ∧
  (∀ (s : State) (t : TankId), s.tankBusy t = true ↔ ∃ b, (s.bay b).settings.tank = t ∧
    ((s.bay b).state = .granted ∨ (s.bay b).state = .flowing ∨ (s.bay b).state = .trimming ∨ (s.bay b).state = .closing))

/-- R140, R142, R144, R145: DELIVERY OPEN, DELIVERY CLOSE, the expiry of a window that has run out (log 5) and
DELIVERY ABORT. Last, when a bay on the tank is active. -/
def Obligations.DeliveryRequestsAndWindow : Prop :=
  (∀ (s : State) (f : Frame) (ref n a b c d : Byte), s.requestAt 0x32 = some f → f.payload = [ref, n, a, b, c, d] →
    (tankOf n.toNat = none → exec .deliveryOpen s = refused f s .invalid) ∧
    (∀ t, tankOf n.toNat = some t →
      (s.tankBusy t = true → exec .deliveryOpen s = refused f s .busy) ∧
      (s.tankBusy t = false → (s.tank t).delivery ≠ none → exec .deliveryOpen s = refused f s .stateRefused) ∧
      (s.tankBusy t = false → (s.tank t).delivery = none →
        let docket := clampNat 0 200000 (beNat [a, b, c, d])
        let fresh : Delivery :=
          { phase := .awaitingPre, docket := docket, preNet := none,
            window := some (s.podSettings.deliveryWindow * 60 * 1000), expired := false }
        exec .deliveryOpen s =
          answered f
            ((s.taken.setTank t { s.tank t with delivery := some fresh }).raiseCensus t .pre)
            (.okClamped (decide (200000 < beNat [a, b, c, d]))
              (.deliveryOpen t docket s.podSettings.deliveryWindow))))) ∧
  (∀ (s : State) (f : Frame) (ref n : Byte), s.requestAt 0x33 = some f → f.payload = [ref, n] →
    (tankOf n.toNat = none → exec .deliveryClose s = refused f s .invalid) ∧
    (∀ t, tankOf n.toNat = some t →
      ((s.tank t).delivery = none → exec .deliveryClose s = refused f s .stateRefused) ∧
      (∀ d, (s.tank t).delivery = some d →
        (d.phase = .completing → exec .deliveryClose s = refused f s .stateRefused) ∧
        (d.phase = .awaitingPre → exec .deliveryClose s = refused f s .busy) ∧
        (d.phase = .opened → exec .deliveryClose s =
          answered f
            ((s.taken.setTank t { s.tank t with delivery := some { d with phase := .completing, window := none } }
              ).raiseCensus t .post)
            (.okWith (.deliveryClose t .completing)))))) ∧
  (∀ (s : State) (t : TankId) (d : Delivery), s.powered = true → (s.tank t).delivery = some d →
    d.phase ≠ .completing → d.window = some 0 →
    exec (.windowTimerExpiry t) s =
      .next (((s.disown t).setTank t
        { s.tank t with delivery := some { d with phase := .completing, window := none, expired := true } }
        ).raiseCensus t .post).settled ∧
    ∀ c, (s.disown t).probe.inFlight = some c → c.tank = t → c.own = false) ∧
  (∀ (s : State) (t : TankId), (∀ d, (s.tank t).delivery = some d → d.window ≠ some 0) →
    exec (.windowTimerExpiry t) s = .next s) ∧
  (∀ (s : State) (f : Frame) (ref n : Byte), s.requestAt 0x34 = some f → f.payload = [ref, n] →
    (tankOf n.toNat = none → exec .deliveryAbort s = refused f s .invalid) ∧
    (∀ t, tankOf n.toNat = some t →
      ((s.tank t).delivery = none → exec .deliveryAbort s = refused f s .stateRefused) ∧
      (∀ d, (s.tank t).delivery = some d →
        (d.phase = .completing → exec .deliveryAbort s = refused f s .stateRefused) ∧
        (d.phase ≠ .completing → exec .deliveryAbort s =
          answered f (((s.taken.setTank t { s.tank t with delivery := none }).disown t).log (.deliveryAborted t))
            (.okWith .nothing))))) ∧
  (∀ (s : State) (t : TankId), s.tankBusy t = true ↔ ∃ b, (s.bay b).settings.tank = t ∧
    ((s.bay b).state = .granted ∨ (s.bay b).state = .flowing ∨ (s.bay b).state = .trimming ∨ (s.bay b).state = .closing))

/-- R141, R143: the delivery's own PRE result, decoded as any other (the statement above on results), records the pre net and opens the delivery; its own POST result credits the
docket, logs DELIVERY with its figures and then a change of standing, and ends it. R136: every result of outcome OK that is
still and has volumes undergoes the variance test against the book as it then stands, and no other does: the latest
variance, the strike count, the VARIANCE event at the third strike and the hold. -/
def Obligations.CensusMovesTheDeliveryAndTestsTheBook : Prop :=
  (∀ (s : State) (c : CensusInFlight) (b : ReadingBlock) (d : Delivery), s.powered = true →
    s.probe.inFlight = some c → c.wait = none → c.own = true → (s.tank c.tank).delivery = some d →
    ∃ (t : State) (r : CensusResult), exec (.censusTransaction b) s = .next t.settled ∧
      (t.tank c.tank).latestCensus = some r ∧ r.purpose = c.purpose ∧
      let k := s.tank c.tank
      let failures := (s.probeTank c.tank).failures
      let gauge : List EventKind :=
        if r.outcome = .failed then (if failures = 2 then [.gaugeLost c.tank] else [])
        else (if failures = 3 then [.gaugeRestored c.tank] else [])
      let book := clampBook (k.book + d.docket * 1000000)
      let measured : Option Int := match r.volumes, d.preNet with | some v, some p => some (v.net - p) | _, _ => none
      let closing : List EventKind :=
        [.delivery c.tank d.docket (measured.map (fun m => convRound m 10000))
          (measured.map (fun m => convRound (m - d.docket * 1000000) 10000)) d.expired] ++
        (if formStanding k.settings book ≠ k.standing then [.stockStanding c.tank (formStanding k.settings book)] else [])
      (d.phase = .awaitingPre → (t.tank c.tank).book = k.book ∧
        (t.tank c.tank).delivery = some { d with preNet := r.volumes.map (fun v => v.net), phase := .opened } ∧
        ∃ rest, t.journal.events = (s.journalAfter (gauge ++ rest)).events ∧ (r.outcome ≠ .ok → rest = [])) ∧
      (d.phase = .completing → (t.tank c.tank).delivery = none ∧ (t.tank c.tank).book = book ∧
        (t.tank c.tank).standing = formStanding k.settings book ∧
        ∃ rest, t.journal.events = (s.journalAfter (gauge ++ closing ++ rest)).events ∧ (r.outcome ≠ .ok → rest = []))) ∧
  (∀ (s : State) (c : CensusInFlight) (ph : AckPhase) (d : Delivery), s.powered = true →
    s.probe.inFlight = some c → c.wait = none → c.attempt = .retry → c.own = true →
    (s.tank c.tank).delivery = some d →
    ∃ (t : State) (r : CensusResult), exec (.ackError ph) s = .next t.settled ∧
      (t.tank c.tank).latestCensus = some r ∧ r.outcome = .failed ∧ r.volumes = none ∧
      let k := s.tank c.tank
      let gauge : List EventKind := if (s.probeTank c.tank).failures = 2 then [.gaugeLost c.tank] else []
      let book := clampBook (k.book + d.docket * 1000000)
      let closing : List EventKind := [.delivery c.tank d.docket none none d.expired] ++
        (if formStanding k.settings book ≠ k.standing then [.stockStanding c.tank (formStanding k.settings book)] else [])
      r.reading = none ∧ r.purpose = c.purpose ∧ r.tank = c.tank ∧ r.time = { time := s.clock, unset := !s.clockSet } ∧
      t.probe = { s.probe with
        inFlight := none, lastServed := c.tank, busActs := t.probe.busActs
        tanks := s.probe.tanks.set c.tank
          { s.probeTank c.tank with failures := min ((s.probeTank c.tank).failures + 1) 3 } } ∧
      t = { s with probe := t.probe, tanks := t.tanks, journal := t.journal } ∧
      (d.phase = .awaitingPre → t.journal = s.journalAfter gauge ∧
        t.tanks = s.tanks.set c.tank { k with
          latestCensus := some r, delivery := some { d with preNet := none, phase := .opened } }) ∧
      (d.phase = .completing → t.journal = s.journalAfter (gauge ++ closing) ∧
        t.tanks = s.tanks.set c.tank { k with
          latestCensus := some r, delivery := none, book := book, standing := formStanding k.settings book })) ∧
  (∀ (s : State) (c : CensusInFlight) (d : ReadingBlock), s.powered = true → s.probe.inFlight = some c → c.wait = none →
    ∃ (t : State) (r : CensusResult) (pre var : List EventKind), exec (.censusTransaction d) s = .next t.settled ∧
      (t.tank c.tank).latestCensus = some r ∧
      t.journal.events = (s.journalAfter (pre ++ var)).events ∧ (∀ e ∈ pre, ∀ q cl, e ≠ .variance q cl) ∧
      let k := s.tank c.tank
      let u := t.tank c.tank
      (r.outcome ≠ .ok ∨ r.still = false ∨ r.volumes = none → u.latestVariance = k.latestVariance ∧
        u.strikes = k.strikes ∧ u.varianceHold = k.varianceHold ∧ var = []) ∧
      (∀ v, r.outcome = .ok → r.still = true → r.volumes = some v →
        let strike := (k.settings.tolerance : Int) * 1000000 < |v.net - u.book|
        u.latestVariance = some (v.net - u.book) ∧
        (¬strike → u.strikes = 0 ∧ u.varianceHold = k.varianceHold ∧ var = []) ∧
        (strike → k.strikes ≠ 2 → u.strikes = min (k.strikes + 1) 3 ∧ u.varianceHold = k.varianceHold ∧ var = []) ∧
        (strike → k.strikes = 2 → u.strikes = 3 ∧ u.varianceHold = (k.varianceHold || k.settings.holdEnable) ∧
          var = [.variance c.tank (convRound (v.net - u.book) 10000)]))) ∧
  (∀ (s : State) (t : TankId) (d : Delivery) (net : Option Int), (s.tank t).delivery = some d →
    (d.phase = .awaitingPre → s.applyOwn t true net =
      s.setTank t { s.tank t with delivery := some { d with preNet := net, phase := .opened } }) ∧
    (d.phase = .completing →
      let book := clampBook ((s.tank t).book + d.docket * 1000000)
      let measured : Option Int := match net, d.preNet with | some n, some p => some (n - p) | _, _ => none
      s.applyOwn t true net =
        ((s.setTank t { s.tank t with book := book, delivery := none }).log
          (.delivery t d.docket (measured.map (fun m => convRound m 10000))
            (measured.map (fun m => convRound (m - d.docket * 1000000) 10000)) d.expired)).reformStanding t) ∧
    s.applyOwn t false net = s) ∧
  (∀ (s : State) (t : TankId) (net : Int),
    let k := s.tank t
    let strike := (k.settings.tolerance : Int) * 1000000 < |net - k.book|
    let u := s.varianceTest t net
    (u.tank t).latestVariance = some (net - k.book) ∧ u.tank (otherTank t) = s.tank (otherTank t) ∧
      (u.tank t).book = k.book ∧ (u.tank t).waterHold = k.waterHold ∧ u.bays = s.bays ∧
      (¬strike → (u.tank t).strikes = 0 ∧ (u.tank t).varianceHold = k.varianceHold ∧ u.journal = s.journal) ∧
      (strike → (u.tank t).strikes = min (k.strikes + 1) 3) ∧
      (strike → k.strikes = 2 → u.journal = s.journal.logEvent s.stamp (.variance t (convRound (net - k.book) 10000)) ∧
        (u.tank t).varianceHold = (k.varianceHold || k.settings.holdEnable)) ∧
      (strike → k.strikes ≠ 2 → u.journal = s.journal ∧ (u.tank t).varianceHold = k.varianceHold))

/-! ## Status -/

/-- R97, R147, R179: BAY STATUS, TANK STATUS and POD STATUS change nothing and carry the state as it stands; the five bay
timers are log 19, the census timer in whole seconds log 37, the watch delay timer once the pod is awake log 39, and that a
reply names its bay or tank, and the grant copy's tank, log 33. -/
def Obligations.StatusRequestsReportTheState : Prop :=
  (∀ (s : State) (f : Frame) (ref n : Byte), s.requestAt 0x3A = some f → f.payload = [ref, n] →
    (bayOf n.toNat = none → exec .bayStatus s = refused f s .invalid) ∧
    (∀ b, bayOf n.toNat = some b → ∃ r : BayReport, exec .bayStatus s = answered f s.taken (.okWith (.bayReport b r)) ∧
      r.state = (s.bay b).state ∧ r.tank = (s.bay b).settings.tank ∧ r.grant = (s.bay b).grant ∧
      r.timers.arm = (s.bay b).armTimer.map secondsLeft ∧ r.timers.noFlow = (s.bay b).noFlowTimer.map secondsLeft ∧
      r.timers.gap = (s.bay b).gapTimer.map secondsLeft ∧ r.timers.close = (s.bay b).closeTimer.map secondsLeft ∧
      r.timers.drain = (s.bay b).drainTimer.map secondsLeft ∧ r.grossCl = clOf (s.bay b).gross ∧
      r.netCl = clOf (s.bay b).net ∧ r.closingCl = clOf (s.bay b).closing ∧
      ((s.bay b).state.active = false → r.remainingCl = none) ∧
      (∀ g, (s.bay b).state.active = true → (s.bay b).grant = some g →
        r.remainingCl = some (convRound ((g.limit : Int) * 1000000 - (s.bay b).net) 10000)) ∧
      r.tallyCount = (s.bay b).tallyCount ∧ r.flow = (s.bay b).flow ∧ r.flags = (s.bay b).flags ∧
      r.cause = (s.bay b).cause ∧ r.slot = (s.bay b).slot ∧ r.reported = (s.bay b).reported ∧
      r.unassignedCl = clOf (s.bay b).unassigned ∧ r.grossLitres = (s.bay b).grossTotal.litres ∧
      r.netLitres = (s.bay b).netTotal.litres)) ∧
  (∀ (s : State) (f : Frame) (ref n : Byte), s.requestAt 0x3B = some f → f.payload = [ref, n] →
    (tankOf n.toNat = none → exec .tankStatus s = refused f s .invalid) ∧
    (∀ t, tankOf n.toNat = some t → ∃ r : TankReport,
      exec .tankStatus s = answered f s.taken (.okWith (.tankReport t r)) ∧
      r.bookCl = convRound (s.tank t).book 10000 ∧ r.stockSet = (s.tank t).stockSet ∧
      r.standing = (s.tank t).standing ∧ r.receiving = (s.tank t).receiving ∧
      r.varianceHold = (s.tank t).varianceHold ∧ r.waterHold = (s.tank t).waterHold ∧
      r.strikes = (s.tank t).strikes ∧ r.lastGoodTemp = (s.tank t).lastGoodTemp ∧
      r.failures = (s.probeTank t).failures ∧ r.want = (s.probeTank t).want ∧
      r.gauge = gaugeOf (s.tank t).strapping (s.probeTank t).failures ∧ r.loadState = (s.tank t).strapping.load ∧
      r.points = (s.tank t).strapping.points.length ∧ r.settle = (s.probeTank t).settle.map secondsLeft ∧
      r.varianceCl = (s.tank t).latestVariance.map (fun v => convRound v 10000) ∧
      (r.inFlight = true ↔ ∃ c, s.probe.inFlight = some c ∧ c.tank = t) ∧
      ((s.tank t).latestCensus = none → r.census = none) ∧ ((s.tank t).delivery = none → r.delivery = none) ∧
      (∀ q, (s.tank t).latestCensus = some q → r.census = some
        { tank := q.tank, time := q.time, purpose := q.purpose, outcome := q.outcome, reading := q.reading
          grossCl := q.volumes.map (fun v => convRound v.gross 10000)
          netCl := q.volumes.map (fun v => convRound v.net 10000), still := q.still }) ∧
      (∀ d, (s.tank t).delivery = some d → r.delivery = some
        { phase := d.phase, docket := d.docket, preNetCl := d.preNet.map (fun v => convRound v 10000)
          window := d.window.map secondsLeft, expired := d.expired }) ∧
      ((s.tank t).book ≤ 0 → r.ullage = (s.tank t).settings.capacity) ∧
      (0 < (s.tank t).book → r.ullage = (s.tank t).settings.capacity - ((s.tank t).book / 1000000).toNat))) ∧
  (∀ (s : State) (f : Frame) (ref : Byte), s.requestAt 0x39 = some f → f.payload = [ref] →
    exec .podStatus s = answered f s.taken (.okWith (.podReport
      { pod := s.taken.pod, lastStart := s.lastStart, straps := s.straps, station := s.station, clock := s.clock,
        clockSet := s.clockSet, settings := s.podSettings, watchDelay := s.taken.watchTimer.map secondsLeft,
        censusTimer := secondsLeft s.probe.censusTimer,
        inFlight := s.probe.inFlight.map (fun c => { tank := c.tank, purpose := c.purpose, attempt := c.attempt }),
        lastServed := s.probe.lastServed, bays := s.bays.map (·.state),
        tanks :=
          { t1 := { standing := s.tanks.t1.standing, receiving := s.tanks.t1.receiving,
                    varianceHold := s.tanks.t1.varianceHold, waterHold := s.tanks.t1.waterHold,
                    want := s.probe.tanks.t1.want }
            t2 := { standing := s.tanks.t2.standing, receiving := s.tanks.t2.receiving,
                    varianceHold := s.tanks.t2.varianceHold, waterHold := s.tanks.t2.waterHold,
                    want := s.probe.tanks.t2.want } },
        issueHeld := s.journal.issues.records.length, eventHeld := s.taken.journal.events.records.length,
        reservations := s.journal.reservations, overwrites := s.taken.journal.overwrites })))

/-! ## The Journal -/

/-- R149, R151, R154: a logged event takes the next number, joins the ring at the end, and takes the place of the oldest when
the ring is full; the issue ring is untouched. -/
def Obligations.EventRingOverwritesItsOldest : Prop :=
  ∀ (t : Stamp) (k : EventKind) (j : Journal),
    let e : EventRecord := { seq := j.events.nextSeq, time := t, kind := k }
    let u := j.logEvent t k
    u.issues = j.issues ∧ u.issueSpan = j.issueSpan ∧ u.reservations = j.reservations ∧
      u.events.nextSeq = (if j.events.nextSeq = 4294967295 then 0 else (j.events.nextSeq + 1) % 4294967296) ∧
      u.events.records.getLast? = some e ∧
      (j.events.records.length < 1024 - j.issueSpan →
        u.events.records = j.events.records ++ [e] ∧ u.overwrites = j.overwrites ∧
        u.events.readPtr = j.events.readPtr) ∧
      (∀ r rest, j.events.records = r :: rest → 1024 - j.issueSpan ≤ j.events.records.length →
        u.events.records = rest ++ [e] ∧ u.overwrites = min (j.overwrites + 1) 65535)

/-- R150, R156, R157: JOURNAL LAYOUT, JOURNAL RELEASE, and JOURNAL READ, which changes nothing and returns at most one issue
record or three event records from the offset on. `j` is the journal once the pod is awake. R154: the overwrite count stands
in every reply, in the issue ring's beside the reservation count (log 34). R171: a release's CLAMPED reply shows the count as
clamped, no other does (log 36). -/
def Obligations.JournalRequestsActOnTheRings : Prop :=
  (∀ (s : State) (f : Frame) (ref a b : Byte), s.requestAt 0x36 = some f → f.payload = [ref, a, b] →
    let j := s.taken.journal
    let span := clampNat 16 1008 (beNat [a, b])
    (j.issues.records ≠ [] ∨ j.events.records ≠ [] ∨ j.reservations ≠ 0 →
      exec .journalLayout s = refused f s .busy) ∧
    (j.issues.records = [] → j.events.records = [] → j.reservations = 0 →
      exec .journalLayout s =
        answered f
          { s.taken with journal :=
            { issueSpan := span, issues := { j.issues with readPtr := 0, writePtr := 0 }, reservations := 0
              events := { j.events with readPtr := span, writePtr := span }, overwrites := j.overwrites } }
          (.okClamped (outsideNat 16 1008 (beNat [a, b])) (.journalLayout span (1024 - span))))) ∧
  (∀ (s : State) (f : Frame) (ref k a b : Byte), s.requestAt 0x37 = some f → f.payload = [ref, k, a, b] →
    let j := s.taken.journal
    let n := min (beNat [a, b]) 1024
    let count : Option Nat := if 1024 < beNat [a, b] then some 1024 else none
    (1 < k.toNat → exec .journalRelease s = refused f s .invalid) ∧
    (k = 0 → ∃ u r, exec .journalRelease s =
        answered f { s.taken with journal := { j with issues := u } }
          (.okClamped (decide (1024 < beNat [a, b])) (.journalRelease .issue (min n j.issues.records.length) r count)) ∧
      u = { j.issues with records := j.issues.records.drop n, readPtr := u.readPtr } ∧
      (j.issues.readPtr < j.issueSpan →
        u.readPtr = (j.issues.readPtr + min n j.issues.records.length) % j.issueSpan) ∧
      r.held = j.issues.records.length - n ∧ r.aux = j.reservations ∧ r.overwrites = j.overwrites ∧
      (∀ x rest, j.issues.records.drop n = x :: rest → r.oldest = x.seq ∧ r.empty = false) ∧
      (j.issues.records.drop n = [] → r.oldest = j.issues.nextSeq ∧ r.empty = true)) ∧
    (k = 1 → ∃ u r, exec .journalRelease s =
        answered f { s.taken with journal := { j with events := u } }
          (.okClamped (decide (1024 < beNat [a, b])) (.journalRelease .event (min n j.events.records.length) r count)) ∧
      u = { j.events with records := j.events.records.drop n, readPtr := u.readPtr } ∧
      (j.issueSpan ≤ j.events.readPtr → j.events.readPtr < 1024 → u.readPtr = j.issueSpan +
        (j.events.readPtr - j.issueSpan + min n j.events.records.length) % (1024 - j.issueSpan)) ∧
      r.held = j.events.records.length - n ∧ r.aux = j.overwrites ∧ r.overwrites = j.overwrites ∧
      (∀ x rest, j.events.records.drop n = x :: rest → r.oldest = x.seq ∧ r.empty = false) ∧
      (j.events.records.drop n = [] → r.oldest = j.events.nextSeq ∧ r.empty = true))) ∧
  (∀ (s : State) (f : Frame) (ref k o1 o0 c : Byte), s.requestAt 0x3E = some f → f.payload = [ref, k, o1, o0, c] →
    let o := beNat [o1, o0]
    let j := s.taken.journal
    (1 < k.toNat → exec .journalRead s = refused f s .invalid) ∧
    (k = 0 → ∃ r, exec .journalRead s =
        answered f s.taken (.okWith (.journalIssues r ((j.issues.records.drop o).take (min c.toNat 1)))) ∧
      r.held = j.issues.records.length ∧ r.aux = j.reservations ∧ r.overwrites = j.overwrites ∧
      (∀ x rest, j.issues.records = x :: rest → r.oldest = x.seq ∧ r.empty = false) ∧
      (j.issues.records = [] → r.oldest = j.issues.nextSeq ∧ r.empty = true)) ∧
    (k = 1 → ∃ r, exec .journalRead s =
        answered f s.taken (.okWith (.journalEvents r ((j.events.records.drop o).take (min c.toNat 3)))) ∧
      r.held = j.events.records.length ∧ r.aux = j.overwrites ∧ r.overwrites = j.overwrites ∧
      (∀ x rest, j.events.records = x :: rest → r.oldest = x.seq ∧ r.empty = false) ∧
      (j.events.records = [] → r.oldest = j.events.nextSeq ∧ r.empty = true)))

/-! ## The Pod Controller's requests -/

/-- R119, R160, R173, R177: POD SET stores the clamped settings, CLAMPED by the ranges of R173, starts the census timer and a running watch delay timer again,
leaves delivery windows, and gives the yard port its rate when it is between frames (log 18). That the reply's bit rates are
those of the stored settings (log 17), as exact quotients (log 16), is the model's choice. -/
def Obligations.PodSetStoresClampedSettings : Prop :=
  ∀ (s : State) (f : Frame) (r : PodSetReq), s.requestAt 0x26 = some f → parsePodSet f.payload.tail = some r →
    let p : PodSettings :=
      { censusPeriod := clampNat 30 3600 r.censusPeriod, watchDelay := clampNat 10 600 r.watchDelay,
        deliveryWindow := clampNat 10 240 r.deliveryWindow,
        yardRate := { s := min r.yardS 7, d := clampNat 2 127 r.yardD },
        trunkRate := { s := min r.trunkS 7, d := clampNat 2 127 r.trunkD } }
    ∃ (t : State) (clamped : Bool), exec .podSet s = answered f t (.okClamped clamped (.podSettings p
        { num := 14745600, den := 2 ^ p.yardRate.s * (2 * (p.yardRate.d + 1)) }
        { num := 14745600, den := 2 ^ p.trunkRate.s * (2 * (p.trunkRate.d + 1)) })) ∧
      (clamped = true ↔ r.censusPeriod < 30 ∨ 3600 < r.censusPeriod ∨ r.watchDelay < 10 ∨ 600 < r.watchDelay ∨
        r.deliveryWindow < 10 ∨ 240 < r.deliveryWindow ∨ 7 < r.yardS ∨ r.yardD < 2 ∨ 127 < r.yardD ∨ 7 < r.trunkS ∨
        r.trunkD < 2 ∨ 127 < r.trunkD) ∧
      t = { s.taken with
        podSettings := p, probe := { s.probe with censusTimer := p.censusPeriod * 1000 }
        watchTimer := s.taken.watchTimer.map (fun _ => p.watchDelay * 1000), yard := t.yard, yardMode := t.yardMode } ∧
      (s.taken.yard.receiver = .hunting → s.taken.yard.sending = none → t.yard = { s.taken.yard with rate := p.yardRate }) ∧
      (s.taken.yard.receiver ≠ .hunting ∨ s.taken.yard.sending ≠ none → t.yard = s.taken.yard)

/-- R80, R163, R174 to R177, R182: POD START, POD SUSPEND, POD RESUME and POD RESET; a halt completes each GRANTED issue with its record,
in bay order; at the expiry of a watch delay timer that has
run out (log 5) the pod enters WATCH with its event, and the yard port goes to WATCH mode, at once when it is between frames. -/
def Obligations.PodStatesFollowTheirTable : Prop :=
  (∀ (s : State) (f : Frame) (ref : Byte), s.requestAt 0x27 = some f → f.payload = [ref] →
    let fails : StartConditions :=
      { clockUnset := !s.clockSet, noBayEnabled := !bayList.any (fun b => (s.bay b).settings.enabled),
        tank1NotSet := bayList.any (fun b => (s.bay b).settings.enabled && decide ((s.bay b).settings.tank = .t1)) &&
          !s.tanks.t1.stockSet
        tank2NotSet := bayList.any (fun b => (s.bay b).settings.enabled && decide ((s.bay b).settings.tank = .t2)) &&
          !s.tanks.t2.stockSet }
    (s.pod ≠ .blank → exec .podStart s = refused f s .stateRefused) ∧
    (s.pod = .blank → fails = ⟨false, false, false, false⟩ →
      exec .podStart s = answered f (s.taken.changePod .inService) (.okWith .nothing)) ∧
    (s.pod = .blank → fails ≠ ⟨false, false, false, false⟩ →
      exec .podStart s = answered f s.taken (.refuseWith .stateRefused (.startConditions fails)))) ∧
  (∀ (s : State) (f : Frame) (ref h : Byte), s.requestAt 0x28 = some f → f.payload = [ref, h] →
    let off := if s.pod = .suspended then s.taken else s.taken.changePod .suspended
    (1 < h.toNat → exec .podSuspend s = refused f s .invalid) ∧
    (h.toNat ≤ 1 → s.pod = .blank → exec .podSuspend s = refused f s .stateRefused) ∧
    (h = 0 → s.pod ≠ .blank → exec .podSuspend s = answered f off (.okWith (.podSuspend .suspended 0))) ∧
    (h = 1 → s.pod ≠ .blank → ∃ t : State, exec .podSuspend s = answered f t (.okWith (.podSuspend .suspended
        (bayList.filter (fun b => (s.bay b).state == .granted || (s.bay b).state.valveOpen)).length)) ∧
      t = { off with
        bays := t.bays, fleet := t.fleet, journal := t.journal, probe := { s.probe with tanks := t.probe.tanks }
        yard := { off.yard with tx := t.yard.tx } } ∧
      t.journal.reservations = s.journal.reservations - (bayList.filter (fun b => (s.bay b).state == .granted)).length ∧
      (∃ new, t.journal.issues.records = s.journal.issues.records ++ new ∧
        new.map (·.bay) = bayList.filter (fun b => (s.bay b).state == .granted) ∧
        ∀ i ∈ new, i.cause = .site ∧ i.tag = (s.bay i.bay).serving.tag ∧ i.finish = s.clock ∧
          i.grossCl = clOf (s.bay i.bay).gross ∧ i.netCl = clOf (s.bay i.bay).net) ∧
      (∃ ks, t.journal.events = (off.journalAfter ks).events ∧
        ∀ e ∈ ks, ∃ b, (s.bay b).state = .granted ∧
          ((∃ code st, e = .service (s.bay b).serving.tag code st) ∨ ∃ q, e = .bayFault b q)) ∧
      ∀ b, ((s.bay b).state.valveOpen = true → t.bay b = (s.bay b).toClosing .site) ∧
        ((s.bay b).state = .granted → (t.bay b).cause = some .site ∧ (t.bay b).state.active = false) ∧
        ((s.bay b).state ≠ .granted → (s.bay b).state.valveOpen = false → t.bay b = s.bay b))) ∧
  (∀ (s : State) (f : Frame) (ref : Byte), s.requestAt 0x29 = some f → f.payload = [ref] →
    (s.pod = .suspended → exec .podResume s = answered f (s.taken.changePod .inService) (.okWith .nothing)) ∧
    (s.pod ≠ .suspended → exec .podResume s = refused f s .stateRefused)) ∧
  (∀ (s : State) (f : Frame) (ref : Byte), s.requestAt 0x2A = some f → f.payload = [ref] →
    exec .podReset s = answered f { s.taken with resetPending := true } (.okWith .nothing)) ∧
  (∀ (s : State) (p : PodState), s.changePod p =
    { s with pod := p, journal := s.journal.logEvent s.stamp (.podState s.pod p) }) ∧
  (∀ s : State, s.watchTimer ≠ some 0 → exec .watchDelayTimerExpiry s = .next s) ∧
  (∀ s : State, s.powered = true → s.pod = .inService → s.watchTimer = some 0 →
    ∃ t : State, exec .watchDelayTimerExpiry s = .next t.settled ∧ t.settled.watchTimer = none ∧
      t = { s with
        pod := .watch, yardTarget := .watch, yardMode := t.yardMode, yard := { s.yard with rate := t.yard.rate }
        journal := s.journal.logEvent s.stamp (.podState .inService .watch) } ∧
      (s.yard.receiver = .hunting → s.yard.sending = none → t.yardMode = .watch))

end
end

