-- ==== Sys2Proof/Laws/State.lean ====
section
/-! SUPPORT. One lemma for each field of each update of State, true by computation and used by simp, so that no proof
unfolds an update; and what reading one bay, tank or probe entry gives after an update. -/

namespace Sys2Proof.Machine

/-! ## One value for each bay, one for each tank -/

@[simp] theorem PerBay.get_set_same {α : Type} (p : PerBay α) (b : BayId) (x : α) : (p.set b x).get b = x := by
  cases b <;> rfl

@[simp] theorem PerBay.get_set_other {α : Type} (p : PerBay α) (b c : BayId) (x : α) (h : c ≠ b) :
    (p.set b x).get c = p.get c := by
  cases b <;> cases c <;> first | rfl | exact absurd rfl h

@[simp] theorem PerBay.get_map {α β : Type} (f : α → β) (p : PerBay α) (b : BayId) : (p.map f).get b = f (p.get b) := by
  cases b <;> rfl

@[simp] theorem PerTank.get_set_same {α : Type} (p : PerTank α) (t : TankId) (x : α) : (p.set t x).get t = x := by
  cases t <;> rfl

@[simp] theorem PerTank.get_set_other {α : Type} (p : PerTank α) (t u : TankId) (x : α) (h : u ≠ t) :
    (p.set t x).get u = p.get u := by
  cases t <;> cases u <;> first | rfl | exact absurd rfl h

@[simp] theorem PerTank.get_map {α β : Type} (f : α → β) (p : PerTank α) (t : TankId) :
    (p.map f).get t = f (p.get t) := by
  cases t <;> rfl

theorem mem_bayList (b : BayId) : b ∈ bayList := by cases b <;> decide

/-! ## setBay -/

@[simp] theorem State.setBay_pending (s : State) (b : BayId) (y : Bay) : (s.setBay b y).pending = s.pending := rfl
@[simp] theorem State.setBay_powered (s : State) (b : BayId) (y : Bay) : (s.setBay b y).powered = s.powered := rfl
@[simp] theorem State.setBay_retentionMark (s : State) (b : BayId) (y : Bay) : (s.setBay b y).retentionMark = s.retentionMark := rfl
@[simp] theorem State.setBay_resetPending (s : State) (b : BayId) (y : Bay) : (s.setBay b y).resetPending = s.resetPending := rfl
@[simp] theorem State.setBay_lastStart (s : State) (b : BayId) (y : Bay) : (s.setBay b y).lastStart = s.lastStart := rfl
@[simp] theorem State.setBay_straps (s : State) (b : BayId) (y : Bay) : (s.setBay b y).straps = s.straps := rfl
@[simp] theorem State.setBay_station (s : State) (b : BayId) (y : Bay) : (s.setBay b y).station = s.station := rfl
@[simp] theorem State.setBay_pod (s : State) (b : BayId) (y : Bay) : (s.setBay b y).pod = s.pod := rfl
@[simp] theorem State.setBay_clock (s : State) (b : BayId) (y : Bay) : (s.setBay b y).clock = s.clock := rfl
@[simp] theorem State.setBay_clockSet (s : State) (b : BayId) (y : Bay) : (s.setBay b y).clockSet = s.clockSet := rfl
@[simp] theorem State.setBay_subMs (s : State) (b : BayId) (y : Bay) : (s.setBay b y).subMs = s.subMs := rfl
@[simp] theorem State.setBay_podSettings (s : State) (b : BayId) (y : Bay) : (s.setBay b y).podSettings = s.podSettings := rfl
@[simp] theorem State.setBay_watchTimer (s : State) (b : BayId) (y : Bay) : (s.setBay b y).watchTimer = s.watchTimer := rfl
@[simp] theorem State.setBay_fleet (s : State) (b : BayId) (y : Bay) : (s.setBay b y).fleet = s.fleet := rfl
@[simp] theorem State.setBay_classes (s : State) (b : BayId) (y : Bay) : (s.setBay b y).classes = s.classes := rfl
@[simp] theorem State.setBay_bays (s : State) (b : BayId) (y : Bay) : (s.setBay b y).bays = s.bays.set b y := rfl
@[simp] theorem State.setBay_tanks (s : State) (b : BayId) (y : Bay) : (s.setBay b y).tanks = s.tanks := rfl
@[simp] theorem State.setBay_probe (s : State) (b : BayId) (y : Bay) : (s.setBay b y).probe = s.probe := rfl
@[simp] theorem State.setBay_journal (s : State) (b : BayId) (y : Bay) : (s.setBay b y).journal = s.journal := rfl
@[simp] theorem State.setBay_yard (s : State) (b : BayId) (y : Bay) : (s.setBay b y).yard = s.yard := rfl
@[simp] theorem State.setBay_trunk (s : State) (b : BayId) (y : Bay) : (s.setBay b y).trunk = s.trunk := rfl
@[simp] theorem State.setBay_yardMode (s : State) (b : BayId) (y : Bay) : (s.setBay b y).yardMode = s.yardMode := rfl
@[simp] theorem State.setBay_yardTarget (s : State) (b : BayId) (y : Bay) : (s.setBay b y).yardTarget = s.yardTarget := rfl
@[simp] theorem State.setBay_forwardDrops (s : State) (b : BayId) (y : Bay) : (s.setBay b y).forwardDrops = s.forwardDrops := rfl

/-! ## setTank -/

@[simp] theorem State.setTank_pending (s : State) (t : TankId) (k : Tank) : (s.setTank t k).pending = s.pending := rfl
@[simp] theorem State.setTank_powered (s : State) (t : TankId) (k : Tank) : (s.setTank t k).powered = s.powered := rfl
@[simp] theorem State.setTank_retentionMark (s : State) (t : TankId) (k : Tank) : (s.setTank t k).retentionMark = s.retentionMark := rfl
@[simp] theorem State.setTank_resetPending (s : State) (t : TankId) (k : Tank) : (s.setTank t k).resetPending = s.resetPending := rfl
@[simp] theorem State.setTank_lastStart (s : State) (t : TankId) (k : Tank) : (s.setTank t k).lastStart = s.lastStart := rfl
@[simp] theorem State.setTank_straps (s : State) (t : TankId) (k : Tank) : (s.setTank t k).straps = s.straps := rfl
@[simp] theorem State.setTank_station (s : State) (t : TankId) (k : Tank) : (s.setTank t k).station = s.station := rfl
@[simp] theorem State.setTank_pod (s : State) (t : TankId) (k : Tank) : (s.setTank t k).pod = s.pod := rfl
@[simp] theorem State.setTank_clock (s : State) (t : TankId) (k : Tank) : (s.setTank t k).clock = s.clock := rfl
@[simp] theorem State.setTank_clockSet (s : State) (t : TankId) (k : Tank) : (s.setTank t k).clockSet = s.clockSet := rfl
@[simp] theorem State.setTank_subMs (s : State) (t : TankId) (k : Tank) : (s.setTank t k).subMs = s.subMs := rfl
@[simp] theorem State.setTank_podSettings (s : State) (t : TankId) (k : Tank) : (s.setTank t k).podSettings = s.podSettings := rfl
@[simp] theorem State.setTank_watchTimer (s : State) (t : TankId) (k : Tank) : (s.setTank t k).watchTimer = s.watchTimer := rfl
@[simp] theorem State.setTank_fleet (s : State) (t : TankId) (k : Tank) : (s.setTank t k).fleet = s.fleet := rfl
@[simp] theorem State.setTank_classes (s : State) (t : TankId) (k : Tank) : (s.setTank t k).classes = s.classes := rfl
@[simp] theorem State.setTank_bays (s : State) (t : TankId) (k : Tank) : (s.setTank t k).bays = s.bays := rfl
@[simp] theorem State.setTank_tanks (s : State) (t : TankId) (k : Tank) : (s.setTank t k).tanks = s.tanks.set t k := rfl
@[simp] theorem State.setTank_probe (s : State) (t : TankId) (k : Tank) : (s.setTank t k).probe = s.probe := rfl
@[simp] theorem State.setTank_journal (s : State) (t : TankId) (k : Tank) : (s.setTank t k).journal = s.journal := rfl
@[simp] theorem State.setTank_yard (s : State) (t : TankId) (k : Tank) : (s.setTank t k).yard = s.yard := rfl
@[simp] theorem State.setTank_trunk (s : State) (t : TankId) (k : Tank) : (s.setTank t k).trunk = s.trunk := rfl
@[simp] theorem State.setTank_yardMode (s : State) (t : TankId) (k : Tank) : (s.setTank t k).yardMode = s.yardMode := rfl
@[simp] theorem State.setTank_yardTarget (s : State) (t : TankId) (k : Tank) : (s.setTank t k).yardTarget = s.yardTarget := rfl
@[simp] theorem State.setTank_forwardDrops (s : State) (t : TankId) (k : Tank) : (s.setTank t k).forwardDrops = s.forwardDrops := rfl

/-! ## setProbeTank -/

@[simp] theorem State.setProbeTank_pending (s : State) (t : TankId) (k : ProbeTank) : (s.setProbeTank t k).pending = s.pending := rfl
@[simp] theorem State.setProbeTank_powered (s : State) (t : TankId) (k : ProbeTank) : (s.setProbeTank t k).powered = s.powered := rfl
@[simp] theorem State.setProbeTank_retentionMark (s : State) (t : TankId) (k : ProbeTank) : (s.setProbeTank t k).retentionMark = s.retentionMark := rfl
@[simp] theorem State.setProbeTank_resetPending (s : State) (t : TankId) (k : ProbeTank) : (s.setProbeTank t k).resetPending = s.resetPending := rfl
@[simp] theorem State.setProbeTank_lastStart (s : State) (t : TankId) (k : ProbeTank) : (s.setProbeTank t k).lastStart = s.lastStart := rfl
@[simp] theorem State.setProbeTank_straps (s : State) (t : TankId) (k : ProbeTank) : (s.setProbeTank t k).straps = s.straps := rfl
@[simp] theorem State.setProbeTank_station (s : State) (t : TankId) (k : ProbeTank) : (s.setProbeTank t k).station = s.station := rfl
@[simp] theorem State.setProbeTank_pod (s : State) (t : TankId) (k : ProbeTank) : (s.setProbeTank t k).pod = s.pod := rfl
@[simp] theorem State.setProbeTank_clock (s : State) (t : TankId) (k : ProbeTank) : (s.setProbeTank t k).clock = s.clock := rfl
@[simp] theorem State.setProbeTank_clockSet (s : State) (t : TankId) (k : ProbeTank) : (s.setProbeTank t k).clockSet = s.clockSet := rfl
@[simp] theorem State.setProbeTank_subMs (s : State) (t : TankId) (k : ProbeTank) : (s.setProbeTank t k).subMs = s.subMs := rfl
@[simp] theorem State.setProbeTank_podSettings (s : State) (t : TankId) (k : ProbeTank) : (s.setProbeTank t k).podSettings = s.podSettings := rfl
@[simp] theorem State.setProbeTank_watchTimer (s : State) (t : TankId) (k : ProbeTank) : (s.setProbeTank t k).watchTimer = s.watchTimer := rfl
@[simp] theorem State.setProbeTank_fleet (s : State) (t : TankId) (k : ProbeTank) : (s.setProbeTank t k).fleet = s.fleet := rfl
@[simp] theorem State.setProbeTank_classes (s : State) (t : TankId) (k : ProbeTank) : (s.setProbeTank t k).classes = s.classes := rfl
@[simp] theorem State.setProbeTank_bays (s : State) (t : TankId) (k : ProbeTank) : (s.setProbeTank t k).bays = s.bays := rfl
@[simp] theorem State.setProbeTank_tanks (s : State) (t : TankId) (k : ProbeTank) : (s.setProbeTank t k).tanks = s.tanks := rfl
@[simp] theorem State.setProbeTank_probe (s : State) (t : TankId) (k : ProbeTank) : (s.setProbeTank t k).probe = { s.probe with tanks := s.probe.tanks.set t k } := rfl
@[simp] theorem State.setProbeTank_journal (s : State) (t : TankId) (k : ProbeTank) : (s.setProbeTank t k).journal = s.journal := rfl
@[simp] theorem State.setProbeTank_yard (s : State) (t : TankId) (k : ProbeTank) : (s.setProbeTank t k).yard = s.yard := rfl
@[simp] theorem State.setProbeTank_trunk (s : State) (t : TankId) (k : ProbeTank) : (s.setProbeTank t k).trunk = s.trunk := rfl
@[simp] theorem State.setProbeTank_yardMode (s : State) (t : TankId) (k : ProbeTank) : (s.setProbeTank t k).yardMode = s.yardMode := rfl
@[simp] theorem State.setProbeTank_yardTarget (s : State) (t : TankId) (k : ProbeTank) : (s.setProbeTank t k).yardTarget = s.yardTarget := rfl
@[simp] theorem State.setProbeTank_forwardDrops (s : State) (t : TankId) (k : ProbeTank) : (s.setProbeTank t k).forwardDrops = s.forwardDrops := rfl

/-! ## setFleet -/

@[simp] theorem State.setFleet_pending (s : State) (l : List Vehicle) : (s.setFleet l).pending = s.pending := rfl
@[simp] theorem State.setFleet_powered (s : State) (l : List Vehicle) : (s.setFleet l).powered = s.powered := rfl
@[simp] theorem State.setFleet_retentionMark (s : State) (l : List Vehicle) : (s.setFleet l).retentionMark = s.retentionMark := rfl
@[simp] theorem State.setFleet_resetPending (s : State) (l : List Vehicle) : (s.setFleet l).resetPending = s.resetPending := rfl
@[simp] theorem State.setFleet_lastStart (s : State) (l : List Vehicle) : (s.setFleet l).lastStart = s.lastStart := rfl
@[simp] theorem State.setFleet_straps (s : State) (l : List Vehicle) : (s.setFleet l).straps = s.straps := rfl
@[simp] theorem State.setFleet_station (s : State) (l : List Vehicle) : (s.setFleet l).station = s.station := rfl
@[simp] theorem State.setFleet_pod (s : State) (l : List Vehicle) : (s.setFleet l).pod = s.pod := rfl
@[simp] theorem State.setFleet_clock (s : State) (l : List Vehicle) : (s.setFleet l).clock = s.clock := rfl
@[simp] theorem State.setFleet_clockSet (s : State) (l : List Vehicle) : (s.setFleet l).clockSet = s.clockSet := rfl
@[simp] theorem State.setFleet_subMs (s : State) (l : List Vehicle) : (s.setFleet l).subMs = s.subMs := rfl
@[simp] theorem State.setFleet_podSettings (s : State) (l : List Vehicle) : (s.setFleet l).podSettings = s.podSettings := rfl
@[simp] theorem State.setFleet_watchTimer (s : State) (l : List Vehicle) : (s.setFleet l).watchTimer = s.watchTimer := rfl
@[simp] theorem State.setFleet_fleet (s : State) (l : List Vehicle) : (s.setFleet l).fleet = l := rfl
@[simp] theorem State.setFleet_classes (s : State) (l : List Vehicle) : (s.setFleet l).classes = s.classes := rfl
@[simp] theorem State.setFleet_bays (s : State) (l : List Vehicle) : (s.setFleet l).bays = s.bays := rfl
@[simp] theorem State.setFleet_tanks (s : State) (l : List Vehicle) : (s.setFleet l).tanks = s.tanks := rfl
@[simp] theorem State.setFleet_probe (s : State) (l : List Vehicle) : (s.setFleet l).probe = s.probe := rfl
@[simp] theorem State.setFleet_journal (s : State) (l : List Vehicle) : (s.setFleet l).journal = s.journal := rfl
@[simp] theorem State.setFleet_yard (s : State) (l : List Vehicle) : (s.setFleet l).yard = s.yard := rfl
@[simp] theorem State.setFleet_trunk (s : State) (l : List Vehicle) : (s.setFleet l).trunk = s.trunk := rfl
@[simp] theorem State.setFleet_yardMode (s : State) (l : List Vehicle) : (s.setFleet l).yardMode = s.yardMode := rfl
@[simp] theorem State.setFleet_yardTarget (s : State) (l : List Vehicle) : (s.setFleet l).yardTarget = s.yardTarget := rfl
@[simp] theorem State.setFleet_forwardDrops (s : State) (l : List Vehicle) : (s.setFleet l).forwardDrops = s.forwardDrops := rfl

/-! ## setJournal -/

@[simp] theorem State.setJournal_pending (s : State) (j : Journal) : (s.setJournal j).pending = s.pending := rfl
@[simp] theorem State.setJournal_powered (s : State) (j : Journal) : (s.setJournal j).powered = s.powered := rfl
@[simp] theorem State.setJournal_retentionMark (s : State) (j : Journal) : (s.setJournal j).retentionMark = s.retentionMark := rfl
@[simp] theorem State.setJournal_resetPending (s : State) (j : Journal) : (s.setJournal j).resetPending = s.resetPending := rfl
@[simp] theorem State.setJournal_lastStart (s : State) (j : Journal) : (s.setJournal j).lastStart = s.lastStart := rfl
@[simp] theorem State.setJournal_straps (s : State) (j : Journal) : (s.setJournal j).straps = s.straps := rfl
@[simp] theorem State.setJournal_station (s : State) (j : Journal) : (s.setJournal j).station = s.station := rfl
@[simp] theorem State.setJournal_pod (s : State) (j : Journal) : (s.setJournal j).pod = s.pod := rfl
@[simp] theorem State.setJournal_clock (s : State) (j : Journal) : (s.setJournal j).clock = s.clock := rfl
@[simp] theorem State.setJournal_clockSet (s : State) (j : Journal) : (s.setJournal j).clockSet = s.clockSet := rfl
@[simp] theorem State.setJournal_subMs (s : State) (j : Journal) : (s.setJournal j).subMs = s.subMs := rfl
@[simp] theorem State.setJournal_podSettings (s : State) (j : Journal) : (s.setJournal j).podSettings = s.podSettings := rfl
@[simp] theorem State.setJournal_watchTimer (s : State) (j : Journal) : (s.setJournal j).watchTimer = s.watchTimer := rfl
@[simp] theorem State.setJournal_fleet (s : State) (j : Journal) : (s.setJournal j).fleet = s.fleet := rfl
@[simp] theorem State.setJournal_classes (s : State) (j : Journal) : (s.setJournal j).classes = s.classes := rfl
@[simp] theorem State.setJournal_bays (s : State) (j : Journal) : (s.setJournal j).bays = s.bays := rfl
@[simp] theorem State.setJournal_tanks (s : State) (j : Journal) : (s.setJournal j).tanks = s.tanks := rfl
@[simp] theorem State.setJournal_probe (s : State) (j : Journal) : (s.setJournal j).probe = s.probe := rfl
@[simp] theorem State.setJournal_journal (s : State) (j : Journal) : (s.setJournal j).journal = j := rfl
@[simp] theorem State.setJournal_yard (s : State) (j : Journal) : (s.setJournal j).yard = s.yard := rfl
@[simp] theorem State.setJournal_trunk (s : State) (j : Journal) : (s.setJournal j).trunk = s.trunk := rfl
@[simp] theorem State.setJournal_yardMode (s : State) (j : Journal) : (s.setJournal j).yardMode = s.yardMode := rfl
@[simp] theorem State.setJournal_yardTarget (s : State) (j : Journal) : (s.setJournal j).yardTarget = s.yardTarget := rfl
@[simp] theorem State.setJournal_forwardDrops (s : State) (j : Journal) : (s.setJournal j).forwardDrops = s.forwardDrops := rfl

/-! ## setFlight -/

@[simp] theorem State.setFlight_pending (s : State) (c : Option CensusInFlight) : (s.setFlight c).pending = s.pending := rfl
@[simp] theorem State.setFlight_powered (s : State) (c : Option CensusInFlight) : (s.setFlight c).powered = s.powered := rfl
@[simp] theorem State.setFlight_retentionMark (s : State) (c : Option CensusInFlight) : (s.setFlight c).retentionMark = s.retentionMark := rfl
@[simp] theorem State.setFlight_resetPending (s : State) (c : Option CensusInFlight) : (s.setFlight c).resetPending = s.resetPending := rfl
@[simp] theorem State.setFlight_lastStart (s : State) (c : Option CensusInFlight) : (s.setFlight c).lastStart = s.lastStart := rfl
@[simp] theorem State.setFlight_straps (s : State) (c : Option CensusInFlight) : (s.setFlight c).straps = s.straps := rfl
@[simp] theorem State.setFlight_station (s : State) (c : Option CensusInFlight) : (s.setFlight c).station = s.station := rfl
@[simp] theorem State.setFlight_pod (s : State) (c : Option CensusInFlight) : (s.setFlight c).pod = s.pod := rfl
@[simp] theorem State.setFlight_clock (s : State) (c : Option CensusInFlight) : (s.setFlight c).clock = s.clock := rfl
@[simp] theorem State.setFlight_clockSet (s : State) (c : Option CensusInFlight) : (s.setFlight c).clockSet = s.clockSet := rfl
@[simp] theorem State.setFlight_subMs (s : State) (c : Option CensusInFlight) : (s.setFlight c).subMs = s.subMs := rfl
@[simp] theorem State.setFlight_podSettings (s : State) (c : Option CensusInFlight) : (s.setFlight c).podSettings = s.podSettings := rfl
@[simp] theorem State.setFlight_watchTimer (s : State) (c : Option CensusInFlight) : (s.setFlight c).watchTimer = s.watchTimer := rfl
@[simp] theorem State.setFlight_fleet (s : State) (c : Option CensusInFlight) : (s.setFlight c).fleet = s.fleet := rfl
@[simp] theorem State.setFlight_classes (s : State) (c : Option CensusInFlight) : (s.setFlight c).classes = s.classes := rfl
@[simp] theorem State.setFlight_bays (s : State) (c : Option CensusInFlight) : (s.setFlight c).bays = s.bays := rfl
@[simp] theorem State.setFlight_tanks (s : State) (c : Option CensusInFlight) : (s.setFlight c).tanks = s.tanks := rfl
@[simp] theorem State.setFlight_probe (s : State) (c : Option CensusInFlight) : (s.setFlight c).probe = { s.probe with inFlight := c } := rfl
@[simp] theorem State.setFlight_journal (s : State) (c : Option CensusInFlight) : (s.setFlight c).journal = s.journal := rfl
@[simp] theorem State.setFlight_yard (s : State) (c : Option CensusInFlight) : (s.setFlight c).yard = s.yard := rfl
@[simp] theorem State.setFlight_trunk (s : State) (c : Option CensusInFlight) : (s.setFlight c).trunk = s.trunk := rfl
@[simp] theorem State.setFlight_yardMode (s : State) (c : Option CensusInFlight) : (s.setFlight c).yardMode = s.yardMode := rfl
@[simp] theorem State.setFlight_yardTarget (s : State) (c : Option CensusInFlight) : (s.setFlight c).yardTarget = s.yardTarget := rfl
@[simp] theorem State.setFlight_forwardDrops (s : State) (c : Option CensusInFlight) : (s.setFlight c).forwardDrops = s.forwardDrops := rfl

/-! ## Reading after an update -/

@[simp] theorem State.bay_setBay_same (s : State) (b : BayId) (y : Bay) : (s.setBay b y).bay b = y := by
  simp [State.bay]

@[simp] theorem State.bay_setBay_other (s : State) (b c : BayId) (y : Bay) (h : c ≠ b) :
    (s.setBay b y).bay c = s.bay c := by
  simp [State.bay, h]

@[simp] theorem State.tank_setTank_same (s : State) (t : TankId) (k : Tank) : (s.setTank t k).tank t = k := by
  simp [State.tank]

@[simp] theorem State.tank_setTank_other (s : State) (t u : TankId) (k : Tank) (h : u ≠ t) :
    (s.setTank t k).tank u = s.tank u := by
  simp [State.tank, h]

@[simp] theorem State.probeTank_setProbeTank_same (s : State) (t : TankId) (k : ProbeTank) :
    (s.setProbeTank t k).probeTank t = k := by
  simp [State.probeTank]

@[simp] theorem State.probeTank_setProbeTank_other (s : State) (t u : TankId) (k : ProbeTank) (h : u ≠ t) :
    (s.setProbeTank t k).probeTank u = s.probeTank u := by
  simp [State.probeTank, h]

/-- Reading a bay depends on the bays alone. -/
theorem State.bay_congr {s t : State} (h : s.bays = t.bays) (b : BayId) : s.bay b = t.bay b := by
  simp [State.bay, h]

/-- Reading a tank depends on the tanks alone. -/
theorem State.tank_congr {s t : State} (h : s.tanks = t.tanks) (k : TankId) : s.tank k = t.tank k := by
  simp [State.tank, h]

/-- Reading a probe entry depends on the controller alone. -/
theorem State.probeTank_congr {s t : State} (h : s.probe = t.probe) (k : TankId) : s.probeTank k = t.probeTank k := by
  simp [State.probeTank, h]

end Sys2Proof.Machine
end

