-- ==== Sys2Proof/Laws/Frames.lean ====
section
/-! SUPPORT. What each shared operation leaves as it was: for each, every field it does not write. -/

namespace Sys2Proof.Machine

/-! ## Plain updates -/

@[simp] theorem State.mapBays_frame (s : State) (f : Bay → Bay) :
    (s.mapBays f).pending = s.pending ∧ (s.mapBays f).powered = s.powered ∧
    (s.mapBays f).retentionMark = s.retentionMark ∧ (s.mapBays f).resetPending = s.resetPending ∧
    (s.mapBays f).lastStart = s.lastStart ∧ (s.mapBays f).straps = s.straps ∧ (s.mapBays f).station = s.station ∧
    (s.mapBays f).pod = s.pod ∧ (s.mapBays f).clock = s.clock ∧ (s.mapBays f).clockSet = s.clockSet ∧
    (s.mapBays f).subMs = s.subMs ∧ (s.mapBays f).podSettings = s.podSettings ∧
    (s.mapBays f).watchTimer = s.watchTimer ∧ (s.mapBays f).fleet = s.fleet ∧ (s.mapBays f).classes = s.classes ∧
    (s.mapBays f).tanks = s.tanks ∧ (s.mapBays f).probe = s.probe ∧ (s.mapBays f).journal = s.journal ∧
    (s.mapBays f).yard = s.yard ∧ (s.mapBays f).trunk = s.trunk ∧ (s.mapBays f).yardMode = s.yardMode ∧
    (s.mapBays f).yardTarget = s.yardTarget ∧ (s.mapBays f).forwardDrops = s.forwardDrops := by
  and_intros <;> rfl

@[simp] theorem State.drive_frame (s : State) (acts : List BusAct) :
    (s.drive acts).pending = s.pending ∧ (s.drive acts).powered = s.powered ∧
    (s.drive acts).retentionMark = s.retentionMark ∧ (s.drive acts).resetPending = s.resetPending ∧
    (s.drive acts).lastStart = s.lastStart ∧ (s.drive acts).straps = s.straps ∧ (s.drive acts).station = s.station ∧
    (s.drive acts).pod = s.pod ∧ (s.drive acts).clock = s.clock ∧ (s.drive acts).clockSet = s.clockSet ∧
    (s.drive acts).subMs = s.subMs ∧ (s.drive acts).podSettings = s.podSettings ∧
    (s.drive acts).watchTimer = s.watchTimer ∧ (s.drive acts).fleet = s.fleet ∧ (s.drive acts).classes = s.classes ∧
    (s.drive acts).bays = s.bays ∧ (s.drive acts).tanks = s.tanks ∧ (s.drive acts).journal = s.journal ∧
    (s.drive acts).yard = s.yard ∧ (s.drive acts).trunk = s.trunk ∧ (s.drive acts).yardMode = s.yardMode ∧
    (s.drive acts).yardTarget = s.yardTarget ∧ (s.drive acts).forwardDrops = s.forwardDrops := by
  and_intros <;> rfl

@[simp] theorem State.startCensusTimer_frame (s : State) :
    (s.startCensusTimer).pending = s.pending ∧ (s.startCensusTimer).powered = s.powered ∧
    (s.startCensusTimer).retentionMark = s.retentionMark ∧ (s.startCensusTimer).resetPending = s.resetPending ∧
    (s.startCensusTimer).lastStart = s.lastStart ∧ (s.startCensusTimer).straps = s.straps ∧
    (s.startCensusTimer).station = s.station ∧ (s.startCensusTimer).pod = s.pod ∧
    (s.startCensusTimer).clock = s.clock ∧ (s.startCensusTimer).clockSet = s.clockSet ∧
    (s.startCensusTimer).subMs = s.subMs ∧ (s.startCensusTimer).podSettings = s.podSettings ∧
    (s.startCensusTimer).watchTimer = s.watchTimer ∧ (s.startCensusTimer).fleet = s.fleet ∧
    (s.startCensusTimer).classes = s.classes ∧ (s.startCensusTimer).bays = s.bays ∧
    (s.startCensusTimer).tanks = s.tanks ∧ (s.startCensusTimer).journal = s.journal ∧
    (s.startCensusTimer).yard = s.yard ∧ (s.startCensusTimer).trunk = s.trunk ∧
    (s.startCensusTimer).yardMode = s.yardMode ∧ (s.startCensusTimer).yardTarget = s.yardTarget ∧
    (s.startCensusTimer).forwardDrops = s.forwardDrops := by
  and_intros <;> rfl

@[simp] theorem State.log_frame (s : State) (k : EventKind) :
    (s.log k).pending = s.pending ∧ (s.log k).powered = s.powered ∧ (s.log k).retentionMark = s.retentionMark ∧
    (s.log k).resetPending = s.resetPending ∧ (s.log k).lastStart = s.lastStart ∧ (s.log k).straps = s.straps ∧
    (s.log k).station = s.station ∧ (s.log k).pod = s.pod ∧ (s.log k).clock = s.clock ∧
    (s.log k).clockSet = s.clockSet ∧ (s.log k).subMs = s.subMs ∧ (s.log k).podSettings = s.podSettings ∧
    (s.log k).watchTimer = s.watchTimer ∧ (s.log k).fleet = s.fleet ∧ (s.log k).classes = s.classes ∧
    (s.log k).bays = s.bays ∧ (s.log k).tanks = s.tanks ∧ (s.log k).probe = s.probe ∧ (s.log k).yard = s.yard ∧
    (s.log k).trunk = s.trunk ∧ (s.log k).yardMode = s.yardMode ∧ (s.log k).yardTarget = s.yardTarget ∧
    (s.log k).forwardDrops = s.forwardDrops := by
  and_intros <;> rfl

@[simp] theorem State.changePod_frame (s : State) (p : PodState) :
    (s.changePod p).pending = s.pending ∧ (s.changePod p).powered = s.powered ∧
    (s.changePod p).retentionMark = s.retentionMark ∧ (s.changePod p).resetPending = s.resetPending ∧
    (s.changePod p).lastStart = s.lastStart ∧ (s.changePod p).straps = s.straps ∧
    (s.changePod p).station = s.station ∧ (s.changePod p).clock = s.clock ∧ (s.changePod p).clockSet = s.clockSet ∧
    (s.changePod p).subMs = s.subMs ∧ (s.changePod p).podSettings = s.podSettings ∧
    (s.changePod p).watchTimer = s.watchTimer ∧ (s.changePod p).fleet = s.fleet ∧
    (s.changePod p).classes = s.classes ∧ (s.changePod p).bays = s.bays ∧ (s.changePod p).tanks = s.tanks ∧
    (s.changePod p).probe = s.probe ∧ (s.changePod p).yard = s.yard ∧ (s.changePod p).trunk = s.trunk ∧
    (s.changePod p).yardMode = s.yardMode ∧ (s.changePod p).yardTarget = s.yardTarget ∧
    (s.changePod p).forwardDrops = s.forwardDrops := by
  and_intros <;> rfl

@[simp] theorem State.pushYardTx_frame (s : State) (e : TxEntry) :
    (s.pushYardTx e).pending = s.pending ∧ (s.pushYardTx e).powered = s.powered ∧
    (s.pushYardTx e).retentionMark = s.retentionMark ∧ (s.pushYardTx e).resetPending = s.resetPending ∧
    (s.pushYardTx e).lastStart = s.lastStart ∧ (s.pushYardTx e).straps = s.straps ∧
    (s.pushYardTx e).station = s.station ∧ (s.pushYardTx e).pod = s.pod ∧ (s.pushYardTx e).clock = s.clock ∧
    (s.pushYardTx e).clockSet = s.clockSet ∧ (s.pushYardTx e).subMs = s.subMs ∧
    (s.pushYardTx e).podSettings = s.podSettings ∧ (s.pushYardTx e).watchTimer = s.watchTimer ∧
    (s.pushYardTx e).fleet = s.fleet ∧ (s.pushYardTx e).classes = s.classes ∧ (s.pushYardTx e).bays = s.bays ∧
    (s.pushYardTx e).tanks = s.tanks ∧ (s.pushYardTx e).probe = s.probe ∧ (s.pushYardTx e).journal = s.journal ∧
    (s.pushYardTx e).trunk = s.trunk ∧ (s.pushYardTx e).yardMode = s.yardMode ∧
    (s.pushYardTx e).yardTarget = s.yardTarget ∧ (s.pushYardTx e).forwardDrops = s.forwardDrops := by
  and_intros <;> rfl

@[simp] theorem State.pushTrunkTx_frame (s : State) (e : TxEntry) :
    (s.pushTrunkTx e).pending = s.pending ∧ (s.pushTrunkTx e).powered = s.powered ∧
    (s.pushTrunkTx e).retentionMark = s.retentionMark ∧ (s.pushTrunkTx e).resetPending = s.resetPending ∧
    (s.pushTrunkTx e).lastStart = s.lastStart ∧ (s.pushTrunkTx e).straps = s.straps ∧
    (s.pushTrunkTx e).station = s.station ∧ (s.pushTrunkTx e).pod = s.pod ∧ (s.pushTrunkTx e).clock = s.clock ∧
    (s.pushTrunkTx e).clockSet = s.clockSet ∧ (s.pushTrunkTx e).subMs = s.subMs ∧
    (s.pushTrunkTx e).podSettings = s.podSettings ∧ (s.pushTrunkTx e).watchTimer = s.watchTimer ∧
    (s.pushTrunkTx e).fleet = s.fleet ∧ (s.pushTrunkTx e).classes = s.classes ∧ (s.pushTrunkTx e).bays = s.bays ∧
    (s.pushTrunkTx e).tanks = s.tanks ∧ (s.pushTrunkTx e).probe = s.probe ∧ (s.pushTrunkTx e).journal = s.journal ∧
    (s.pushTrunkTx e).yard = s.yard ∧ (s.pushTrunkTx e).yardMode = s.yardMode ∧
    (s.pushTrunkTx e).yardTarget = s.yardTarget ∧ (s.pushTrunkTx e).forwardDrops = s.forwardDrops := by
  and_intros <;> rfl

@[simp] theorem State.popYard_frame (s : State) :
    (s.popYard).pending = s.pending ∧ (s.popYard).powered = s.powered ∧ (s.popYard).retentionMark = s.retentionMark ∧
    (s.popYard).resetPending = s.resetPending ∧ (s.popYard).lastStart = s.lastStart ∧ (s.popYard).straps = s.straps ∧
    (s.popYard).station = s.station ∧ (s.popYard).pod = s.pod ∧ (s.popYard).clock = s.clock ∧
    (s.popYard).clockSet = s.clockSet ∧ (s.popYard).subMs = s.subMs ∧ (s.popYard).podSettings = s.podSettings ∧
    (s.popYard).watchTimer = s.watchTimer ∧ (s.popYard).fleet = s.fleet ∧ (s.popYard).classes = s.classes ∧
    (s.popYard).bays = s.bays ∧ (s.popYard).tanks = s.tanks ∧ (s.popYard).probe = s.probe ∧
    (s.popYard).journal = s.journal ∧ (s.popYard).trunk = s.trunk ∧ (s.popYard).yardMode = s.yardMode ∧
    (s.popYard).yardTarget = s.yardTarget ∧ (s.popYard).forwardDrops = s.forwardDrops := by
  and_intros <;> rfl

@[simp] theorem State.popTrunk_frame (s : State) :
    (s.popTrunk).pending = s.pending ∧ (s.popTrunk).powered = s.powered ∧
    (s.popTrunk).retentionMark = s.retentionMark ∧ (s.popTrunk).resetPending = s.resetPending ∧
    (s.popTrunk).lastStart = s.lastStart ∧ (s.popTrunk).straps = s.straps ∧ (s.popTrunk).station = s.station ∧
    (s.popTrunk).pod = s.pod ∧ (s.popTrunk).clock = s.clock ∧ (s.popTrunk).clockSet = s.clockSet ∧
    (s.popTrunk).subMs = s.subMs ∧ (s.popTrunk).podSettings = s.podSettings ∧
    (s.popTrunk).watchTimer = s.watchTimer ∧ (s.popTrunk).fleet = s.fleet ∧ (s.popTrunk).classes = s.classes ∧
    (s.popTrunk).bays = s.bays ∧ (s.popTrunk).tanks = s.tanks ∧ (s.popTrunk).probe = s.probe ∧
    (s.popTrunk).journal = s.journal ∧ (s.popTrunk).yard = s.yard ∧ (s.popTrunk).yardMode = s.yardMode ∧
    (s.popTrunk).yardTarget = s.yardTarget ∧ (s.popTrunk).forwardDrops = s.forwardDrops := by
  and_intros <;> rfl

@[simp] theorem State.queueReply_frame (s : State) (f : Frame) (r : Reply) :
    (s.queueReply f r).pending = s.pending ∧ (s.queueReply f r).powered = s.powered ∧
    (s.queueReply f r).retentionMark = s.retentionMark ∧ (s.queueReply f r).resetPending = s.resetPending ∧
    (s.queueReply f r).lastStart = s.lastStart ∧ (s.queueReply f r).straps = s.straps ∧
    (s.queueReply f r).station = s.station ∧ (s.queueReply f r).pod = s.pod ∧ (s.queueReply f r).clock = s.clock ∧
    (s.queueReply f r).clockSet = s.clockSet ∧ (s.queueReply f r).subMs = s.subMs ∧
    (s.queueReply f r).podSettings = s.podSettings ∧ (s.queueReply f r).watchTimer = s.watchTimer ∧
    (s.queueReply f r).fleet = s.fleet ∧ (s.queueReply f r).classes = s.classes ∧ (s.queueReply f r).bays = s.bays ∧
    (s.queueReply f r).tanks = s.tanks ∧ (s.queueReply f r).probe = s.probe ∧
    (s.queueReply f r).journal = s.journal ∧ (s.queueReply f r).yard = s.yard ∧
    (s.queueReply f r).yardMode = s.yardMode ∧ (s.queueReply f r).yardTarget = s.yardTarget ∧
    (s.queueReply f r).forwardDrops = s.forwardDrops := by
  and_intros <;> rfl

@[simp] theorem State.countDrop_frame (s : State) :
    (s.countDrop).pending = s.pending ∧ (s.countDrop).powered = s.powered ∧
    (s.countDrop).retentionMark = s.retentionMark ∧ (s.countDrop).resetPending = s.resetPending ∧
    (s.countDrop).lastStart = s.lastStart ∧ (s.countDrop).straps = s.straps ∧ (s.countDrop).station = s.station ∧
    (s.countDrop).pod = s.pod ∧ (s.countDrop).clock = s.clock ∧ (s.countDrop).clockSet = s.clockSet ∧
    (s.countDrop).subMs = s.subMs ∧ (s.countDrop).podSettings = s.podSettings ∧
    (s.countDrop).watchTimer = s.watchTimer ∧ (s.countDrop).fleet = s.fleet ∧ (s.countDrop).classes = s.classes ∧
    (s.countDrop).bays = s.bays ∧ (s.countDrop).tanks = s.tanks ∧ (s.countDrop).probe = s.probe ∧
    (s.countDrop).journal = s.journal ∧ (s.countDrop).yard = s.yard ∧ (s.countDrop).trunk = s.trunk ∧
    (s.countDrop).yardMode = s.yardMode ∧ (s.countDrop).yardTarget = s.yardTarget := by
  and_intros <;> rfl

@[simp] theorem State.restartWatch_frame (s : State) :
    (s.restartWatch).pending = s.pending ∧ (s.restartWatch).powered = s.powered ∧
    (s.restartWatch).retentionMark = s.retentionMark ∧ (s.restartWatch).resetPending = s.resetPending ∧
    (s.restartWatch).lastStart = s.lastStart ∧ (s.restartWatch).straps = s.straps ∧
    (s.restartWatch).station = s.station ∧ (s.restartWatch).pod = s.pod ∧ (s.restartWatch).clock = s.clock ∧
    (s.restartWatch).clockSet = s.clockSet ∧ (s.restartWatch).subMs = s.subMs ∧
    (s.restartWatch).podSettings = s.podSettings ∧ (s.restartWatch).fleet = s.fleet ∧
    (s.restartWatch).classes = s.classes ∧ (s.restartWatch).bays = s.bays ∧ (s.restartWatch).tanks = s.tanks ∧
    (s.restartWatch).probe = s.probe ∧ (s.restartWatch).journal = s.journal ∧ (s.restartWatch).yard = s.yard ∧
    (s.restartWatch).trunk = s.trunk ∧ (s.restartWatch).yardMode = s.yardMode ∧
    (s.restartWatch).yardTarget = s.yardTarget ∧ (s.restartWatch).forwardDrops = s.forwardDrops := by
  and_intros <;> rfl

@[simp] theorem State.settleWatch_frame (s : State) :
    (s.settleWatch).pending = s.pending ∧ (s.settleWatch).powered = s.powered ∧
    (s.settleWatch).retentionMark = s.retentionMark ∧ (s.settleWatch).resetPending = s.resetPending ∧
    (s.settleWatch).lastStart = s.lastStart ∧ (s.settleWatch).straps = s.straps ∧
    (s.settleWatch).station = s.station ∧ (s.settleWatch).pod = s.pod ∧ (s.settleWatch).clock = s.clock ∧
    (s.settleWatch).clockSet = s.clockSet ∧ (s.settleWatch).subMs = s.subMs ∧
    (s.settleWatch).podSettings = s.podSettings ∧ (s.settleWatch).fleet = s.fleet ∧
    (s.settleWatch).classes = s.classes ∧ (s.settleWatch).bays = s.bays ∧ (s.settleWatch).tanks = s.tanks ∧
    (s.settleWatch).probe = s.probe ∧ (s.settleWatch).journal = s.journal ∧ (s.settleWatch).yard = s.yard ∧
    (s.settleWatch).trunk = s.trunk ∧ (s.settleWatch).yardMode = s.yardMode ∧
    (s.settleWatch).yardTarget = s.yardTarget ∧ (s.settleWatch).forwardDrops = s.forwardDrops := by
  and_intros <;> rfl

@[simp] theorem State.addToBook_frame (s : State) (t : TankId) (d : Int) :
    (s.addToBook t d).pending = s.pending ∧ (s.addToBook t d).powered = s.powered ∧
    (s.addToBook t d).retentionMark = s.retentionMark ∧ (s.addToBook t d).resetPending = s.resetPending ∧
    (s.addToBook t d).lastStart = s.lastStart ∧ (s.addToBook t d).straps = s.straps ∧
    (s.addToBook t d).station = s.station ∧ (s.addToBook t d).pod = s.pod ∧ (s.addToBook t d).clock = s.clock ∧
    (s.addToBook t d).clockSet = s.clockSet ∧ (s.addToBook t d).subMs = s.subMs ∧
    (s.addToBook t d).podSettings = s.podSettings ∧ (s.addToBook t d).watchTimer = s.watchTimer ∧
    (s.addToBook t d).fleet = s.fleet ∧ (s.addToBook t d).classes = s.classes ∧ (s.addToBook t d).bays = s.bays ∧
    (s.addToBook t d).probe = s.probe ∧ (s.addToBook t d).journal = s.journal ∧ (s.addToBook t d).yard = s.yard ∧
    (s.addToBook t d).trunk = s.trunk ∧ (s.addToBook t d).yardMode = s.yardMode ∧
    (s.addToBook t d).yardTarget = s.yardTarget ∧ (s.addToBook t d).forwardDrops = s.forwardDrops := by
  and_intros <;> rfl

@[simp] theorem State.raiseCensus_frame (s : State) (t : TankId) (p : Purpose) :
    (s.raiseCensus t p).pending = s.pending ∧ (s.raiseCensus t p).powered = s.powered ∧
    (s.raiseCensus t p).retentionMark = s.retentionMark ∧ (s.raiseCensus t p).resetPending = s.resetPending ∧
    (s.raiseCensus t p).lastStart = s.lastStart ∧ (s.raiseCensus t p).straps = s.straps ∧
    (s.raiseCensus t p).station = s.station ∧ (s.raiseCensus t p).pod = s.pod ∧ (s.raiseCensus t p).clock = s.clock ∧
    (s.raiseCensus t p).clockSet = s.clockSet ∧ (s.raiseCensus t p).subMs = s.subMs ∧
    (s.raiseCensus t p).podSettings = s.podSettings ∧ (s.raiseCensus t p).watchTimer = s.watchTimer ∧
    (s.raiseCensus t p).fleet = s.fleet ∧ (s.raiseCensus t p).classes = s.classes ∧
    (s.raiseCensus t p).bays = s.bays ∧ (s.raiseCensus t p).tanks = s.tanks ∧
    (s.raiseCensus t p).journal = s.journal ∧ (s.raiseCensus t p).yard = s.yard ∧
    (s.raiseCensus t p).trunk = s.trunk ∧ (s.raiseCensus t p).yardMode = s.yardMode ∧
    (s.raiseCensus t p).yardTarget = s.yardTarget ∧ (s.raiseCensus t p).forwardDrops = s.forwardDrops := by
  and_intros <;> rfl

@[simp] theorem State.beginCensus_frame (s : State) (t : TankId) (p : Purpose) :
    (s.beginCensus t p).pending = s.pending ∧ (s.beginCensus t p).powered = s.powered ∧
    (s.beginCensus t p).retentionMark = s.retentionMark ∧ (s.beginCensus t p).resetPending = s.resetPending ∧
    (s.beginCensus t p).lastStart = s.lastStart ∧ (s.beginCensus t p).straps = s.straps ∧
    (s.beginCensus t p).station = s.station ∧ (s.beginCensus t p).pod = s.pod ∧ (s.beginCensus t p).clock = s.clock ∧
    (s.beginCensus t p).clockSet = s.clockSet ∧ (s.beginCensus t p).subMs = s.subMs ∧
    (s.beginCensus t p).podSettings = s.podSettings ∧ (s.beginCensus t p).watchTimer = s.watchTimer ∧
    (s.beginCensus t p).fleet = s.fleet ∧ (s.beginCensus t p).classes = s.classes ∧
    (s.beginCensus t p).bays = s.bays ∧ (s.beginCensus t p).tanks = s.tanks ∧
    (s.beginCensus t p).journal = s.journal ∧ (s.beginCensus t p).yard = s.yard ∧
    (s.beginCensus t p).trunk = s.trunk ∧ (s.beginCensus t p).yardMode = s.yardMode ∧
    (s.beginCensus t p).yardTarget = s.yardTarget ∧ (s.beginCensus t p).forwardDrops = s.forwardDrops := by
  and_intros <;> rfl

@[simp] theorem State.startSettle_frame (s : State) (t : TankId) :
    (s.startSettle t).pending = s.pending ∧ (s.startSettle t).powered = s.powered ∧
    (s.startSettle t).retentionMark = s.retentionMark ∧ (s.startSettle t).resetPending = s.resetPending ∧
    (s.startSettle t).lastStart = s.lastStart ∧ (s.startSettle t).straps = s.straps ∧
    (s.startSettle t).station = s.station ∧ (s.startSettle t).pod = s.pod ∧ (s.startSettle t).clock = s.clock ∧
    (s.startSettle t).clockSet = s.clockSet ∧ (s.startSettle t).subMs = s.subMs ∧
    (s.startSettle t).podSettings = s.podSettings ∧ (s.startSettle t).watchTimer = s.watchTimer ∧
    (s.startSettle t).fleet = s.fleet ∧ (s.startSettle t).classes = s.classes ∧ (s.startSettle t).bays = s.bays ∧
    (s.startSettle t).tanks = s.tanks ∧ (s.startSettle t).journal = s.journal ∧ (s.startSettle t).yard = s.yard ∧
    (s.startSettle t).trunk = s.trunk ∧ (s.startSettle t).yardMode = s.yardMode ∧
    (s.startSettle t).yardTarget = s.yardTarget ∧ (s.startSettle t).forwardDrops = s.forwardDrops := by
  and_intros <;> rfl

@[simp] theorem State.applyYardRate_frame (s : State) :
    (s.applyYardRate).pending = s.pending ∧ (s.applyYardRate).powered = s.powered ∧
    (s.applyYardRate).retentionMark = s.retentionMark ∧ (s.applyYardRate).resetPending = s.resetPending ∧
    (s.applyYardRate).lastStart = s.lastStart ∧ (s.applyYardRate).straps = s.straps ∧
    (s.applyYardRate).station = s.station ∧ (s.applyYardRate).pod = s.pod ∧ (s.applyYardRate).clock = s.clock ∧
    (s.applyYardRate).clockSet = s.clockSet ∧ (s.applyYardRate).subMs = s.subMs ∧
    (s.applyYardRate).podSettings = s.podSettings ∧ (s.applyYardRate).watchTimer = s.watchTimer ∧
    (s.applyYardRate).fleet = s.fleet ∧ (s.applyYardRate).classes = s.classes ∧ (s.applyYardRate).bays = s.bays ∧
    (s.applyYardRate).tanks = s.tanks ∧ (s.applyYardRate).probe = s.probe ∧ (s.applyYardRate).journal = s.journal ∧
    (s.applyYardRate).trunk = s.trunk ∧ (s.applyYardRate).yardTarget = s.yardTarget ∧
    (s.applyYardRate).forwardDrops = s.forwardDrops := by
  and_intros <;> rfl

@[simp] theorem State.tickClock_frame (s : State) :
    (s.tickClock).pending = s.pending ∧ (s.tickClock).powered = s.powered ∧
    (s.tickClock).retentionMark = s.retentionMark ∧ (s.tickClock).resetPending = s.resetPending ∧
    (s.tickClock).lastStart = s.lastStart ∧ (s.tickClock).straps = s.straps ∧ (s.tickClock).station = s.station ∧
    (s.tickClock).pod = s.pod ∧ (s.tickClock).clockSet = s.clockSet ∧ (s.tickClock).podSettings = s.podSettings ∧
    (s.tickClock).watchTimer = s.watchTimer ∧ (s.tickClock).fleet = s.fleet ∧ (s.tickClock).classes = s.classes ∧
    (s.tickClock).bays = s.bays ∧ (s.tickClock).tanks = s.tanks ∧ (s.tickClock).probe = s.probe ∧
    (s.tickClock).journal = s.journal ∧ (s.tickClock).yard = s.yard ∧ (s.tickClock).trunk = s.trunk ∧
    (s.tickClock).yardMode = s.yardMode ∧ (s.tickClock).yardTarget = s.yardTarget ∧
    (s.tickClock).forwardDrops = s.forwardDrops := by
  and_intros <;> rfl

@[simp] theorem State.elapse_frame (s : State) (ms : Nat) :
    (s.elapse ms).pending = s.pending ∧ (s.elapse ms).powered = s.powered ∧
    (s.elapse ms).retentionMark = s.retentionMark ∧ (s.elapse ms).resetPending = s.resetPending ∧
    (s.elapse ms).lastStart = s.lastStart ∧ (s.elapse ms).straps = s.straps ∧ (s.elapse ms).station = s.station ∧
    (s.elapse ms).pod = s.pod ∧ (s.elapse ms).clock = s.clock ∧ (s.elapse ms).clockSet = s.clockSet ∧
    (s.elapse ms).subMs = s.subMs ∧ (s.elapse ms).podSettings = s.podSettings ∧ (s.elapse ms).fleet = s.fleet ∧
    (s.elapse ms).classes = s.classes ∧ (s.elapse ms).journal = s.journal ∧ (s.elapse ms).yard = s.yard ∧
    (s.elapse ms).trunk = s.trunk ∧ (s.elapse ms).yardMode = s.yardMode ∧ (s.elapse ms).yardTarget = s.yardTarget ∧
    (s.elapse ms).forwardDrops = s.forwardDrops := by
  and_intros <;> rfl

@[simp] theorem State.endCensus_frame (s : State) (t : TankId) :
    (s.endCensus t).pending = s.pending ∧ (s.endCensus t).powered = s.powered ∧
    (s.endCensus t).retentionMark = s.retentionMark ∧ (s.endCensus t).resetPending = s.resetPending ∧
    (s.endCensus t).lastStart = s.lastStart ∧ (s.endCensus t).straps = s.straps ∧
    (s.endCensus t).station = s.station ∧ (s.endCensus t).pod = s.pod ∧ (s.endCensus t).clock = s.clock ∧
    (s.endCensus t).clockSet = s.clockSet ∧ (s.endCensus t).subMs = s.subMs ∧
    (s.endCensus t).podSettings = s.podSettings ∧ (s.endCensus t).watchTimer = s.watchTimer ∧
    (s.endCensus t).fleet = s.fleet ∧ (s.endCensus t).classes = s.classes ∧ (s.endCensus t).bays = s.bays ∧
    (s.endCensus t).tanks = s.tanks ∧ (s.endCensus t).journal = s.journal ∧ (s.endCensus t).yard = s.yard ∧
    (s.endCensus t).trunk = s.trunk ∧ (s.endCensus t).yardMode = s.yardMode ∧
    (s.endCensus t).yardTarget = s.yardTarget ∧ (s.endCensus t).forwardDrops = s.forwardDrops := by
  and_intros <;> rfl

@[simp] theorem State.disown_frame (s : State) (t : TankId) :
    (s.disown t).pending = s.pending ∧ (s.disown t).powered = s.powered ∧
    (s.disown t).retentionMark = s.retentionMark ∧ (s.disown t).resetPending = s.resetPending ∧
    (s.disown t).lastStart = s.lastStart ∧ (s.disown t).straps = s.straps ∧ (s.disown t).station = s.station ∧
    (s.disown t).pod = s.pod ∧ (s.disown t).clock = s.clock ∧ (s.disown t).clockSet = s.clockSet ∧
    (s.disown t).subMs = s.subMs ∧ (s.disown t).podSettings = s.podSettings ∧
    (s.disown t).watchTimer = s.watchTimer ∧ (s.disown t).fleet = s.fleet ∧ (s.disown t).classes = s.classes ∧
    (s.disown t).bays = s.bays ∧ (s.disown t).tanks = s.tanks ∧ (s.disown t).journal = s.journal ∧
    (s.disown t).yard = s.yard ∧ (s.disown t).trunk = s.trunk ∧ (s.disown t).yardMode = s.yardMode ∧
    (s.disown t).yardTarget = s.yardTarget ∧ (s.disown t).forwardDrops = s.forwardDrops := by
  and_intros <;> rfl

/-! ## Conditional and composed operations -/

@[simp] theorem State.logAll_frame (s : State) (ks : List EventKind) :
    (s.logAll ks).pending = s.pending ∧ (s.logAll ks).powered = s.powered ∧
    (s.logAll ks).retentionMark = s.retentionMark ∧ (s.logAll ks).resetPending = s.resetPending ∧
    (s.logAll ks).lastStart = s.lastStart ∧ (s.logAll ks).straps = s.straps ∧ (s.logAll ks).station = s.station ∧
    (s.logAll ks).pod = s.pod ∧ (s.logAll ks).clock = s.clock ∧ (s.logAll ks).clockSet = s.clockSet ∧
    (s.logAll ks).subMs = s.subMs ∧ (s.logAll ks).podSettings = s.podSettings ∧
    (s.logAll ks).watchTimer = s.watchTimer ∧ (s.logAll ks).fleet = s.fleet ∧ (s.logAll ks).classes = s.classes ∧
    (s.logAll ks).bays = s.bays ∧ (s.logAll ks).tanks = s.tanks ∧ (s.logAll ks).probe = s.probe ∧
    (s.logAll ks).yard = s.yard ∧ (s.logAll ks).trunk = s.trunk ∧ (s.logAll ks).yardMode = s.yardMode ∧
    (s.logAll ks).yardTarget = s.yardTarget ∧ (s.logAll ks).forwardDrops = s.forwardDrops := by
  unfold State.logAll
  induction ks generalizing s with
  | nil => simp
  | cons k ks ih => simpa using ih (s.log k)

@[simp] theorem State.tryYardRate_frame (s : State) :
    (s.tryYardRate).pending = s.pending ∧ (s.tryYardRate).powered = s.powered ∧
    (s.tryYardRate).retentionMark = s.retentionMark ∧ (s.tryYardRate).resetPending = s.resetPending ∧
    (s.tryYardRate).lastStart = s.lastStart ∧ (s.tryYardRate).straps = s.straps ∧
    (s.tryYardRate).station = s.station ∧ (s.tryYardRate).pod = s.pod ∧ (s.tryYardRate).clock = s.clock ∧
    (s.tryYardRate).clockSet = s.clockSet ∧ (s.tryYardRate).subMs = s.subMs ∧
    (s.tryYardRate).podSettings = s.podSettings ∧ (s.tryYardRate).watchTimer = s.watchTimer ∧
    (s.tryYardRate).fleet = s.fleet ∧ (s.tryYardRate).classes = s.classes ∧ (s.tryYardRate).bays = s.bays ∧
    (s.tryYardRate).tanks = s.tanks ∧ (s.tryYardRate).probe = s.probe ∧ (s.tryYardRate).journal = s.journal ∧
    (s.tryYardRate).trunk = s.trunk ∧ (s.tryYardRate).yardTarget = s.yardTarget ∧
    (s.tryYardRate).forwardDrops = s.forwardDrops := by
  unfold State.tryYardRate
  split <;> simp

@[simp] theorem State.setYardMode_frame (s : State) (m : RateMode) :
    (s.setYardMode m).pending = s.pending ∧ (s.setYardMode m).powered = s.powered ∧
    (s.setYardMode m).retentionMark = s.retentionMark ∧ (s.setYardMode m).resetPending = s.resetPending ∧
    (s.setYardMode m).lastStart = s.lastStart ∧ (s.setYardMode m).straps = s.straps ∧
    (s.setYardMode m).station = s.station ∧ (s.setYardMode m).pod = s.pod ∧ (s.setYardMode m).clock = s.clock ∧
    (s.setYardMode m).clockSet = s.clockSet ∧ (s.setYardMode m).subMs = s.subMs ∧
    (s.setYardMode m).podSettings = s.podSettings ∧ (s.setYardMode m).watchTimer = s.watchTimer ∧
    (s.setYardMode m).fleet = s.fleet ∧ (s.setYardMode m).classes = s.classes ∧ (s.setYardMode m).bays = s.bays ∧
    (s.setYardMode m).tanks = s.tanks ∧ (s.setYardMode m).probe = s.probe ∧ (s.setYardMode m).journal = s.journal ∧
    (s.setYardMode m).trunk = s.trunk ∧ (s.setYardMode m).forwardDrops = s.forwardDrops := by
  unfold State.setYardMode
  simp

@[simp] theorem State.runAtOnce_frame (s : State) :
    s.runAtOnce.pending = s.pending ∧ s.runAtOnce.powered = s.powered ∧
    s.runAtOnce.retentionMark = s.retentionMark ∧ s.runAtOnce.resetPending = s.resetPending ∧
    s.runAtOnce.lastStart = s.lastStart ∧ s.runAtOnce.straps = s.straps ∧
    s.runAtOnce.station = s.station ∧ s.runAtOnce.pod = s.pod ∧ s.runAtOnce.clock = s.clock ∧
    s.runAtOnce.clockSet = s.clockSet ∧ s.runAtOnce.subMs = s.subMs ∧
    s.runAtOnce.podSettings = s.podSettings ∧ s.runAtOnce.watchTimer = s.watchTimer ∧
    s.runAtOnce.fleet = s.fleet ∧ s.runAtOnce.classes = s.classes ∧ s.runAtOnce.bays = s.bays ∧
    s.runAtOnce.tanks = s.tanks ∧ s.runAtOnce.probe = s.probe ∧ s.runAtOnce.journal = s.journal ∧
    s.runAtOnce.trunk = s.trunk ∧ s.runAtOnce.forwardDrops = s.forwardDrops ∧ s.runAtOnce.yardTarget = .run ∧
    s.runAtOnce.yardMode = .run := by
  unfold State.runAtOnce
  simp
  unfold State.tryYardRate State.applyYardRate
  split <;> rfl

@[simp] theorem State.notice_frame (s : State) (b : BayId) (kind : Byte) (body : Body) (wake : Bool) :
    (s.notice b kind body wake).pending = s.pending ∧ (s.notice b kind body wake).powered = s.powered ∧
    (s.notice b kind body wake).retentionMark = s.retentionMark ∧
    (s.notice b kind body wake).resetPending = s.resetPending ∧ (s.notice b kind body wake).lastStart = s.lastStart ∧
    (s.notice b kind body wake).straps = s.straps ∧ (s.notice b kind body wake).station = s.station ∧
    (s.notice b kind body wake).pod = s.pod ∧ (s.notice b kind body wake).clock = s.clock ∧
    (s.notice b kind body wake).clockSet = s.clockSet ∧ (s.notice b kind body wake).subMs = s.subMs ∧
    (s.notice b kind body wake).podSettings = s.podSettings ∧ (s.notice b kind body wake).watchTimer = s.watchTimer ∧
    (s.notice b kind body wake).fleet = s.fleet ∧ (s.notice b kind body wake).classes = s.classes ∧
    (s.notice b kind body wake).bays = s.bays ∧ (s.notice b kind body wake).tanks = s.tanks ∧
    (s.notice b kind body wake).probe = s.probe ∧ (s.notice b kind body wake).journal = s.journal ∧
    (s.notice b kind body wake).trunk = s.trunk ∧ (s.notice b kind body wake).forwardDrops = s.forwardDrops := by
  unfold State.notice
  repeat' split
  all_goals simp

@[simp] theorem State.forwardToYard_frame (s : State) (f : Frame) :
    (s.forwardToYard f).pending = s.pending ∧ (s.forwardToYard f).powered = s.powered ∧
    (s.forwardToYard f).retentionMark = s.retentionMark ∧ (s.forwardToYard f).resetPending = s.resetPending ∧
    (s.forwardToYard f).lastStart = s.lastStart ∧ (s.forwardToYard f).straps = s.straps ∧
    (s.forwardToYard f).station = s.station ∧ (s.forwardToYard f).pod = s.pod ∧ (s.forwardToYard f).clock = s.clock ∧
    (s.forwardToYard f).clockSet = s.clockSet ∧ (s.forwardToYard f).subMs = s.subMs ∧
    (s.forwardToYard f).podSettings = s.podSettings ∧ (s.forwardToYard f).watchTimer = s.watchTimer ∧
    (s.forwardToYard f).fleet = s.fleet ∧ (s.forwardToYard f).classes = s.classes ∧
    (s.forwardToYard f).bays = s.bays ∧ (s.forwardToYard f).tanks = s.tanks ∧ (s.forwardToYard f).probe = s.probe ∧
    (s.forwardToYard f).journal = s.journal ∧ (s.forwardToYard f).trunk = s.trunk ∧
    (s.forwardToYard f).yardMode = s.yardMode ∧ (s.forwardToYard f).yardTarget = s.yardTarget := by
  unfold State.forwardToYard
  split <;> simp

@[simp] theorem State.forwardToTrunk_frame (s : State) (f : Frame) :
    (s.forwardToTrunk f).pending = s.pending ∧ (s.forwardToTrunk f).powered = s.powered ∧
    (s.forwardToTrunk f).retentionMark = s.retentionMark ∧ (s.forwardToTrunk f).resetPending = s.resetPending ∧
    (s.forwardToTrunk f).lastStart = s.lastStart ∧ (s.forwardToTrunk f).straps = s.straps ∧
    (s.forwardToTrunk f).station = s.station ∧ (s.forwardToTrunk f).pod = s.pod ∧
    (s.forwardToTrunk f).clock = s.clock ∧ (s.forwardToTrunk f).clockSet = s.clockSet ∧
    (s.forwardToTrunk f).subMs = s.subMs ∧ (s.forwardToTrunk f).podSettings = s.podSettings ∧
    (s.forwardToTrunk f).watchTimer = s.watchTimer ∧ (s.forwardToTrunk f).fleet = s.fleet ∧
    (s.forwardToTrunk f).classes = s.classes ∧ (s.forwardToTrunk f).bays = s.bays ∧
    (s.forwardToTrunk f).tanks = s.tanks ∧ (s.forwardToTrunk f).probe = s.probe ∧
    (s.forwardToTrunk f).journal = s.journal ∧ (s.forwardToTrunk f).yard = s.yard ∧
    (s.forwardToTrunk f).yardMode = s.yardMode ∧ (s.forwardToTrunk f).yardTarget = s.yardTarget := by
  unfold State.forwardToTrunk
  split <;> simp

@[simp] theorem State.wakeByRequest_frame (s : State) :
    (s.wakeByRequest).pending = s.pending ∧ (s.wakeByRequest).powered = s.powered ∧
    (s.wakeByRequest).retentionMark = s.retentionMark ∧ (s.wakeByRequest).resetPending = s.resetPending ∧
    (s.wakeByRequest).lastStart = s.lastStart ∧ (s.wakeByRequest).straps = s.straps ∧
    (s.wakeByRequest).station = s.station ∧ (s.wakeByRequest).clock = s.clock ∧
    (s.wakeByRequest).clockSet = s.clockSet ∧ (s.wakeByRequest).subMs = s.subMs ∧
    (s.wakeByRequest).podSettings = s.podSettings ∧
    (s.wakeByRequest).fleet = s.fleet ∧ (s.wakeByRequest).classes = s.classes ∧ (s.wakeByRequest).bays = s.bays ∧
    (s.wakeByRequest).tanks = s.tanks ∧ (s.wakeByRequest).probe = s.probe ∧ (s.wakeByRequest).trunk = s.trunk ∧
    (s.wakeByRequest).forwardDrops = s.forwardDrops := by
  unfold State.wakeByRequest
  split <;> simp

@[simp] theorem State.taken_frame (s : State) :
    (s.taken).pending = s.pending ∧ (s.taken).powered = s.powered ∧ (s.taken).retentionMark = s.retentionMark ∧
    (s.taken).resetPending = s.resetPending ∧ (s.taken).lastStart = s.lastStart ∧ (s.taken).straps = s.straps ∧
    (s.taken).station = s.station ∧ (s.taken).clock = s.clock ∧ (s.taken).clockSet = s.clockSet ∧
    (s.taken).subMs = s.subMs ∧ (s.taken).podSettings = s.podSettings ∧
    (s.taken).fleet = s.fleet ∧ (s.taken).classes = s.classes ∧ (s.taken).bays = s.bays ∧ (s.taken).tanks = s.tanks ∧
    (s.taken).probe = s.probe ∧ (s.taken).forwardDrops = s.forwardDrops := by
  unfold State.taken
  simp

@[simp] theorem State.reformStanding_frame (s : State) (t : TankId) :
    (s.reformStanding t).pending = s.pending ∧ (s.reformStanding t).powered = s.powered ∧
    (s.reformStanding t).retentionMark = s.retentionMark ∧ (s.reformStanding t).resetPending = s.resetPending ∧
    (s.reformStanding t).lastStart = s.lastStart ∧ (s.reformStanding t).straps = s.straps ∧
    (s.reformStanding t).station = s.station ∧ (s.reformStanding t).pod = s.pod ∧
    (s.reformStanding t).clock = s.clock ∧ (s.reformStanding t).clockSet = s.clockSet ∧
    (s.reformStanding t).subMs = s.subMs ∧ (s.reformStanding t).podSettings = s.podSettings ∧
    (s.reformStanding t).watchTimer = s.watchTimer ∧ (s.reformStanding t).fleet = s.fleet ∧
    (s.reformStanding t).classes = s.classes ∧ (s.reformStanding t).bays = s.bays ∧
    (s.reformStanding t).probe = s.probe ∧ (s.reformStanding t).yard = s.yard ∧
    (s.reformStanding t).trunk = s.trunk ∧ (s.reformStanding t).yardMode = s.yardMode ∧
    (s.reformStanding t).yardTarget = s.yardTarget ∧ (s.reformStanding t).forwardDrops = s.forwardDrops := by
  unfold State.reformStanding
  dsimp only
  split <;> simp

@[simp] theorem State.debit_frame (s : State) (t : TankId) (n : Nat) :
    (s.debit t n).pending = s.pending ∧ (s.debit t n).powered = s.powered ∧
    (s.debit t n).retentionMark = s.retentionMark ∧ (s.debit t n).resetPending = s.resetPending ∧
    (s.debit t n).lastStart = s.lastStart ∧ (s.debit t n).straps = s.straps ∧ (s.debit t n).station = s.station ∧
    (s.debit t n).pod = s.pod ∧ (s.debit t n).clock = s.clock ∧ (s.debit t n).clockSet = s.clockSet ∧
    (s.debit t n).subMs = s.subMs ∧ (s.debit t n).podSettings = s.podSettings ∧
    (s.debit t n).watchTimer = s.watchTimer ∧ (s.debit t n).fleet = s.fleet ∧ (s.debit t n).classes = s.classes ∧
    (s.debit t n).bays = s.bays ∧ (s.debit t n).probe = s.probe ∧ (s.debit t n).yard = s.yard ∧
    (s.debit t n).trunk = s.trunk ∧ (s.debit t n).yardMode = s.yardMode ∧ (s.debit t n).yardTarget = s.yardTarget ∧
    (s.debit t n).forwardDrops = s.forwardDrops := by
  unfold State.debit
  split <;> simp

@[simp] theorem State.startCensus_frame (s : State) :
    (s.startCensus).pending = s.pending ∧ (s.startCensus).powered = s.powered ∧
    (s.startCensus).retentionMark = s.retentionMark ∧ (s.startCensus).resetPending = s.resetPending ∧
    (s.startCensus).lastStart = s.lastStart ∧ (s.startCensus).straps = s.straps ∧
    (s.startCensus).station = s.station ∧ (s.startCensus).pod = s.pod ∧ (s.startCensus).clock = s.clock ∧
    (s.startCensus).clockSet = s.clockSet ∧ (s.startCensus).subMs = s.subMs ∧
    (s.startCensus).podSettings = s.podSettings ∧ (s.startCensus).watchTimer = s.watchTimer ∧
    (s.startCensus).fleet = s.fleet ∧ (s.startCensus).classes = s.classes ∧ (s.startCensus).bays = s.bays ∧
    (s.startCensus).tanks = s.tanks ∧ (s.startCensus).journal = s.journal ∧ (s.startCensus).yard = s.yard ∧
    (s.startCensus).trunk = s.trunk ∧ (s.startCensus).yardMode = s.yardMode ∧
    (s.startCensus).yardTarget = s.yardTarget ∧ (s.startCensus).forwardDrops = s.forwardDrops := by
  unfold State.startCensus
  repeat' split
  all_goals simp

@[simp] theorem State.settled_frame (s : State) :
    (s.settled).pending = s.pending ∧ (s.settled).powered = s.powered ∧ (s.settled).retentionMark = s.retentionMark ∧
    (s.settled).resetPending = s.resetPending ∧ (s.settled).lastStart = s.lastStart ∧ (s.settled).straps = s.straps ∧
    (s.settled).station = s.station ∧ (s.settled).pod = s.pod ∧ (s.settled).clock = s.clock ∧
    (s.settled).clockSet = s.clockSet ∧ (s.settled).subMs = s.subMs ∧ (s.settled).podSettings = s.podSettings ∧
    (s.settled).fleet = s.fleet ∧ (s.settled).classes = s.classes ∧ (s.settled).bays = s.bays ∧
    (s.settled).tanks = s.tanks ∧ (s.settled).journal = s.journal ∧ (s.settled).yard = s.yard ∧
    (s.settled).trunk = s.trunk ∧ (s.settled).yardMode = s.yardMode ∧ (s.settled).yardTarget = s.yardTarget ∧
    (s.settled).forwardDrops = s.forwardDrops := by
  unfold State.settled
  simp

@[simp] theorem State.chargeVehicle_frame (s : State) (tag : Nat) (limp : Bool) (cl : Nat) :
    (s.chargeVehicle tag limp cl).pending = s.pending ∧ (s.chargeVehicle tag limp cl).powered = s.powered ∧
    (s.chargeVehicle tag limp cl).retentionMark = s.retentionMark ∧
    (s.chargeVehicle tag limp cl).resetPending = s.resetPending ∧
    (s.chargeVehicle tag limp cl).lastStart = s.lastStart ∧ (s.chargeVehicle tag limp cl).straps = s.straps ∧
    (s.chargeVehicle tag limp cl).station = s.station ∧ (s.chargeVehicle tag limp cl).pod = s.pod ∧
    (s.chargeVehicle tag limp cl).clock = s.clock ∧ (s.chargeVehicle tag limp cl).clockSet = s.clockSet ∧
    (s.chargeVehicle tag limp cl).subMs = s.subMs ∧ (s.chargeVehicle tag limp cl).podSettings = s.podSettings ∧
    (s.chargeVehicle tag limp cl).watchTimer = s.watchTimer ∧ (s.chargeVehicle tag limp cl).classes = s.classes ∧
    (s.chargeVehicle tag limp cl).bays = s.bays ∧ (s.chargeVehicle tag limp cl).tanks = s.tanks ∧
    (s.chargeVehicle tag limp cl).probe = s.probe ∧ (s.chargeVehicle tag limp cl).yard = s.yard ∧
    (s.chargeVehicle tag limp cl).trunk = s.trunk ∧ (s.chargeVehicle tag limp cl).yardMode = s.yardMode ∧
    (s.chargeVehicle tag limp cl).yardTarget = s.yardTarget ∧
    (s.chargeVehicle tag limp cl).forwardDrops = s.forwardDrops := by
  unfold State.chargeVehicle
  split <;> simp

@[simp] theorem State.closeNotice_frame (s : State) (b : BayId) (c : CloseCause) :
    (s.closeNotice b c).pending = s.pending ∧ (s.closeNotice b c).powered = s.powered ∧
    (s.closeNotice b c).retentionMark = s.retentionMark ∧ (s.closeNotice b c).resetPending = s.resetPending ∧
    (s.closeNotice b c).lastStart = s.lastStart ∧ (s.closeNotice b c).straps = s.straps ∧
    (s.closeNotice b c).station = s.station ∧ (s.closeNotice b c).pod = s.pod ∧ (s.closeNotice b c).clock = s.clock ∧
    (s.closeNotice b c).clockSet = s.clockSet ∧ (s.closeNotice b c).subMs = s.subMs ∧
    (s.closeNotice b c).podSettings = s.podSettings ∧ (s.closeNotice b c).watchTimer = s.watchTimer ∧
    (s.closeNotice b c).fleet = s.fleet ∧ (s.closeNotice b c).classes = s.classes ∧
    (s.closeNotice b c).bays = s.bays ∧ (s.closeNotice b c).tanks = s.tanks ∧ (s.closeNotice b c).probe = s.probe ∧
    (s.closeNotice b c).journal = s.journal ∧ (s.closeNotice b c).trunk = s.trunk ∧
    (s.closeNotice b c).forwardDrops = s.forwardDrops := by
  unfold State.closeNotice
  split <;> simp

@[simp] theorem State.moveOn_frame (s : State) (b : BayId) (c : CloseCause) :
    (s.moveOn b c).pending = s.pending ∧ (s.moveOn b c).powered = s.powered ∧
    (s.moveOn b c).retentionMark = s.retentionMark ∧ (s.moveOn b c).resetPending = s.resetPending ∧
    (s.moveOn b c).lastStart = s.lastStart ∧ (s.moveOn b c).straps = s.straps ∧ (s.moveOn b c).station = s.station ∧
    (s.moveOn b c).pod = s.pod ∧ (s.moveOn b c).clock = s.clock ∧ (s.moveOn b c).clockSet = s.clockSet ∧
    (s.moveOn b c).subMs = s.subMs ∧ (s.moveOn b c).podSettings = s.podSettings ∧
    (s.moveOn b c).watchTimer = s.watchTimer ∧ (s.moveOn b c).fleet = s.fleet ∧ (s.moveOn b c).classes = s.classes ∧
    (s.moveOn b c).tanks = s.tanks ∧ (s.moveOn b c).probe = s.probe ∧ (s.moveOn b c).yard = s.yard ∧
    (s.moveOn b c).trunk = s.trunk ∧ (s.moveOn b c).yardMode = s.yardMode ∧
    (s.moveOn b c).yardTarget = s.yardTarget ∧ (s.moveOn b c).forwardDrops = s.forwardDrops := by
  unfold State.moveOn
  dsimp only
  repeat' split
  all_goals simp

@[simp] theorem State.complete_frame (s : State) (b : BayId) (c : CloseCause) :
    (s.complete b c).pending = s.pending ∧ (s.complete b c).powered = s.powered ∧
    (s.complete b c).retentionMark = s.retentionMark ∧ (s.complete b c).resetPending = s.resetPending ∧
    (s.complete b c).lastStart = s.lastStart ∧ (s.complete b c).straps = s.straps ∧
    (s.complete b c).station = s.station ∧ (s.complete b c).pod = s.pod ∧ (s.complete b c).clock = s.clock ∧
    (s.complete b c).clockSet = s.clockSet ∧ (s.complete b c).subMs = s.subMs ∧
    (s.complete b c).podSettings = s.podSettings ∧ (s.complete b c).watchTimer = s.watchTimer ∧
    (s.complete b c).classes = s.classes ∧ (s.complete b c).tanks = s.tanks ∧ (s.complete b c).trunk = s.trunk ∧
    (s.complete b c).forwardDrops = s.forwardDrops := by
  unfold State.complete
  simp

@[simp] theorem State.endIssue_frame (s : State) (c : CloseCause) (b : BayId) :
    (s.endIssue c b).pending = s.pending ∧ (s.endIssue c b).powered = s.powered ∧
    (s.endIssue c b).retentionMark = s.retentionMark ∧ (s.endIssue c b).resetPending = s.resetPending ∧
    (s.endIssue c b).lastStart = s.lastStart ∧ (s.endIssue c b).straps = s.straps ∧
    (s.endIssue c b).station = s.station ∧ (s.endIssue c b).pod = s.pod ∧ (s.endIssue c b).clock = s.clock ∧
    (s.endIssue c b).clockSet = s.clockSet ∧ (s.endIssue c b).subMs = s.subMs ∧
    (s.endIssue c b).podSettings = s.podSettings ∧ (s.endIssue c b).watchTimer = s.watchTimer ∧
    (s.endIssue c b).classes = s.classes ∧ (s.endIssue c b).tanks = s.tanks ∧ (s.endIssue c b).trunk = s.trunk ∧
    (s.endIssue c b).forwardDrops = s.forwardDrops := by
  unfold State.endIssue
  split <;> simp

@[simp] theorem State.idleStep_frame (s : State) :
    (s.idleStep).pending = s.pending ∧ (s.idleStep).powered = s.powered ∧
    (s.idleStep).retentionMark = s.retentionMark ∧ (s.idleStep).resetPending = s.resetPending ∧
    (s.idleStep).lastStart = s.lastStart ∧ (s.idleStep).straps = s.straps ∧ (s.idleStep).station = s.station ∧
    (s.idleStep).pod = s.pod ∧ (s.idleStep).clockSet = s.clockSet ∧ (s.idleStep).podSettings = s.podSettings ∧
    (s.idleStep).fleet = s.fleet ∧ (s.idleStep).classes = s.classes ∧ (s.idleStep).journal = s.journal ∧
    (s.idleStep).yard = s.yard ∧ (s.idleStep).trunk = s.trunk ∧ (s.idleStep).yardMode = s.yardMode ∧
    (s.idleStep).yardTarget = s.yardTarget ∧ (s.idleStep).forwardDrops = s.forwardDrops := by
  unfold State.idleStep
  dsimp only
  repeat' split
  all_goals simp

end Sys2Proof.Machine
end

