-- ==== Sys2Proof/Laws/Ops.lean ====
section
/-! SUPPORT. What the shared operations do, each said once: the forms of an event and of a request, clamping and field
reading, the bay transitions, logging, and the pieces of a completion. -/

namespace Sys2Proof.Machine

/-! ## Events and requests -/

/-- An event always answers a next state: its effect, ended as every event ends, or no change. -/
theorem event_eq (o : Bool) (e : State → State) (s : State) :
    event o e s = .next (if o then (e s).settled else s) := by
  unfold event; split <;> rfl

/-- An event with its occasion has its effect. -/
theorem event_occurs (e : State → State) (s : State) {o : Bool} (h : o = true) : event o e s = .next (e s).settled := by
  simp [event, h]

/-- What a request at the head of the trunk receive queue presupposes (R164, R167, R182). -/
theorem State.requestAt_some {s : State} {k : Byte} {f : Frame} (h : s.requestAt k = some f) :
    s.powered = true ∧ s.resetPending = false ∧ s.trunk.tx.length < 6 ∧ s.trunk.rx.head? = some f ∧ f.kind = k ∧
      (classifyTrunk s.station f = .request ∨ classifyTrunk s.station f = .broadcast) := by
  unfold State.requestAt State.trunkHead at h
  split at h
  · rename_i g hg
    split at h
    · rename_i hk
      split at hg
      · rename_i hc
        cases h
        simp only [Bool.and_eq_true, Bool.not_eq_true', decide_eq_true_eq] at hc
        exact ⟨hc.1.1, hc.1.2, hc.2, hg, hk.1, hk.2⟩
      · cases hg
    · cases h
  · cases h

/-- A request whose fields can be read is answered by its owner. -/
theorem request_served {α : Type} {kind : Byte} {parse : List Byte → Option α} {bad : State → ReplyFields}
    {serve : α → State → State × Reply} {s : State} {f : Frame} {a : α} (hf : s.requestAt kind = some f)
    (ha : parse f.payload.tail = some a) :
    request kind parse bad serve s = answered f (serve a s.taken).1 (serve a s.taken).2 := by
  simp [request, hf, event, serveRequest, answer, ha, answered, State.taken]

/-- A request whose length differs from its fields' is answered INVALID and changes nothing but the wake (R167). -/
theorem request_badLength {α : Type} {kind : Byte} {parse : List Byte → Option α} {bad : State → ReplyFields}
    {serve : α → State → State × Reply} {s : State} {f : Frame} (hf : s.requestAt kind = some f)
    (ha : parse f.payload.tail = none) :
    request kind parse bad serve s = answered f s.taken (.refuseWith .invalid (bad s.taken)) := by
  simp [request, hf, event, serveRequest, answer, ha, answered, State.taken]

/-- A request that is not there changes nothing. -/
theorem request_absent {α : Type} {kind : Byte} {parse : List Byte → Option α} {bad : State → ReplyFields}
    {serve : α → State → State × Reply} {s : State} (hf : s.requestAt kind = none) :
    request kind parse bad serve s = .next s := by
  simp [request, hf]

/-- Every outcome of a request: nothing, or a reply to a state that its owner left. -/
theorem request_cases {α : Type} (kind : Byte) (parse : List Byte → Option α) (bad : State → ReplyFields)
    (serve : α → State → State × Reply) (s : State) :
    request kind parse bad serve s = .next s ∨
      ∃ f, s.requestAt kind = some f ∧
        ((∃ a, parse f.payload.tail = some a ∧
            request kind parse bad serve s = answered f (serve a s.taken).1 (serve a s.taken).2) ∨
          (parse f.payload.tail = none ∧
            request kind parse bad serve s = answered f s.taken (.refuseWith .invalid (bad s.taken)))) := by
  cases hf : s.requestAt kind with
  | none => exact .inl (request_absent hf)
  | some f =>
    refine .inr ⟨f, rfl, ?_⟩
    cases ha : parse f.payload.tail with
    | some a => exact .inl ⟨a, rfl, request_served hf ha⟩
    | none => exact .inr ⟨rfl, request_badLength hf ha⟩

/-- The trunk transmit queue after a reply: one longer. -/
@[simp] theorem State.queueReply_length (s : State) (f : Frame) (r : Reply) :
    (s.queueReply f r).trunk.tx.length = s.trunk.tx.length + 1 := by
  simp [State.queueReply, State.pushTrunkTx]

/-! ## Clamping -/

theorem clampNat_ge {lo hi : Nat} (h : lo ≤ hi) (n : Nat) : lo ≤ clampNat lo hi n := by
  unfold clampNat; split <;> [skip; split] <;> omega

theorem clampNat_le {lo hi : Nat} (h : lo ≤ hi) (n : Nat) : clampNat lo hi n ≤ hi := by
  unfold clampNat; split <;> [skip; split] <;> omega

theorem clampNat_inside {lo hi n : Nat} (h1 : lo ≤ n) (h2 : n ≤ hi) : clampNat lo hi n = n := by
  unfold clampNat; split <;> [skip; split] <;> omega

theorem clampTemp_lawful (t : Int) : tempLawful (clampTemp t) := by
  unfold tempLawful clampTemp; split <;> [skip; split] <;> omega

theorem clampBook_bounds (b : Int) : -Config.bookMax ≤ clampBook b ∧ clampBook b ≤ Config.bookMax := by
  unfold clampBook; split <;> [skip; split] <;> simp only [Config.bookMax] at * <;> omega

theorem addAcc_le (acc x : Nat) : addAcc acc x ≤ Config.accMax := Nat.min_le_right ..

theorem addCount16_le (n : Nat) : addCount16 n ≤ 65535 := Nat.min_le_right ..

/-! ## Reading fields -/

/-- A field of n bytes is below 256 to the n. -/
theorem beNat_lt (bs : List Byte) : beNat bs < 256 ^ bs.length := by
  unfold beNat
  suffices h : ∀ (l : List Byte) (n k : Nat), n < 256 ^ k →
      l.foldl (fun n b => n * 256 + b.toNat) n < 256 ^ (k + l.length) by
    simpa using h bs 0 0 (by simp)
  intro l
  induction l with
  | nil => intro n k h; simpa using h
  | cons b l ih =>
    intro n k h
    have hb : b.toNat < 256 := b.isLt
    have := ih (n * 256 + b.toNat) (k + 1) (by rw [Nat.pow_succ]; omega)
    simpa [Nat.add_assoc, Nat.add_comm 1] using this

/-! ## Bay transitions -/

@[simp] theorem Bay.enter_state (st : BayState) (y : Bay) : (y.enter st).state = st := rfl
@[simp] theorem Bay.enter_slot (st : BayState) (y : Bay) : (y.enter st).slot = y.slot := rfl
@[simp] theorem Bay.enter_settings (st : BayState) (y : Bay) : (y.enter st).settings = y.settings := rfl
@[simp] theorem Bay.enter_grant (st : BayState) (y : Bay) : (y.enter st).grant = y.grant := rfl
@[simp] theorem Bay.order_state (o : ValveOrder) (y : Bay) : (y.order o).state = y.state := rfl
@[simp] theorem Bay.order_slot (o : ValveOrder) (y : Bay) : (y.order o).slot = { order := o, pending := true } := rfl
@[simp] theorem Bay.order_settings (o : ValveOrder) (y : Bay) : (y.order o).settings = y.settings := rfl
@[simp] theorem Bay.order_grant (o : ValveOrder) (y : Bay) : (y.order o).grant = y.grant := rfl

/-- A bay that enters a state keeps exactly the timers that run in it. -/
theorem Bay.enter_timers (st : BayState) (y : Bay) :
    (y.enter st).armTimer = keepTimer (st == .granted) y.armTimer ∧
      (y.enter st).noFlowTimer = keepTimer st.valveOpen y.noFlowTimer ∧
      (y.enter st).gapTimer = keepTimer st.valveOpen y.gapTimer ∧
      (y.enter st).closeTimer = keepTimer (st == .closing) y.closeTimer ∧
      (y.enter st).drainTimer = keepTimer (st == .draining) y.drainTimer := ⟨rfl, rfl, rfl, rfl, rfl⟩

/-- Entry to DRAINING or, with a drain time of 0, to IDLE. -/
theorem Bay.toDraining_state (y : Bay) :
    y.toDraining.state = if y.settings.drainTime = 0 then .idle else .draining := by
  unfold Bay.toDraining; split <;> rfl

/-- Entry to CLOSING, in full (R83). -/
theorem Bay.toClosing_eq (c : CloseCause) (y : Bay) :
    (y.toClosing c).state = .closing ∧ (y.toClosing c).cause = some c ∧
      (y.toClosing c).slot = { order := .shut, pending := true } ∧
      (y.toClosing c).closeTimer = some (seconds y.settings.closeTime) ∧ (y.toClosing c).noFlowTimer = none ∧
      (y.toClosing c).gapTimer = none ∧ (y.toClosing c).closing = 0 ∧ (y.toClosing c).shutSeen = false := by
  and_intros <;> rfl

/-! ## Logging -/

/-- Logging writes one record with the next number: at the end, or over the oldest (R154). -/
theorem Journal.logEvent_events (t : Stamp) (k : EventKind) (j : Journal) :
    (j.logEvent t k).events.records =
      (if j.events.records.length < j.eventSpan then j.events.records else j.events.records.tail) ++
        [{ seq := j.events.nextSeq, time := t, kind := k }] := by
  unfold Journal.logEvent
  dsimp only
  split
  · rfl
  · cases h : j.events.records <;> simp [Ring.push, Ring.dropOldest, h]

/-- Logging leaves the issue ring, the spans and the reservations. -/
@[simp] theorem Journal.logEvent_issues (t : Stamp) (k : EventKind) (j : Journal) :
    (j.logEvent t k).issues = j.issues ∧ (j.logEvent t k).issueSpan = j.issueSpan ∧
      (j.logEvent t k).reservations = j.reservations := by
  unfold Journal.logEvent; dsimp only; split <;> exact ⟨rfl, rfl, rfl⟩

@[simp] theorem State.log_issues (s : State) (k : EventKind) :
    (s.log k).journal.issues = s.journal.issues ∧ (s.log k).journal.issueSpan = s.journal.issueSpan ∧
      (s.log k).journal.reservations = s.journal.reservations := by
  simp [State.log]

@[simp] theorem State.logAll_issues (s : State) (ks : List EventKind) :
    (s.logAll ks).journal.issues = s.journal.issues ∧ (s.logAll ks).journal.issueSpan = s.journal.issueSpan ∧
      (s.logAll ks).journal.reservations = s.journal.reservations := by
  unfold State.logAll
  induction ks generalizing s with
  | nil => simp
  | cons k ks ih => simpa using ih (s.log k)

/-! ## Standing -/

/-- R134: after the standing is formed again it is the one the book and the levels give, and nothing else of the tank
has changed. -/
theorem State.reformStanding_tank (s : State) (t : TankId) :
    (s.reformStanding t).tank t =
      { s.tank t with standing := formStanding (s.tank t).settings (s.tank t).book } := by
  unfold State.reformStanding
  dsimp only
  split
  · rename_i h; rw [h]
  · rw [State.tank_congr (t := s.setTank t _) (State.log_frame _ _ |>.2.2.2.2.2.2.2.2.2.2.2.2.2.2.2.2.1)]
    simp

/-! ## Completion -/

/-- R85: a completion consumes one reservation and writes one issue record. -/
theorem State.complete_issues (s : State) (b : BayId) (c : CloseCause) :
    (s.complete b c).journal.reservations = s.journal.reservations - 1 ∧
      (s.complete b c).journal.issues.records =
        s.journal.issues.records ++
          [{ issueRecord b c ((s.bay b).finish c) s.stamp with seq := s.journal.issues.nextSeq }] := by
  have hm : ∀ (u : State) (k : CloseCause), (u.moveOn b k).journal.issues = u.journal.issues ∧
      (u.moveOn b k).journal.reservations = u.journal.reservations := by
    intro u k
    unfold State.moveOn
    dsimp only
    repeat' split
    all_goals simp
  have hc : ∀ (u : State) (g : Nat) (l : Bool) (n : Nat), (u.chargeVehicle g l n).journal.issues = u.journal.issues ∧
      (u.chargeVehicle g l n).journal.reservations = u.journal.reservations := by
    intro u g l n
    unfold State.chargeVehicle
    split <;> simp
  unfold State.complete
  simp only [hm, State.startSettle_frame, State.closeNotice_frame, hc, State.setJournal_journal]
  exact ⟨rfl, rfl⟩

/-- The bay a completion leaves, before it moves on: its cause recorded and its totalizers advanced (R85, R86). -/
def Bay.ended (cause : CloseCause) (y : Bay) : Bay := (y.finish cause).totalize

/-- R87, R99: where a bay goes from an ended issue. -/
def Bay.movedOn (cause : CloseCause) (y : Bay) : Bay :=
  if cause = .interrupted then y.toDraining
  else if y.flags.fault.isSome then y.toFaulted
  else if y.state = .granted then y.enter .idle
  else y.toDraining

/-- R87, R99: moving on changes that bay alone. -/
theorem State.moveOn_bays (s : State) (b : BayId) (c : CloseCause) :
    (s.moveOn b c).bays = s.bays.set b ((s.bay b).movedOn c) := by
  unfold State.moveOn Bay.movedOn
  dsimp only
  split
  · rfl
  · split <;> rename_i h
    · simp [h]
    · simp only [h, Option.isSome_none, Bool.false_eq_true, if_false]
      split <;> rfl

/-- R85 to R87: the bays after a completion. -/
theorem State.complete_bays (s : State) (b : BayId) (c : CloseCause) :
    (s.complete b c).bays = s.bays.set b (((s.bay b).ended c).movedOn c) := by
  unfold State.complete
  simp only [State.moveOn_bays, State.bay, State.startSettle_frame, State.closeNotice_frame, State.chargeVehicle_frame,
    State.setJournal_bays, State.setBay_bays, PerBay.get_set_same]
  cases b <;> rfl

/-- R85 to R87: the bay after a completion of its issue. -/
theorem State.complete_bay_same (s : State) (b : BayId) (c : CloseCause) :
    (s.complete b c).bay b = ((s.bay b).ended c).movedOn c := by
  simp [State.bay, State.complete_bays]

/-- A completion at one bay leaves the others. -/
theorem State.complete_bay_other (s : State) (b k : BayId) (c : CloseCause) (h : k ≠ b) :
    (s.complete b c).bay k = s.bay k := by
  simp [State.bay, State.complete_bays, h]

/-- R123: what a completion does to the Probe Bus Controller: it starts the settle timer of the tank drawn from. -/
theorem State.complete_probe (s : State) (b : BayId) (c : CloseCause) :
    (s.complete b c).probe = (s.startSettle (s.bay b).serving.tank).probe := by
  unfold State.complete State.startSettle
  simp only [State.moveOn_frame]
  simp [State.setProbeTank, State.probeTank, State.tank, Bay.serving, Bay.finish]
  rfl

/-- R86: what a completion does to the yard port: its CLOSE NOTICE, and nothing to the rate mode. -/
theorem State.complete_yard (s : State) (b : BayId) (c : CloseCause) :
    (s.complete b c).yardMode = s.yardMode ∧ (s.complete b c).yardTarget = s.yardTarget ∧
      (s.complete b c).yard = { s.yard with tx :=
        if c = .interrupted ∨ 8 ≤ s.yard.tx.length then s.yard.tx
        else s.yard.tx ++ [{ frame := { dst := readerStation b, src := s.station, kind := kindCloseNotice
                                        body := .closeNotice (s.bay b).serving.tag (clOf (s.bay b).net) c }
                             wake := false }] } := by
  unfold State.complete
  simp only [State.moveOn_frame, State.startSettle_frame]
  unfold State.closeNotice State.notice
  by_cases h : c = .interrupted
  · simp [h]
  · by_cases h8 : s.yard.tx.length < 8
    · have h9 : ¬8 ≤ s.yard.tx.length := by omega
      simp [h, h8, h9, Config.yardTxCap, State.pushYardTx, State.bay, Bay.totalize, Bay.finish, Bay.serving]
    · have h9 : 8 ≤ s.yard.tx.length := by omega
      simp [h, h8, h9, Config.yardTxCap]

/-- R49, R86: what a completion does to the Fleet Register: it charges the vehicle of the grant. -/
theorem State.complete_fleet (s : State) (b : BayId) (c : CloseCause) :
    (s.complete b c).fleet =
      match findTag (s.bay b).serving.tag s.fleet with
      | none => s.fleet
      | some v => setVehicle (v.chargeIssue (s.bay b).serving.limp (clOf (s.bay b).net) s.stamp).1 s.fleet := by
  unfold State.complete
  simp only [State.moveOn_frame, State.startSettle_frame, State.closeNotice_frame]
  unfold State.chargeVehicle
  simp only [Bay.finish, Bay.serving, State.setJournal_fleet, State.setBay_fleet]
  split <;> simp_all [State.stamp]

@[simp] theorem shownIf_true {α : Type} (x : α) : shownIf true x = some x := rfl

@[simp] theorem shownIf_false {α : Type} (x : α) : shownIf false x = none := rfl

/-- R171: the stored values stand in a reply exactly when it is CLAMPED. -/
theorem shownIf_eq_some {α : Type} (c : Bool) (x y : α) : shownIf c x = some y ↔ c = true ∧ x = y := by
  cases c <;> simp

/-- R29: a counter that keeps its remaining has the settings of the request. -/
@[simp] theorem Counter.keepFrom_settings (old : List Counter) (c : Counter) : (c.keepFrom old).settings = c.settings := by
  unfold Counter.keepFrom
  split <;> rfl

/-- R29: the settings a replace stores are the request's, with either keep-counters choice. -/
@[simp] theorem Vehicle.replaceBy_settings (old new : Vehicle) (keep : Bool) :
    (old.replaceBy new keep).settings = new.settings := by
  unfold Vehicle.replaceBy
  split
  · simp only [Vehicle.settings, List.map_map, Function.comp_def, Counter.keepFrom_settings]
    cases ho : old.allowance <;> cases hn : new.allowance <;> rfl
  · rfl

/-- R157: a release as one update: the oldest records gone, and the read pointer as far on within the ring. -/
theorem Ring.release_eq {α : Type} (base span n : Nat) (g : Machine.Ring α) (low : base ≤ g.readPtr)
    (high : g.readPtr < base + span) :
    Machine.Ring.release base span n g =
      { g with
        records := g.records.drop n
        readPtr := base + (g.readPtr - base + min n g.records.length) % span } := by
  induction n generalizing g with
  | zero =>
    have h1 : (g.readPtr - base) % span = g.readPtr - base := Nat.mod_eq_of_lt (by omega)
    have h2 : base + (g.readPtr - base) = g.readPtr := by omega
    simp [Machine.Ring.release, h1, h2]
  | succ n ih =>
    simp only [Machine.Ring.release]
    cases hr : g.records with
    | nil =>
      have : g.dropOldest base span = g := by simp [Machine.Ring.dropOldest, hr]
      rw [this, ih g low high, hr]
      simp
    | cons r t =>
      have hd : g.dropOldest base span = { g with records := t, readPtr := advancePtr base span g.readPtr } := by
        simp [Machine.Ring.dropOldest, hr]
      have hp : base ≤ advancePtr base span g.readPtr ∧ advancePtr base span g.readPtr < base + span ∧
          advancePtr base span g.readPtr - base = (g.readPtr - base + 1) % span := by
        unfold advancePtr
        split
        · refine ⟨by omega, by omega, ?_⟩
          rw [Nat.mod_eq_of_lt (by omega)]
          omega
        · refine ⟨by omega, by omega, ?_⟩
          rw [show g.readPtr - base + 1 = span by omega]
          simp
      rw [hd, ih _ hp.1 hp.2.1]
      simp [hp.2.2]
      congr 1
      omega

/-! ## The wake -/

/-- R178: a pod that is not in WATCH is not woken. -/
theorem State.taken_awake {s : State} (h : s.pod ≠ .watch) : s.taken = s.popTrunk := by
  unfold State.taken State.wakeByRequest
  exact if_neg h

/-- R171, R178: what a wake by a request makes of the state. -/
theorem State.taken_woken {s : State} (h : s.pod = .watch) :
    s.taken = ((s.popTrunk.changePod .inService).setYardMode .run).settleWatch := by
  unfold State.taken State.wakeByRequest
  exact if_pos h

/-! ## Timers -/

/-- A timer has run out exactly when it runs with no time left. -/
@[simp] theorem Timer.ranOut_iff (t : Timer) : t.ranOut = true ↔ t = some 0 := by simp [Timer.ranOut]

/-- A timer that stands anywhere else is no occasion. -/
theorem Timer.ranOut_false {t : Timer} (h : t ≠ some 0) : t.ranOut = false := by simpa [Timer.ranOut] using h

/-! ## Events in order -/

/-- Logging events one after another changes the journal alone, which is then the journal after them. -/
theorem State.logAll_eq (s : State) (ks : List EventKind) : s.logAll ks = { s with journal := s.journalAfter ks } := by
  induction ks generalizing s with
  | nil => rfl
  | cons k ks ih =>
    show (s.log k).logAll ks = _
    rw [ih]
    rfl

/-- The journal after two runs of events is the second run's after the first's. -/
theorem State.journalAfter_append (s : State) (ks ls : List EventKind) :
    s.journalAfter (ks ++ ls) = ls.foldl (fun j k => j.logEvent s.stamp k) (s.journalAfter ks) := by
  simp [State.journalAfter]

/-- Events leave the issue ring, its span and its reservations. -/
theorem State.journalAfter_issues (s : State) (ks : List EventKind) :
    (s.journalAfter ks).issues = s.journal.issues ∧ (s.journalAfter ks).issueSpan = s.journal.issueSpan ∧
      (s.journalAfter ks).reservations = s.journal.reservations := by
  have h := State.logAll_issues s ks
  rw [State.logAll_eq] at h
  exact h

/-- The event logged last is the newest of the ring. -/
theorem State.log_newest (s : State) (k : EventKind) : (s.log k).newestEvent k := by
  have h : (s.log k).journal.events.records.getLast? = some { seq := s.journal.events.nextSeq, time := s.stamp, kind := k } := by
    simp only [State.log, State.setJournal, Journal.logEvent]
    split <;> simp only [Ring.push, Ring.dropOldest] <;> (try split) <;> simp_all
  exact ⟨_, h, rfl⟩

/-! ## Records -/

/-- The hours step changes a record's counters, limp used and last hours, and no other field. -/
theorem Vehicle.applyHours_shape (ceiling : Nat) (hours : Option Nat) (v : Vehicle) :
    ∃ cs l h, (v.applyHours ceiling hours).1 = { v with counters := cs, limpUsed := l, lastHours := h } := by
  unfold Vehicle.applyHours
  split
  · exact ⟨_, _, _, rfl⟩
  · split
    · exact ⟨_, _, _, rfl⟩
    · split <;> exact ⟨_, _, _, rfl⟩

/-- The later of two records written under one tag stands. -/
theorem setVehicle_setVehicle {u v : Vehicle} (h : v.tag = u.tag) (l : List Vehicle) :
    setVehicle v (setVehicle u l) = setVehicle v l := by
  simp only [setVehicle, List.map_map]
  refine List.map_congr_left fun x _ => ?_
  by_cases hx : x.tag = u.tag <;> simp [hx, h]

/-- Parts of a start made one after another, split anywhere. -/
theorem State.makeParts_append (s : State) (ps qs : List (State → State)) :
    s.makeParts (ps ++ qs) = (s.makeParts ps).makeParts qs := by
  simp [State.makeParts]

/-! ## The decrement-and-test -/

/-- A counter lowered that stands above the floor does not rise; one that is OVERDUE stays so. -/
theorem Counter.lowered_overdue (basis : Basis) (n : Nat) (c : Counter) (h : -99999999 ≤ c.remaining)
    (ho : c.isOverdue = true) : (c.lowered basis n).isOverdue = true := by
  simp only [Counter.isOverdue, Counter.standing, Counter.lowered, beq_iff_eq] at ho ⊢
  split at ho
  · cases ho
  · split at ho
    · cases ho
    · split <;> (try split) <;> (try split) <;> first | rfl | (exfalso; simp only at *; omega)

/-- The decrement-and-test over a list of counters lowers those of the basis and logs their rises in order. -/
theorem decrementCounters_counters (basis : Basis) (n tag : Nat) (done : List Counter) (limp : Bool) (cs : List Counter) :
    (decrementCounters basis n tag done limp cs).1 = done ++ cs.map (Counter.lowered basis n) ∧
      (decrementCounters basis n tag done limp cs).2.2 = cs.flatMap (fun c =>
        if c.standing.rank < (c.lowered basis n).standing.rank then [.service tag c.code (c.lowered basis n).standing] else []) := by
  induction cs generalizing done limp with
  | nil => simp [decrementCounters]
  | cons c rest ih =>
    by_cases hb : c.basis = basis
    · simp [decrementCounters, hb, ih, Counter.lowered, riseEvent, Counter.decrease]
    · simp [decrementCounters, hb, ih, Counter.lowered]

/-- It clears limp used exactly when an overdue episode begins (R42). -/
theorem decrementCounters_limp (basis : Basis) (n tag : Nat) (done : List Counter) (limp : Bool) (cs : List Counter)
    (h : ∀ c ∈ cs, -99999999 ≤ c.remaining) :
    (anyOverdue (done ++ cs) = true → (decrementCounters basis n tag done limp cs).2.1 = limp) ∧
      (anyOverdue (done ++ cs) = false → (decrementCounters basis n tag done limp cs).2.1 =
        (limp && !anyOverdue (cs.map (Counter.lowered basis n)))) := by
  induction cs generalizing done limp with
  | nil => simp [decrementCounters, anyOverdue]
  | cons c rest ih =>
    have hr : ∀ c ∈ rest, -99999999 ≤ c.remaining := fun x hx => h x (List.mem_cons_of_mem _ hx)
    have hc := Counter.lowered_overdue basis n c (h c List.mem_cons_self)
    by_cases hb : c.basis = basis
    · have hl : c.decrease n = c.lowered basis n := by simp [Counter.lowered, Counter.decrease, hb]
      simp only [decrementCounters, hb, if_true, hl]
      generalize hd : c.lowered basis n = c' at *
      have ihT := fun l => (ih (done ++ [c']) l hr).1
      have ihF := fun l => (ih (done ++ [c']) l hr).2
      simp only [anyOverdue, List.any_append, List.any_cons, List.any_nil, List.map_cons, hd, Bool.or_false,
        Bool.or_eq_true, Bool.or_eq_false_iff] at ihT ihF ⊢
      refine ⟨?_, ?_⟩
      · intro hb2
        have h2 : (done.any Counter.isOverdue || (c.isOverdue || rest.any Counter.isOverdue)) = true := by simpa using hb2
        rw [h2]
        simp only [Bool.not_true, Bool.and_false, Bool.false_eq_true, if_false]
        apply ihT
        rcases hb2 with h3 | h3 | h3
        · exact .inl (.inl h3)
        · exact .inl (.inr (hc h3))
        · exact .inr h3
      · rintro ⟨h3, h4, h5⟩
        simp only [h3, h4, h5, Bool.or_false, Bool.not_false, Bool.and_true]
        by_cases ho : c'.isOverdue = true
        · rw [ihT _ (.inl (.inr ho))]
          simp [ho]
        · have ho' : c'.isOverdue = false := by simpa using ho
          rw [ihF _ ⟨⟨h3, ho'⟩, h5⟩]
          simp [ho']
    · have hl : c.lowered basis n = c := by simp [Counter.lowered, hb]
      simp only [decrementCounters, hb, if_false, List.map_cons, hl]
      have h1 : done ++ c :: rest = done ++ [c] ++ rest := by simp
      rw [h1]
      refine ⟨(ih (done ++ [c]) limp hr).1, fun hf => ?_⟩
      rw [(ih (done ++ [c]) limp hr).2 hf]
      have : c.isOverdue = false := by
        simp [anyOverdue] at hf
        simpa using hf.2.1
      simp [anyOverdue, this]

/-- The test of a counter is its standing. -/
theorem Counter.isOverdue_iff (c : Counter) : c.isOverdue = true ↔ c.standing = .overdue := by simp [Counter.isOverdue]

/-- A record after a decrease: its counters of the basis lowered, their rises logged in list order, and limp used cleared
exactly when an overdue episode begins (R40, R42). -/
theorem Vehicle.decrement_spec (basis : Basis) (n : Nat) (v : Vehicle) (h : ∀ c ∈ v.counters, -99999999 ≤ c.remaining) :
    ∃ limp, (v.decrement basis n).1 = { v with counters := v.counters.map (Counter.lowered basis n), limpUsed := limp } ∧
      (v.decrement basis n).2 = v.rises basis n ∧ (v.episodeBegins basis n → limp = false) ∧
      (¬v.episodeBegins basis n → limp = v.limpUsed) := by
  have h1 := decrementCounters_counters basis n v.tag [] v.limpUsed v.counters
  have h2 := decrementCounters_limp basis n v.tag [] v.limpUsed v.counters h
  refine ⟨(decrementCounters basis n v.tag [] v.limpUsed v.counters).2.1, ?_, h1.2, ?_, ?_⟩
  · simp only [Vehicle.decrement, h1.1, List.nil_append]
  · rintro ⟨ha, c, hc, ho⟩
    have hn : anyOverdue ([] ++ v.counters) = false := by
      simp only [List.nil_append, anyOverdue, List.any_eq_false, Counter.isOverdue_iff]
      exact ha
    rw [h2.2 hn]
    have : anyOverdue (v.counters.map (Counter.lowered basis n)) = true := by
      simp only [anyOverdue, List.any_map, List.any_eq_true]
      exact ⟨c, hc, by simpa [Counter.isOverdue_iff] using ho⟩
    simp [this]
  · intro hne
    by_cases ha : anyOverdue v.counters = true
    · exact h2.1 (by simpa using ha)
    · have ha' : anyOverdue v.counters = false := by simpa using ha
      rw [h2.2 (by simpa using ha')]
      have : anyOverdue (v.counters.map (Counter.lowered basis n)) = false := by
        by_contra hx
        apply hne
        simp only [anyOverdue, List.any_map, Bool.not_eq_false, List.any_eq_true] at hx
        obtain ⟨c, hc, ho⟩ := hx
        refine ⟨?_, c, hc, by simpa [Counter.isOverdue_iff] using ho⟩
        intro x hx' ho'
        simp only [anyOverdue, List.any_eq_false, Counter.isOverdue_iff] at ha'
        exact ha' x hx' ho'
      simp [this]

/-! ## The whole of a completion -/

/-- R49, R86: a completion charges the grant's vehicle and logs its SERVICE events. -/
theorem Vehicle.chargeIssue_spec (limpGrant : Bool) (net : Nat) (finish : Stamp) (v : Vehicle) :
    (v.chargeIssue limpGrant net finish).1 = { v with
      counters := v.counters.map (Counter.lowered .fuel net)
      limpUsed := (v.chargeIssue limpGrant net finish).1.limpUsed
      allowance := v.allowance.map (fun a => { a with usedCl := min (a.usedCl + net) 999999999 })
      armedAt := none, lastIssue := some finish } ∧
    (v.lawful → (v.chargeIssue limpGrant net finish).2 = v.rises .fuel net ∧
      (v.episodeBegins .fuel net → (v.chargeIssue limpGrant net finish).1.limpUsed = false) ∧
      (¬v.episodeBegins .fuel net →
        (v.chargeIssue limpGrant net finish).1.limpUsed = (v.limpUsed || (limpGrant && decide (100 ≤ net))))) := by
  let v1 : Vehicle := { v with limpUsed := v.limpUsed || (limpGrant && Config.limpUseCl ≤ net) }
  have hc := decrementCounters_counters .fuel net v1.tag [] v1.limpUsed v1.counters
  refine ⟨?_, fun h => ?_⟩
  · have h1 : (v1.decrement .fuel net).1.counters = v.counters.map (Counter.lowered .fuel net) := hc.1
    rw [← h1]
    rfl
  · obtain ⟨limp, h1, h2, h3, h4⟩ := v1.decrement_spec .fuel net (fun c hx => (h.2.2.2.2.2.1 c hx).2.2.2.2.1)
    refine ⟨h2, fun he => ?_, fun he => ?_⟩
    · show (v1.decrement .fuel net).1.limpUsed = false
      rw [h1]
      exact h3 he
    · show (v1.decrement .fuel net).1.limpUsed = _
      rw [h1]
      exact h4 he

/-- What an event leaves of the event ring and the overwrite count rests on them and on the layout alone. -/
theorem Journal.logEvent_congr {i j : Journal} (t : Stamp) (k : EventKind) (he : i.events = j.events)
    (ho : i.overwrites = j.overwrites) (hs : i.issueSpan = j.issueSpan) :
    (i.logEvent t k).events = (j.logEvent t k).events ∧ (i.logEvent t k).overwrites = (j.logEvent t k).overwrites ∧
      (i.logEvent t k).issueSpan = (j.logEvent t k).issueSpan := by
  unfold Journal.logEvent Journal.eventSpan
  by_cases h : j.events.records.length < Config.journalSlots - j.issueSpan <;> simp [he, ho, hs, h]

/-- The same for a run of events. -/
theorem Journal.logEvents_congr {i j : Journal} (t : Stamp) (ks : List EventKind) (he : i.events = j.events)
    (ho : i.overwrites = j.overwrites) (hs : i.issueSpan = j.issueSpan) :
    (ks.foldl (fun j k => j.logEvent t k) i).events = (ks.foldl (fun j k => j.logEvent t k) j).events ∧
      (ks.foldl (fun j k => j.logEvent t k) i).overwrites = (ks.foldl (fun j k => j.logEvent t k) j).overwrites := by
  induction ks generalizing i j with
  | nil => exact ⟨he, ho⟩
  | cons k ks ih =>
    have h := Journal.logEvent_congr t k he ho hs
    exact ih h.1 h.2.1 h.2.2

/-- R87: the BAY FAULT event of an ended issue, if it has one. -/
def Bay.faultEvents (b : BayId) (c : CloseCause) (y : Bay) : List EventKind :=
  if c = .interrupted then []
  else match y.flags.fault with
    | some q => [.bayFault b q]
    | none => []

/-- R87: what moving on does to the journal. -/
theorem State.moveOn_journal (s : State) (b : BayId) (c : CloseCause) :
    (s.moveOn b c).journal = s.journalAfter ((s.bay b).faultEvents b c) := by
  unfold State.moveOn Bay.faultEvents
  dsimp only
  split
  · rfl
  · cases (s.bay b).flags.fault with
    | some q => rfl
    | none =>
      dsimp only
      split <;> rfl

/-- R49, R85 to R87: the events a completion logs: the SERVICE events of its charge, then its BAY FAULT event. -/
theorem State.complete_events (s : State) (b : BayId) (c : CloseCause) :
    let g := (s.bay b).serving
    let rises := match findTag g.tag s.fleet with
      | none => []
      | some v => (v.chargeIssue g.limp (clOf (s.bay b).net) s.stamp).2
    let all := rises ++ ((s.bay b).finish c).faultEvents b c
    (s.complete b c).journal.events = (s.journalAfter all).events ∧
      (s.complete b c).journal.overwrites = (s.journalAfter all).overwrites := by
  intro g rises all
  let s1 := (s.setBay b ((s.bay b).finish c).totalize).setJournal
    (s.journal.writeIssue (issueRecord b c ((s.bay b).finish c) s.stamp))
  have h1 : (s1.chargeVehicle g.tag g.limp (clOf (s.bay b).net)).journal = s1.journalAfter rises := by
    show (match findTag g.tag s.fleet with
      | none => s1
      | some v => (s1.setFleet _).logAll _ : State).journal = _
    cases h : findTag g.tag s.fleet with
    | none => simp only [rises, h]; rfl
    | some v => simp only [rises, h, State.logAll_eq]; rfl
  have h2 : (s.complete b c).journal = s1.journalAfter all := by
    let x := ((s1.chargeVehicle g.tag g.limp (clOf (s.bay b).net)).closeNotice b c).startSettle g.tank
    have hb : x.bays = s1.bays := by simp [x]
    have hf : (x.bay b).faultEvents b c = ((s.bay b).finish c).faultEvents b c := by
      simp only [State.bay, hb]
      simp [s1, State.setJournal, State.setBay, Bay.faultEvents, Bay.totalize]
      rfl
    have ht : x.stamp = s1.stamp := by simp [x, State.stamp]
    have hj : x.journal = s1.journalAfter rises := by rw [← h1]; simp [x]
    show (x.moveOn b c).journal = _
    rw [State.moveOn_journal, hf, State.journalAfter_append, ← hj, ← ht]
    rfl
  rw [h2]
  exact Journal.logEvents_congr s.stamp all rfl rfl rfl

@[simp] theorem Bay.finish_serving (c : CloseCause) (y : Bay) : (y.finish c).serving = y.serving := rfl

/-- R49, R52, R80, R85 to R87, R123, R153: what a completion does, in full. -/
theorem State.complete_completed (s : State) (b : BayId) (c : CloseCause) (hc : c ≠ .interrupted) :
    IssueCompleted [] s (s.complete b c) b (s.bay b) c := by
  unfold IssueCompleted
  have he := State.complete_events s b c
  have hi := State.complete_issues s b c
  have hy := State.complete_yard s b c
  have hflag : ((s.bay b).finish c).flags =
      { (s.bay b).flags with
        afterRun := (s.bay b).flags.afterRun || decide ((s.bay b).settings.afterRunLimit * 1000000 < (s.bay b).closing) } := by
    have hb : (c != .interrupted) = true := by simpa using hc
    simp [Bay.finish, hb, Config.microPerLitre]
  have hfault : ((s.bay b).finish c).faultEvents b c = (match ((s.bay b).finish c).flags.fault with
      | some q => [.bayFault b q] | none => []) := by simp [Bay.faultEvents, hc]
  dsimp only at he ⊢
  rw [← hflag]
  refine ⟨?_, fun k hk => s.complete_bay_other b k c hk, hi.1, ?_, ?_, ?_, ?_, ?_⟩
  · rw [State.complete_bay_same]
    unfold Bay.movedOn
    rw [if_neg hc]
    show (if ((s.bay b).finish c).flags.fault.isSome then _ else if (s.bay b).state = .granted then _ else _) = _
    by_cases hf : ((s.bay b).finish c).flags.fault.isSome = true
    · simp [hf]
      rfl
    · by_cases hg : (s.bay b).state = .granted
      · simp [hf, hg]
        rfl
      · by_cases hd : (s.bay b).settings.drainTime = 0
        · simp [hf, hg, hd]
          show (if (s.bay b).settings.drainTime = 0 then _ else _) = _
          rw [if_pos hd]
          rfl
        · simp [hf, hg, hd]
          show (if (s.bay b).settings.drainTime = 0 then _ else _) = _
          rw [if_neg hd]
          rfl
  · rw [hi.2]
    simp only [issueRecord, averageTemp, Bay.finish_serving, hflag]
    rfl
  · intro hn
    refine ⟨?_, ?_⟩
    · rw [State.complete_fleet, hn]
    · rw [hn, hfault] at he
      exact he
  · intro v hv
    have hs := Vehicle.chargeIssue_spec (s.bay b).serving.limp (clOf (s.bay b).net) s.stamp v
    refine ⟨(v.chargeIssue (s.bay b).serving.limp (clOf (s.bay b).net) s.stamp).1, ?_, hs.1, fun hl => ?_⟩
    · rw [State.complete_fleet, hv]
    · obtain ⟨h1, h2, h3⟩ := hs.2 hl
      refine ⟨h2, h3, ?_⟩
      rw [hv] at he
      dsimp only at he
      rw [hfault, h1] at he
      exact he
  · rw [State.complete_probe]
    rfl
  · rw [hy.2.2]
    by_cases h8 : s.yard.tx.length < 8
    · have h9 : ¬8 ≤ s.yard.tx.length := by omega
      simp only [hc, h9, h8, or_self, if_true, if_false]
      rfl
    · have h9 : 8 ≤ s.yard.tx.length := by omega
      simp [h8, h9]

/-! ## Bytes -/

/-- A number over so many bytes has so many. -/
@[simp] theorem bytesBE_length (w n : Nat) : (bytesBE w n).length = w := by
  induction w generalizing n with
  | zero => rfl
  | succ w ih => simp [bytesBE, ih]

/-- One byte of a number. -/
theorem bytesBE_one (n : Nat) : bytesBE 1 n = [oneByte n] := by simp [bytesBE, oneByte]

/-- Fields laid out one after another. -/
theorem layout_append (a b : List (Nat × Nat)) : layout (a ++ b) = layout a ++ layout b := by simp [layout]

end Sys2Proof.Machine
end

