-- ==== Sys2Proof/WellFormed.lean ====
section
/-! DEFINITION. Well-formed commands. Types bound every operand but one: the characters of FRAME_RECEIVE. R161 and
R170 make a frame of at most 63 characters (start, four header characters, 56 of payload, two of check), and the event
ends one frame, so the list is neither empty nor longer than one frame. -/

namespace Sys2Proof

/-- The longest frame on the line, start character included (R160, R170). -/
abbrev maxFrameChars : Nat := 63

/-- A command is well-formed when its operands can name one event of the manual. -/
def Instr.wellFormed : Instr → Bool
  | .frameReceive _ chars => 0 < chars.length && chars.length ≤ maxFrameChars
  | _ => true

end Sys2Proof
end

