-- ==== Sys2Proof/Tests/Slice0.lean ====
section
/-! SUPPORT. Small tests of the model, and for every statement a state and operands that meet its hypotheses. -/

namespace Sys2Proof.Tests

set_option maxRecDepth 8000

open Sys2Proof Sys2Proof.Machine

/-! ## Small states -/

/-- A frame from station 200 to the pod. -/
def toPod (kind : Byte) (p : List Byte) : Frame := { dst := 17, src := 200, kind := kind, payload := p }

/-- A request at the head of the trunk receive queue. -/
def asked (kind : Byte) (p : List Byte) (s : State) : State := { s with trunk := { s.trunk with rx := [toPod kind p] } }

/-- A frame from a yard station to the pod. -/
def fromYard (src kind : Byte) (p : List Byte) : Frame := { dst := 17, src := src, kind := kind, payload := p }

/-- A frame at the head of the yard receive queue. -/
def yarded (src kind : Byte) (p : List Byte) (s : State) : State :=
  { s with yard := { s.yard with rx := [fromYard src kind p] } }

/-- A frame at the head of the trunk receive queue. -/
def trunked (f : Frame) (s : State) : State := { s with trunk := { s.trunk with rx := [f] } }

/-- Four frames that fill a transmit or receive queue's half. -/
def four : List Frame := [toPod 1 [], toPod 2 [], toPod 3 [], toPod 4 []]

/-- A full yard transmit queue. -/
def fullYard (s : State) : State := { s with yard := { s.yard with tx := (four ++ four).map Frame.forwarded } }

/-- A vehicle with an HOURS and a FUEL counter. -/
def truck : Vehicle :=
  { tag := 7, unit := 3, cls := 1, priority := 2, status := .active, fillCeiling := 50, permitted := none, allowance := none,
    counters := [{ code := 1, basis := .hours, interval := 100, grace := 10, remaining := 5 },
      { code := 2, basis := .fuel, interval := 100, grace := 10, remaining := 5 }],
    limpUsed := false, lastHours := some 40, armedAt := none, lastIssue := none }

/-- A grant to that vehicle at tank 1. -/
def grant7 : GrantCopy :=
  { tag := 7, unit := 3, limit := 50, reason := .fillCeiling, limp := false, notice := .noNotice, hours := none, tank := .t1,
    start := { time := 0, unset := false } }

/-- Bay 1 in a state, with every timer run out, that serves the grant. -/
def bayIn (st : BayState) : Bay :=
  { Bay.cold .t1 with
    state := st, grant := some grant7, cause := some .nozzle, armTimer := some 0, noFlowTimer := some 0
    gapTimer := some 0, closeTimer := some 0, drainTimer := some 0, slot := { order := .shut, pending := false } }

/-- A pod in service with one vehicle and stock in tank 1. -/
def pod1 : State :=
  { State.reset with
    pod := .inService, clockSet := true, fleet := [truck]
    tanks := { State.reset.tanks with t1 := { Tank.cold 16 with book := 60000000000, stockSet := true, standing := .normal } } }

/-- The same with bay 1 in a state. -/
def podIn (st : BayState) : State := pod1.setBay .b1 (bayIn st)

/-- A tank 1 delivery in a phase. -/
def delivery (ph : DeliveryPhase) : Delivery :=
  { phase := ph, docket := 100, preNet := some 5, window := if ph = .completing then none else some 0, expired := false }

/-- The same pod with that delivery. -/
def podDelivery (ph : DeliveryPhase) : State := pod1.setTank .t1 { pod1.tank .t1 with delivery := some (delivery ph) }

/-- A census of tank 1 in flight. -/
def flight (a : Attempt) (own : Bool) : CensusInFlight :=
  { tank := .t1, purpose := .post, attempt := a, wait := none, address := 16, stillAtStart := true, own := own }

/-- Whether an outcome is a next state with a property. -/
def nextWith (o : Host.Outcome State Fault Refusal) (p : State → Bool) : Bool :=
  match o with
  | .next t => p t
  | _ => false

/-! ## WellFormed -/

theorem test_wellFormed_rejects_no_character : (Instr.frameReceive .yard []).wellFormed = false := by decide
theorem test_wellFormed_rejects_64_characters :
    (Instr.frameReceive .yard (List.replicate 64 (goodChar 0))).wellFormed = false := by decide
theorem test_wellFormed_accepts_63_characters :
    (Instr.frameReceive .trunk (List.replicate 63 (goodChar 0))).wellFormed = true := by decide
theorem test_no_word_spells_a_command : decodeTableWord 8 0 = none := by decide

/-! ## What single commands do -/

theorem test_crc : crc16 [0x31, 0x32, 0x33, 0x34, 0x35, 0x36, 0x37, 0x38, 0x39] = 0x29B1 := by decide
theorem test_net_increment_at_35_degrees : netIncrement 10000000 350 830 = 9834000 := by decide
theorem test_bit_rate_of_the_default : (PodSettings.cold.yardRate.bitRate) = { num := 14745600, den := 768 } := by decide
theorem test_strap_between_points :
    strapVolume [{ level := 0, litres := 0 }, { level := 1000, litres := 500 }] 250 = some (125000000, false) := by decide
theorem test_frame_is_received :
    nextWith (exec (.frameReceive .trunk (goodFrame (toPod 0x39 [9]))) State.reset)
      (fun t => t.trunk.rx == [toPod 0x39 [9]] && t.trunk.flags == PortFlags.clear) = true := by decide
theorem test_start_character_opens :
    nextWith (exec (.startCharacter .yard false) State.reset) (fun t => t.yard.receiver == .inside []) = true := by decide
theorem test_gap_sets_framing :
    nextWith (exec (.characterGapTimeout .yard) { State.reset with yard := { State.reset.yard with receiver := .inside [1] } })
      (fun t => t.yard.flags.framing && t.yard.receiver == .hunting) = true := by decide
theorem test_slot_is_sent_first :
    nextWith (exec (.transmitFrame .yard .take) (fullYard State.reset))
      (fun t => t.yard.sending == some (.slotFrame { dst := 248, src := 17, kind := 0x18, body := .valveOrder .shut })) = true := by
  decide
theorem test_tag_is_granted :
    nextWith (exec .tag (yarded 240 0x10 [0, 0, 0, 7] (podIn .idle)))
      (fun t => (t.bay .b1).state == .granted && (t.bay .b1).grant.map (·.limit) == some 50
        && t.journal.reservations == 1 && t.yard.tx.length == 1) = true := by decide
theorem test_tag_unknown_is_refused :
    nextWith (exec .tag (yarded 240 0x10 [0, 0, 0, 9] (podIn .idle)))
      (fun t => (t.bay .b1).state == .idle
        && t.journal.events.records.map (·.kind) == [.refusal .b1 9 .unknownTag]) = true := by decide
theorem test_tally_lifted_opens_the_valve :
    nextWith (exec .tally (yarded 244 0x11 [0, 0, 0, 250, 0x80, 0, 1, 0] (podIn .granted)))
      (fun t => (t.bay .b1).state == .flowing && (t.bay .b1).slot == { order := .full, pending := true }) = true := by decide
theorem test_tally_is_debited :
    nextWith (exec .tally (yarded 244 0x11 [0, 10, 0, 250, 0x80, 0, 1, 0] (podIn .flowing)))
      (fun t => (t.bay .b1).gross == 1000000 && (t.bay .b1).net == 1000000 && (t.tank .t1).book == 59999000000
        && (t.bay .b1).flow == 4000) = true := by decide
theorem test_valve_fault_closes :
    nextWith (exec .valveStatus (yarded 248 0x12 [2, 1] (podIn .flowing)))
      (fun t => (t.bay .b1).state == .closing && (t.bay .b1).cause == some .valve) = true := by decide
theorem test_arm_timeout :
    nextWith (exec (.armTimerExpiry .b1) (podIn .granted))
      (fun t => (t.bay .b1).state == .idle && t.journal.issues.records.map (·.cause) == [.armTimeout]) = true := by decide
theorem test_drain_ends :
    nextWith (exec (.drainTimerExpiry .b1) (podIn .draining)) (fun t => (t.bay .b1).state == .idle) = true := by decide
theorem test_census_timer_starts_a_census :
    nextWith (exec .censusTimerExpiry { State.reset with probe := { State.reset.probe with censusTimer := 0 } })
      (fun t => t.probe.inFlight.map (·.tank) == some .t1 && (t.probeTank .t2).want == some .periodic) = true := by decide
theorem test_census_reading_is_taken :
    nextWith (exec (.censusTransaction { b0 := 0x27, b1 := 0x10, b2 := 0, b3 := 150, b4 := 0, b5 := 0, b6 := 0, b7 := 0xFF })
        { pod1 with probe := { pod1.probe with inFlight := some (flight .first false) } })
      (fun t => (t.tank .t1).lastGoodTemp == some 150
        && (t.tank .t1).latestCensus.bind (·.reading) == some { level := 10000, temp := 150, water := 0 }) = true := by decide
theorem test_pod_start :
    nextWith (exec .podStart (asked 0x27 [5] State.reset))
      (fun t => t.pod == .blank && t.trunk.tx.map (·.frame.kind) == [0xA7]) = true := by decide
theorem test_time_set :
    nextWith (exec .timeSet (asked 0x2B [5, 0, 0, 1, 0] State.reset)) (fun t => t.clock == 256 && t.clockSet) = true := by
  decide
theorem test_fleet_delete :
    nextWith (exec .fleetDelete (asked 0x21 [5, 0, 0, 0, 7] pod1)) (fun t => t.fleet.isEmpty) = true := by decide
theorem test_delivery_open :
    nextWith (exec .deliveryOpen (asked 0x32 [5, 1, 0, 0, 0, 9] pod1))
      (fun t => (t.tank .t1).receiving && t.probe.inFlight.map (·.own) == some true) = true := by decide
theorem test_link_clear :
    nextWith (exec .linkClear (asked 0x38 [5, 1, 0] { State.reset with forwardDrops := 3 })) (fun t => t.forwardDrops == 0)
      = true := by decide
theorem test_main_power_loss :
    nextWith (exec .mainPowerLoss pod1) (fun t => !t.powered && t.fleet == [truck]) = true := by decide
theorem test_warm_start_ends_an_issue :
    nextWith (exec (.warmStart ⟨17, .whole⟩) { (podIn .flowing) with journal := { Journal.cold with reservations := 1 } })
      (fun t => (t.bay .b1).state == .draining && t.journal.issues.records.map (·.cause) == [.interrupted]
        && t.journal.reservations == 0) = true := by decide

/-! ## Witnesses: the step and the laws -/

/-- A pod that serves an issue at bay 1, with a command waiting. -/
def live : State :=
  { (podIn .granted) with
    pending := [.podClockTick], fleet := [{ truck with armedAt := some .b1 }]
    journal := { Journal.cold with reservations := 1 }
    bays := { State.reset.bays with b1 :=
      { Bay.cold .t1 with state := .granted, grant := some grant7, armTimer := some 90000
                          settings := { BaySettings.cold .t1 with enabled := true } } } }

theorem test_witness_EmptyQueue : State.reset.pending = [] ∧ State.reset.powered = true ∧
    ({ State.reset with subMs := 999 } : State).pending = [] := by decide

theorem test_witness_Unpowered : ({ State.reset with powered := false } : State).powered = false ∧
    (∀ x, Instr.tag ≠ .coldStart x) ∧ (∀ w, Instr.tag ≠ .warmStart w) ∧ Instr.tag ≠ .backupSupplyLoss := by
  refine ⟨by decide, ?_, ?_, by decide⟩ <;> intro _ h <;> cases h

theorem test_witness_EventEnds :
    (live.probe.inFlight = none ∧ live.watchReady = false ∧ (live.raiseCensus .t1 .pre).probe.inFlight = none ∧
      ((live.raiseCensus .t1 .pre).probeTank .t1).want = some .pre ∧
      ((live.raiseCensus .t1 .pre).probeTank (otherTank .t1)).want = none) ∧
    (((live.raiseCensus .t1 .pre).raiseCensus .t2 .post).probeTank .t1).want = some .pre ∧
    ((live.raiseCensus .t1 .pre).raiseCensus .t2 .post).probe.lastServed = otherTank .t1 ∧
    (pod1.mapBays (fun y => { y with slot := { order := .shut, pending := false } })).watchReady = true ∧
    (live.setFlight (some (flight .first false))).probe.inFlight = some (flight .first false) := by decide

theorem test_witness_laws_of_a_live_pod_steps : ∃ t, step live = .next t := ⟨_, rfl⟩

theorem test_witness_laws_of_a_live_pod :
    QueuesBounded live ∧ FleetLaw live ∧ RecordsLaw live ∧ ValveLaw live ∧ TimersLaw live ∧ AccumulatorLaw live ∧
      ArmedLaw live ∧ JournalLaw live ∧ SequenceLaw live ∧ ReceivingLaw live ∧ TankLaw live ∧ StrappingLaw live ∧
      CensusLaw live ∧ BlankLaw live ∧ WatchLaw live ∧ SettingsLaw live := by
  have hf : live.fleet = [{ truck with armedAt := some .b1 }] := rfl
  have hl : ∀ t x, (live.tank t).lastGoodTemp = some x → tempLawful x := by intro t x h; cases t <;> cases h
  refine ⟨?_, ?_, ?_, ?_, ?_, ⟨?_, hl⟩, ⟨?_, ?_⟩, ?_, ?_, ?_, ?_, ?_, ⟨?_, ?_, ?_⟩, ?_, ⟨?_, ?_⟩, ?_⟩
  · exact ⟨by decide, by decide, by decide, by decide⟩
  · exact ⟨by decide, by rw [hf]; simp, by rw [hf]; simp [truck]⟩
  · intro v hv
    rw [hf] at hv
    obtain rfl := List.mem_singleton.mp hv
    refine ⟨by decide, by decide, by decide, by decide, by decide, ?_, ?_, ?_, ?_⟩
    · simp [truck, Counter.lawful]
    · intro a h; cases h
    · intro a h; cases h
    · intro h e; cases e; decide
  · intro b; cases b <;> exact .inl rfl
  · intro b; cases b <;> (unfold Bay.timersLawful; decide)
  · intro b
    unfold Bay.accumulatorsLawful
    cases b <;> and_intros <;> first | decide | (intro t h; cases h)
  · intro v hv b
    rw [hf] at hv
    obtain rfl := List.mem_singleton.mp hv
    cases b <;> decide
  · intro b h
    refine ⟨{ truck with armedAt := some .b1 }, by rw [hf]; simp, ?_⟩
    cases b <;> revert h <;> decide
  · unfold JournalLaw Machine.Ring.lawful
    decide
  · exact ⟨⟨by decide, by intro k r h; cases h⟩, ⟨by decide, by intro k r h; cases h⟩⟩
  · intro t b; cases t <;> cases b <;> decide
  · intro t
    cases t
    · exact ⟨by simp [TankSettings.lawful, live, podIn, pod1, State.tank, PerTank.get, Tank.cold, TankSettings.cold,
        State.setBay], by decide, by decide, by decide, by decide⟩
    · exact ⟨by simp [TankSettings.lawful, live, podIn, pod1, State.tank, PerTank.get, Tank.cold, TankSettings.cold,
        State.setBay, State.reset], by decide, by decide, by decide, by decide⟩
  · intro t; cases t <;> exact trivial
  · intro _ t; cases t <;> decide
  · intro t; cases t <;> decide
  · intro c h; cases h
  · intro h; exact absurd h (by decide)
  · intro _; decide
  · intro h; exact absurd h (by decide)
  · refine ⟨?_, ?_, ?_, by decide⟩
    · intro b
      unfold BaySettings.lawful
      cases b <;> decide
    · unfold PodSettings.lawful Rate.lawful
      decide
    · intro c
      simp [live, podIn, pod1, State.setBay, State.reset, ClassEntry.lawful]

/-! ## Witnesses: quantities, starts, time -/

theorem test_witness_ConvergentRounding : (0 : Int) < 2 ∧ (2 * ((5 : Int) - 5 / 2 * 2) = 2) ∧ (5 : Int) / 2 % 2 = 0 ∧
    (7 : Int) / 2 % 2 = 1 ∧ 2 * ((4 : Int) - 4 / 3 * 3) < 3 ∧ (3 : Int) < 2 * (5 - 5 / 3 * 3) := by decide
theorem test_witness_CorrectionFactor : 2000 ≤ 2000 ∧ (-300 : Int) ≤ -300 ∧ (900 : Int) ≤ 900 := by decide
theorem test_witness_Starts :
    ({ State.reset with retentionMark := false } : State).retentionMark = false ∧ State.reset.retentionMark = true ∧
      State.reset.powered = true ∧ State.reset.pod ≠ .watch ∧ State.reset.activeCount = 0 ∧
      ((podIn .flowing).bay .b1).state.active = true ∧ ((podIn .idle).bay .b1).state.active = false := by decide
theorem test_witness_TimeSet : (asked 0x2B [1, 0, 0, 0, 9] State.reset).requestAt 0x2B = some (toPod 0x2B [1, 0, 0, 0, 9]) := by
  decide

/-! ## Witnesses: ports -/

theorem test_witness_CorrectFrame :
    (List.replicate 56 (0 : Byte)).length ≤ 56 ∧ (State.reset.port .yard).receiver = .hunting ∧
      (State.reset.port .yard).rx.length < rxCap .yard ∧ State.reset.pod ≠ .watch ∧
      rxCap .trunk ≤ (({ State.reset with trunk := { State.reset.trunk with rx := four } } : State).port .trunk).rx.length ∧
      (fromYard 240 0x10 [0, 0, 0, 7]).kind = 0x10 ∧ (readerBay (fromYard 240 0x10 [0, 0, 0, 7]).src).isSome = true ∧
      (fromYard 240 0x10 [0, 0, 0, 7]).dst = State.reset.station ∧
      ({ State.reset with pod := .watch } : State).pod = .watch ∧ (fromYard 244 0x11 []).kind ≠ 0x10 ∧
      (goodFrame (toPod 0x39 [9])).getLast? ≠ some (goodChar 0) := by decide
theorem test_witness_ReceptionErrors :
    (({ State.reset with yard := { State.reset.yard with receiver := .inside [1, 2, 3] } } : State).port .yard).receiver
        = .inside [1, 2, 3] ∧ [1, 2, 3].length = 3 ∧ 56 < (goodChar 57).data.toNat ∧ (goodChar 57).parityError = false ∧
      (goodChar 57).stopMissing = false ∧ (goodChar 57).data ≠ 0xA5 := by decide
theorem test_witness_Transmitter :
    State.reset.yard.sending = none ∧ (State.reset.bay .b1).slot.pending = true ∧
      (∀ c ∈ bayList, ¬ bayNumber c < bayNumber .b1) ∧ (fullYard State.reset).yard.tx ≠ [] ∧
      (({ (fullYard State.reset) with yard := { (fullYard State.reset).yard with sending := some .queueHead } } : State).port
        .yard).sending = some .queueHead ∧ State.reset.trunk.receiver = .hunting ∧ State.reset.trunk.tx = [] := by decide
theorem test_witness_FramesPassed :
    (yarded 240 0x13 [] State.reset).yardHead = some (fromYard 240 0x13 []) ∧
      classifyYard 17 (fromYard 240 0x13 []) = .stationData ∧ (fromYard 240 0x13 []).dst = 17 ∧
      classifyYard 17 { dst := 3, src := 240, kind := 0x13, payload := [] } = .stationData ∧
      classifyYard 17 { dst := 3, src := 240, kind := 0x10, payload := [] } = .passThrough ∧
      classifyYard 17 (fromYard 200 0x10 []) = .drop ∧
      classifyYard 17 (fromYard 244 0x11 [0]) = .tally .b1 ∧ parseTally [0] = none ∧
      classifyYard 17 (fromYard 251 0x12 [0]) = .valveStatus .b4 ∧ parseValveStatus [0] = none ∧
      classifyYard 17 (fromYard 243 0x10 [0]) = .tag .b4 ∧ parseTag [0] = none ∧
      (trunked (toPod 0x10 []) State.reset).trunkHead = some (toPod 0x10 []) ∧
      classifyTrunk 17 (toPod 0x10 []) = .drop ∧
      classifyTrunk 17 { dst := 244, src := 200, kind := 1, payload := [] } = .passThrough ∧
      (244 : Byte) = BitVec.ofNat 8 (243 + bayNumber .b1) ∧ ((podIn .granted).bay .b1).state.active = true ∧
      ((podIn .idle).bay .b1).state.active = false := by decide
theorem test_witness_Link :
    (asked 0x3F [1] State.reset).requestAt 0x3F = some (toPod 0x3F [1]) ∧
      (asked 0x38 [1, 1, 255] State.reset).requestAt 0x38 = some (toPod 0x38 [1, 1, 255]) := by decide
theorem test_witness_RequestIsTaken :
    (asked 0x39 [1] State.reset).trunk.rx = toPod 0x39 [1] :: [] ∧ 1 ≤ (asked 0x39 [1] State.reset).station.toNat ∧
      (asked 0x39 [1] State.reset).station.toNat ≤ 239 ∧ (asked 0x39 [1, 2] State.reset).requestAt 0x39 = some (toPod 0x39 [1, 2]) ∧
      fixedRequest .podStatus = some (0x39, 1) ∧ (toPod 0x39 [1, 2]).payload.length ≠ 1 ∧
      (asked 0x20 [1] State.reset).requestAt 0x20 = some (toPod 0x20 [1]) ∧ parseFleetPut (toPod 0x20 [1]).payload.tail = none ∧
      (asked 0x25 [1] State.reset).requestAt 0x25 = some (toPod 0x25 [1]) ∧ parseStrapSet (toPod 0x25 [1]).payload.tail = none := by
  decide
theorem test_witness_Payloads : [0].length ≠ 8 ∧ [0].length ≠ 2 ∧ [0].length ≠ 4 ∧ truck.counters.length ≤ 3 ∧
    (2 : Byte).toNat = [1, 2].length ∧ (1 : Byte) ≠ 0 ∧ (7 : Nat) = beNat [0, 0, 0, 7] := by decide

/-! ## Witnesses: tags, tallies, valve reports -/

/-- A tally that lifts the nozzle. -/
def lifted : Tally := { pulses := 10, interval := 250, temp := none, nozzle := .lifted, status := .ok }

theorem test_witness_Tally (st : BayState) : TallyAt (yarded 244 0x11 [0, 10, 0, 250, 0x80, 0, 1, 0] (podIn st)) .b1 lifted := by
  cases st <;> exact ⟨fromYard 244 0x11 [0, 10, 0, 250, 0x80, 0, 1, 0], rfl, by decide, by decide⟩
theorem test_witness_Tally_without_flow (st : BayState) :
    TallyAt (yarded 244 0x11 [0, 0, 0, 250, 0x80, 0, 0, 0] (podIn st)) .b1
      { pulses := 0, interval := 250, temp := none, nozzle := .stowed, status := .ok } := by
  cases st <;> exact ⟨fromYard 244 0x11 [0, 0, 0, 250, 0x80, 0, 0, 0], rfl, by decide, by decide⟩
theorem test_witness_Tally_with_fault (st : BayState) :
    TallyAt (yarded 244 0x11 [0, 0, 0, 250, 0x80, 0, 0, 1] (podIn st)) .b1
      { pulses := 0, interval := 250, temp := none, nozzle := .stowed, status := .faulty } := by
  cases st <;> exact ⟨fromYard 244 0x11 [0, 0, 0, 250, 0x80, 0, 0, 1], rfl, by decide, by decide⟩
theorem test_witness_Tally_metered (st : BayState) : AccumulatorLaw (yarded 244 0x11 [0, 10, 0, 250, 0x80, 0, 1, 0] (podIn st)) := by
  refine ⟨?_, ?_⟩
  · intro b
    unfold Bay.accumulatorsLawful
    cases st <;> cases b <;> and_intros <;> first | decide | (intro t h; cases h)
  · intro t x h; cases t <;> cases h
theorem test_witness_Valve (st : BayState) : ValveReportAt (yarded 248 0x12 [0, 1] (podIn st)) .b1
    { position := .shut, health := .faulty } := by
  cases st <;> exact ⟨fromYard 248 0x12 [0, 1], rfl, by decide, by decide⟩
theorem test_witness_Valve_in_order (st : BayState) : ValveReportAt (yarded 248 0x12 [3, 0] (podIn st)) .b1
    { position := .moving, health := .ok } := by
  cases st <;> exact ⟨fromYard 248 0x12 [3, 0], rfl, by decide, by decide⟩
theorem test_witness_Tag (st : BayState) : TagAt (yarded 240 0x10 [0, 0, 0, 7] (podIn st)) .b1 { tag := 7, hours := none } := by
  cases st <;> exact ⟨fromYard 240 0x10 [0, 0, 0, 7], rfl, by decide, by decide⟩
theorem test_witness_Tag_with_hours (st : BayState) :
    TagAt (yarded 240 0x10 [0, 0, 0, 7, 0, 0, 0, 41] (podIn st)) .b1 { tag := truck.tag, hours := some 41 } := by
  cases st <;> exact ⟨fromYard 240 0x10 [0, 0, 0, 7, 0, 0, 0, 41], rfl, by decide, by decide⟩
theorem test_witness_EarlyChecks :
    (podIn .idle).pod = .inService ∧ findTag 9 (podIn .idle).fleet = none ∧ findTag 7 (podIn .idle).fleet = some truck ∧
      ((podIn .granted).bay .b1).grantTag ≠ some 9 ∧ truck.status = .active ∧ truck.armedAt = none ∧
      ({ truck with status := .barred } : Vehicle).status = .barred ∧
      ({ truck with armedAt := some .b1 } : Vehicle).armedAt ≠ none ∧
      ({ truck with permitted := some { b1 := false, b2 := true, b3 := false, b4 := false } } : Vehicle).permitted.map
        (·.get .b1) = some false := by decide
theorem test_witness_Grant :
    ((podIn .idle).bay .b1).state = .idle ∧ findTag 7 (podIn .idle).fleet = some truck ∧ truck.standing = .clear ∧
      ((podIn .idle).tank .t1).delivery = none ∧ ((podIn .idle).tank .t1).varianceHold = false ∧
      ((podIn .idle).tank .t1).waterHold = false ∧ ((podIn .idle).tank .t1).standing = .normal ∧
      (podIn .idle).journal.issues.records.length + (podIn .idle).journal.reservations < (podIn .idle).journal.issueSpan ∧
      5 ≤ truck.fillCeiling ∧ truck.allowance = none ∧ truck.permitted = none ∧
      (truck.fillCeiling : Int) * 1000000 ≤ ((podIn .idle).tank .t1).book := by decide
theorem test_witness_EveryGrant :
    nextWith (exec .tag (yarded 240 0x10 [0, 0, 0, 7] (podIn .idle))) (fun t => (t.bay .b1).state == .granted) = true ∧
      ((podIn .idle).bay .b1).state ≠ .granted := by decide
theorem test_witness_RepeatGrant :
    ((podIn .granted).bay .b1).state = .granted ∧ ((podIn .granted).bay .b1).grant = some grant7 ∧ grant7.tag = 7 := by decide

/-! ## Witnesses: bays -/

theorem test_witness_BayTimers :
    ((podIn .granted).bay .b1).armTimer = some 0 ∧ ((podIn .granted).bay .b1).flags = IssueFlags.clear ∧
      ((podIn .granted).bay .b1).closing = 0 ∧ ((podIn .flowing).bay .b1).state.valveOpen = true ∧
      ((podIn .flowing).bay .b1).noFlowTimer = some 0 ∧ ((podIn .flowing).bay .b1).gapTimer = some 0 ∧
      ((podIn .draining).bay .b1).drainTimer = some 0 ∧ ((podIn .closing).bay .b1).closeTimer = some 0 ∧
      (live.bay .b1).armTimer ≠ some 0 ∧ (live.bay .b2).gapTimer ≠ some 0 ∧
      ((podIn .closing).bay .b1).cause = some .nozzle ∧ ((podIn .closing).bay .b1).shutSeen = false ∧
      (podIn .closing).powered = true := by decide
theorem test_witness_BaySet :
    let p : List Byte := [1, 1, 1, 1, 0, 1, 0, 0, 0, 5, 0, 20, 0, 1, 0, 90, 0, 8, 0, 3, 0, 10, 0, 15, 0, 20]
    (asked 0x23 p (podIn .idle)).requestAt 0x23 = some (toPod 0x23 p) ∧
      (parseBaySet (toPod 0x23 p).payload.tail).map (fun r => (bayOf r.bay, tankOf r.tank, r.enabled)) = some (some .b1, some .t1, 1)
      ∧ ((podIn .granted).bay .b1).state.active = true ∧ ((podIn .faulted).bay .b1).state ≠ .draining ∧ bayOf 5 = none := by
  decide
theorem test_witness_BayStop :
    (asked 0x2D [1, 1] (podIn .granted)).requestAt 0x2D = some (toPod 0x2D [1, 1]) ∧ bayOf (1 : Byte).toNat = some .b1 ∧
      bayOf (5 : Byte).toNat = none ∧ ((podIn .trimming).bay .b1).state.valveOpen = true ∧
      ((podIn .closing).bay .b1).state ≠ .granted ∧ ((podIn .closing).bay .b1).state.valveOpen = false ∧
      (asked 0x2E [1, 1] (podIn .faulted)).requestAt 0x2E = some (toPod 0x2E [1, 1]) ∧
      ((podIn .faulted).bay .b1).state = .faulted := by decide

/-! ## Witnesses: the Fleet Register -/

/-- FLEET PUT of tag 9 with no counter; the keep-counters field as given. -/
def putBytes (tag keep : Byte) : List Byte := [1, 0, 0, 0, tag, 0, 3, 1, 2, 0, 0, 50, 0, 0, 0, keep, 0]

theorem test_witness_FleetPut :
    (asked 0x20 (putBytes 9 0) pod1).requestAt 0x20 = some (toPod 0x20 (putBytes 9 0)) ∧
      (parseFleetPut (putBytes 9 0).tail).map (·.check.isSome) = some true ∧
      (parseFleetPut (putBytes 0 0).tail).map (·.check) = some none ∧ findTag 9 pod1.fleet = none ∧ pod1.fleet.length < 256 ∧
      256 ≤ (List.replicate 256 truck).length ∧ findTag 9 (List.replicate 256 truck) = none ∧
      (parseFleetPut (putBytes 7 1).tail).map (fun r => r.check.map (·.2)) = some (some true) ∧
      (parseFleetPut (putBytes 7 0).tail).map (fun r => r.check.map (·.2)) = some (some false) ∧
      findTag 7 pod1.fleet = some truck := by decide
theorem test_witness_FleetReads :
    (asked 0x21 [1, 0, 0, 0, 7] pod1).requestAt 0x21 = some (toPod 0x21 [1, 0, 0, 0, 7]) ∧ findTag 8 pod1.fleet = none ∧
      (asked 0x3C [1, 0, 0, 0, 7, 1] pod1).requestAt 0x3C = some (toPod 0x3C [1, 0, 0, 0, 7, 1]) ∧ 1 < (2 : Byte).toNat ∧
      (asked 0x3D [1, 0, 0, 0, 0, 0] pod1).requestAt 0x3D = some (toPod 0x3D [1, 0, 0, 0, 0, 0]) ∧
      pod1.fleet = truck :: [] ∧ truck ∈ pod1.fleet ∧ 0 < truck.tag ∧ (∀ v ∈ pod1.fleet, v.tag ≤ 7) := by decide
theorem test_witness_FleetLaw_of_one_record : FleetLaw pod1 := by
  refine ⟨by decide, ?_, ?_⟩ <;> simp [pod1, truck]
theorem test_witness_ShiftRoll :
    (asked 0x2C [1] pod1).requestAt 0x2C = some (toPod 0x2C [1]) ∧
      ({ dst := 255, src := 200, kind := 0x2C, payload := [1] } : Frame).dst = 255 ∧
      (trunked { dst := 255, src := 200, kind := 0x2C, payload := [1] } pod1).requestAt 0x2C
        = some { dst := 255, src := 200, kind := 0x2C, payload := [1] } := by decide
theorem test_witness_ClassSet :
    (asked 0x22 [1, 15, 0, 9, 0, 0] pod1).requestAt 0x22 = some (toPod 0x22 [1, 15, 0, 9, 0, 0]) ∧ (15 : Byte).toNat < 16 ∧
      16 ≤ (16 : Byte).toNat ∧ (asked 0x2F [1, 0, 0, 0, 7, 1] pod1).requestAt 0x2F = some (toPod 0x2F [1, 0, 0, 0, 7, 1]) ∧
      (truck.counters.find? (fun k => k.code == (1 : Byte).toNat)).isSome = true ∧
      (∀ k ∈ truck.counters, k.code ≠ (3 : Byte).toNat) := by decide

/-! ## Witnesses: censuses and tanks -/

theorem test_witness_Census :
    (asked 0x35 [1, 2] pod1).requestAt 0x35 = some (toPod 0x35 [1, 2]) ∧ tankOf (2 : Byte).toNat = some .t2 ∧
      tankOf (3 : Byte).toNat = none ∧
      ((pod1.setProbeTank .t1 { ProbeTank.cold with settle := some 0 }).probeTank .t1).settle = some 0 ∧
      (pod1.probeTank .t1).settle ≠ some 0 ∧ pod1.probe.censusTimer ≠ 0 ∧
      ({ pod1 with probe := { pod1.probe with censusTimer := 0 } } : State).probe.censusTimer = 0 ∧
      ((pod1.raiseCensus .t1 .pre).probeTank .t1).want = some .pre ∧ Purpose.onRequest.rank < Purpose.pre.rank ∧
      Purpose.pre.rank = Purpose.post.rank := by decide
theorem test_witness_CensusInFlight :
    (pod1.setFlight (some (flight .first false))).probe.inFlight = some (flight .first false) ∧
      (flight .first false).wait = none ∧ (flight .first false).attempt = .first ∧ (flight .retry false).attempt = .retry ∧
      (flight .retry false).own = false ∧ (flight .first true).own = true ∧
      ({ (flight .first false) with wait := some 0 } : CensusInFlight).wait = some 0 ∧
      ({ (flight .first false) with wait := some 50 } : CensusInFlight).wait ≠ some 0 ∧
      (pod1.setFlight (some (flight .first false))).powered = true ∧
      (podDelivery .completing |>.setFlight (some (flight .first true))).tanks.t1.delivery = some (delivery .completing) ∧
      strapVolume [{ level := 0, litres := 0 }, { level := 1000, litres := 500 }] 1000 = some (500000000, false) ∧
      strapVolume [{ level := 0, litres := 0 }, { level := 1000, litres := 500 }] 1001 = some (500000000, true) := by decide
theorem test_witness_StrapSet :
    let p : List Byte := [1, 1, 0, 1, 2, 0, 0, 0, 0, 0, 0, 1, 0, 0, 0, 0, 9]
    (asked 0x25 p pod1).requestAt 0x25 = some (toPod 0x25 p) ∧
      (parseStrapSet (toPod 0x25 p).payload.tail).map (fun r => (r.tank, r.first, r.final, r.points.length)) = some (1, 0, 1, 2) ∧
      tablePasses [{ level := 0, litres := 0 }, { level := 256, litres := 9 }] = true ∧
      tablePasses [{ level := 0, litres := 0 }] = false := by decide
theorem test_witness_TankSet :
    let p : List Byte := [1, 1, 0, 0, 9, 0, 3, 9, 0, 0, 0, 0, 0, 0, 0, 0, 3, 100, 1, 0, 0, 0, 200, 0, 16, 0, 120]
    (asked 0x24 p pod1).requestAt 0x24 = some (toPod 0x24 p) ∧
      (parseTankSet (toPod 0x24 p).payload.tail).map (fun r => (tankOf r.tank, r.holdEnable)) = some (some .t1, 0) ∧
      pod1.tankBusy .t1 = false ∧ (podIn .granted).tankBusy .t1 = true ∧ (pod1.tank .t1).receiving = false ∧
      ((podDelivery .opened).tank .t1).receiving = true ∧
      (asked 0x31 [1, 1, 0, 0, 0, 9] pod1).requestAt 0x31 = some (toPod 0x31 [1, 1, 0, 0, 0, 9]) ∧
      (asked 0x30 [1, 1] pod1).requestAt 0x30 = some (toPod 0x30 [1, 1]) ∧
      formStanding (pod1.tank .t1).settings (pod1.tank .t1).book = (pod1.tank .t1).standing ∧
      formStanding (pod1.tank .t1).settings 0 ≠ (pod1.tank .t1).standing := by decide
theorem test_witness_Delivery :
    (asked 0x32 [1, 1, 0, 0, 0, 9] pod1).requestAt 0x32 = some (toPod 0x32 [1, 1, 0, 0, 0, 9]) ∧
      (pod1.tank .t1).delivery = none ∧ ((podDelivery .opened).tank .t1).delivery = some (delivery .opened) ∧
      (asked 0x33 [1, 1] (podDelivery .opened)).requestAt 0x33 = some (toPod 0x33 [1, 1]) ∧
      (asked 0x34 [1, 1] (podDelivery .awaitingPre)).requestAt 0x34 = some (toPod 0x34 [1, 1]) ∧
      ((podDelivery .awaitingPre).tank .t1).delivery = some (delivery .awaitingPre) ∧
      (delivery .opened).window = some 0 ∧ (delivery .completing).window ≠ some 0 ∧ (delivery .completing).phase = .completing := by decide
theorem test_witness_Variance :
    (((pod1.tank .t1).settings.tolerance : Int) * 1000000 < |0 - (pod1.tank .t1).book|) ∧
      ¬(((pod1.tank .t1).settings.tolerance : Int) * 1000000 < |60500000000 - (pod1.tank .t1).book|) ∧
      ({ pod1.tank .t1 with strikes := 2 } : Tank).strikes = 2 := by decide

/-! ## Witnesses: status, journal, pod -/

theorem test_witness_Status :
    (asked 0x3A [1, 4] pod1).requestAt 0x3A = some (toPod 0x3A [1, 4]) ∧
      (asked 0x3B [1, 2] pod1).requestAt 0x3B = some (toPod 0x3B [1, 2]) ∧
      (asked 0x39 [1] pod1).requestAt 0x39 = some (toPod 0x39 [1]) := by decide
theorem test_witness_Journal :
    let old : EventRecord := { seq := 0, time := { time := 0, unset := true }, kind := .warmStart }
    let ring : Machine.Ring EventRecord := { Journal.cold.events with records := List.replicate 16 old }
    let full : Journal := { Journal.cold with issueSpan := 1008, events := ring }
    1024 - full.issueSpan ≤ full.events.records.length ∧ Journal.cold.events.records.length < 1024 - Journal.cold.issueSpan ∧
      (asked 0x36 [1, 0, 16] pod1).requestAt 0x36 = some (toPod 0x36 [1, 0, 16]) ∧
      (asked 0x36 [1, 0, 16] pod1).taken.journal = Journal.cold ∧
      ({ pod1 with journal := full } : State).taken.journal.events.records ≠ [] ∧
      (asked 0x37 [1, 1, 4, 1] pod1).requestAt 0x37 = some (toPod 0x37 [1, 1, 4, 1]) ∧
      (asked 0x3E [1, 0, 0, 0, 1] pod1).requestAt 0x3E = some (toPod 0x3E [1, 0, 0, 0, 1]) := by decide
theorem test_witness_PodSet :
    let p : List Byte := [1, 1, 44, 0, 60, 0, 120, 2, 95, 2, 95]
    (asked 0x26 p pod1).requestAt 0x26 = some (toPod 0x26 p) ∧
      (parsePodSet (toPod 0x26 p).payload.tail).isSome = true ∧ (asked 0x26 p pod1).taken.yard.receiver = .hunting ∧
      (asked 0x26 p pod1).taken.yard.sending = none := by decide
theorem test_witness_PodStates :
    (asked 0x27 [1] State.reset).requestAt 0x27 = some (toPod 0x27 [1]) ∧ State.reset.pod = .blank ∧ pod1.pod ≠ .blank ∧
      (asked 0x28 [1, 1] pod1).requestAt 0x28 = some (toPod 0x28 [1, 1]) ∧ (1 : Byte).toNat ≤ 1 ∧
      (asked 0x29 [1] pod1).requestAt 0x29 = some (toPod 0x29 [1]) ∧ ({ pod1 with pod := .suspended } : State).pod = .suspended ∧
      (asked 0x2A [1] pod1).requestAt 0x2A = some (toPod 0x2A [1]) ∧
      ({ pod1 with watchTimer := some 0 } : State).watchTimer = some 0 ∧ pod1.watchTimer ≠ some 0 := by decide
theorem test_witness_PodStart_conditions_hold :
    let s : State := { pod1 with bays := { pod1.bays with b1 :=
      { Bay.cold .t1 with settings := { BaySettings.cold .t1 with enabled := true } } } }
    s.clockSet = true ∧ bayList.any (fun b => (s.bay b).settings.enabled) = true ∧ s.tanks.t1.stockSet = true := by decide

/-! ## Witnesses for each clause -/

/-- Power is lost after eight parts of a warm start: bay 1 is done and every slot is SHUT; after three parts it is not. -/
theorem test_cut_warm_start :
    nextWith (exec (.warmStart ⟨17, .cut 8⟩) { (podIn .flowing) with journal := { Journal.cold with reservations := 1 } })
      (fun t => !t.powered && (t.bay .b1).state == .draining && (t.bay .b1).slot == { order := .shut, pending := true }
        && t.journal.events.records.map (·.kind) == [.warmStart] && t.journal.reservations == 0) = true ∧
      nextWith (exec (.warmStart ⟨17, .cut 3⟩) (podIn .flowing))
        (fun t => t.bays == (podIn .flowing).bays && t.journal.issues.records.isEmpty) = true := by decide

/-- A gap expiry behind the tally that restarted the timer does nothing. -/
theorem test_expiry_behind_a_restart :
    nextWith (exec .tally (yarded 244 0x11 [0, 10, 0, 250, 0x80, 0, 1, 0] (podIn .flowing)))
      (fun t => nextWith (exec (.gapTimerExpiry .b1) t) (fun u => u == t)) = true := by decide

/-- A grant clears the flow estimate and its mark. -/
theorem test_grant_clears_the_estimate :
    nextWith (exec .tag (yarded 240 0x10 [0, 0, 0, 7]
        (pod1.setBay .b1 { bayIn .idle with flow := 9, seeded := true })))
      (fun t => (t.bay .b1).state == .granted && (t.bay .b1).flow == 0 && !(t.bay .b1).seeded) = true := by decide

theorem test_witness_WarmStart_clauses :
    live.retentionMark = true ∧ (live.bay .b1).state.active = true ∧ ((podIn .draining).bay .b1).state = .draining ∧
      (live.probeTank .t1).settle = none ∧ (live.bay .b1).serving.tank = .t1 ∧
      (∀ b ∈ bayList, (live.bay b).state.active = true → (live.bay b).serving.tank ≠ .t2) ∧
      (0 : Fin 9).val ≤ 1 ∧ 2 ≤ (2 : Fin 9).val ∧ bayNumber .b1 + 3 ≤ (4 : Fin 9).val ∧ (3 : Fin 9).val < bayNumber .b1 + 3 ∧
      (8 : Fin 9).val = 8 ∧ (live.setFlight (some (flight .first false))).probe.inFlight = some (flight .first false) := by
  decide

theorem test_witness_Reception_in_watch :
    let s : State := { State.reset with pod := .watch, yard := { State.reset.yard with receiver := .inside [1, 2, 3] } }
    s.powered = true ∧ s.yard.receiver = .inside [1, 2, 3] ∧ s.pod = .watch ∧
      ({ goodChar 1 with parityError := true } : RxChar).parityError = true ∧
      ({ goodChar 1 with stopMissing := true } : RxChar).stopMissing = true := by decide

/-- The reply to a POD SET in the trunk transmit queue. -/
def podSetReply : TxEntry :=
  { frame := { dst := 200, src := 17, kind := 0xA6
               body := .reply 1 (.okWith (.podSettings PodSettings.cold ⟨1, 1⟩ ⟨1, 1⟩)) }, wake := false }

theorem test_witness_Rate_waits :
    ({ State.reset.yard with receiver := .inside [] } : Port).receiver ≠ .hunting ∧
      ({ State.reset.yard with sending := some .queueHead } : Port).sending ≠ none ∧
      (∃ e ∈ [podSetReply], ∃ ref r p y t, e.frame.body = .reply ref r ∧ r.fields = .podSettings p y t) ∧
      nextWith (exec (.rateSettingApplied .trunk)
          { State.reset with trunk := { State.reset.trunk with tx := [podSetReply], rate := { s := 0, d := 2 } } })
        (fun t => t.trunk.rate == { s := 0, d := 2 }) = true := by
  refine ⟨by decide, by decide, ⟨podSetReply, by simp, 1, _, _, _, _, rfl, rfl⟩, by decide⟩

/-- A frame of a kind from a station to a station. -/
def between (src dst kind : Byte) : Frame := { dst := dst, src := src, kind := kind, payload := [1] }

theorem test_witness_Classification :
    classifyTrunk 17 (between 200 17 0x3F) = .request ∧ classifyTrunk 17 (between 200 17 0x40) = .drop ∧
      classifyTrunk 17 (between 200 255 0x2C) = .broadcast ∧ classifyTrunk 17 (between 200 255 0x2A) = .drop ∧
      classifyTrunk 17 (between 200 240 1) = .passThrough ∧ classifyTrunk 17 (between 200 251 1) = .passThrough ∧
      classifyTrunk 17 (between 200 239 1) = .drop ∧ classifyTrunk 17 (between 200 252 1) = .drop ∧
      classifyYard 17 (between 251 251 0x13) = .stationData ∧ classifyYard 17 (between 251 252 0x13) = .drop ∧
      classifyYard 17 (between 244 0 0x11) = .passThrough ∧ classifyYard 17 (between 243 17 0x10) = .tag .b4 ∧
      classifyYard 17 (between 244 17 0x11) = .tally .b1 ∧ classifyYard 17 (between 248 17 0x12) = .valveStatus .b1 ∧
      classifyYard 17 (between 240 17 0x11) = .drop ∧ classifyYard 17 (between 252 17 0x13) = .drop := by decide

/-- A tally that brings unassigned flow above the threshold at an IDLE bay. -/
theorem test_unaccounted_flow :
    nextWith (exec .tally (yarded 244 0x11 [0, 10, 0, 250, 0x80, 0, 1, 1]
        (pod1.setBay .b1 { bayIn .idle with unassigned := 1000001 })))
      (fun t => (t.bay .b1).state == .faulted && (t.bay .b1).unassigned == 0
        && t.journal.events.records.map (·.kind) == [.unaccountedFlow .b1 200, .bayFault .b1 .meterFault]) = true := by decide +kernel

theorem test_witness_Fault_order :
    ({ IssueFlags.clear with overspeed := true, meter := true } : IssueFlags).fault = some .overspeed ∧
      ({ IssueFlags.clear with meter := true, valve := true } : IssueFlags).fault = some .meterFault ∧
      ({ IssueFlags.clear with valve := true, afterRun := true } : IssueFlags).fault = some .valve ∧
      ({ IssueFlags.clear with afterRun := true } : IssueFlags).fault = some .afterRun ∧ IssueFlags.clear.fault = none := by
  decide

theorem test_witness_TallyClosing_with_shut_seen :
    let s := pod1.setBay .b1 { bayIn .closing with shutSeen := true }
    (s.bay .b1).shutSeen = true ∧ (s.bay .b1).cause = some .nozzle ∧
      nextWith (exec .tally (yarded 244 0x11 [0, 0, 0, 250, 0x80, 0, 0, 0] s)) (fun t => (t.bay .b1).state == .draining) = true ∧
      nextWith (exec .tally (yarded 244 0x11 [0, 0, 0, 250, 0x80, 0, 0, 1] s))
        (fun t => (t.bay .b1).state == .faulted
          && t.journal.events.records.getLast?.map (·.kind) == some (.bayFault .b1 .meterFault)) = true := by decide

/-- R96: a tally above max flow that meets the event that closed the bay sets OVERSPEED; R106: a later one does not. -/
theorem test_overspeed_that_meets_the_close :
    let fast : List Byte := [0x0F, 0xFF, 0, 1, 0x80, 0, 1, 0]
    let closing := (bayIn .flowing).toClosing .site
    let flagged := fun y : Bay => nextWith (exec .tally (yarded 244 0x11 fast (pod1.setBay .b1 y)))
      (fun t => (t.bay .b1).flags.overspeed && (t.bay .b1).cause == some .site)
    flagged closing = true ∧ flagged { closing with closeTimer := some 9999 } = false ∧
      closing.closeTimer = some (closing.settings.closeTime * 1000) := by decide +kernel

theorem test_witness_TagAt (s : State) (h1 : s.powered = true) (h2 : s.resetPending = false) (h3 : s.station = 17) :
    TagAt (yarded 240 0x10 [0, 0, 0, 7] s) .b1 { tag := 7, hours := none } := by
  refine ⟨fromYard 240 0x10 [0, 0, 0, 7], ?_, ?_, by decide⟩
  · show (if s.powered && !s.resetPending then _ else none) = _
    rw [h1, h2]
    rfl
  · show classifyYard s.station _ = _
    rw [h3]
    decide

theorem test_witness_RecordsLaw (st : BayState) : RecordsLaw (podIn st) := by
  intro v hv
  obtain rfl := List.mem_singleton.mp (show v ∈ [truck] from hv)
  refine ⟨by decide, by decide, by decide, by decide, by decide, ?_, ?_, ?_, ?_⟩
  · simp [truck, Counter.lawful]
  · intro a h; cases h
  · intro a h; cases h
  · intro h e; cases e; decide

theorem test_witness_TankLaw : TankLaw (podIn .idle) := by
  intro t
  have h : (TankSettings.cold 16).lawful ∧ (TankSettings.cold 17).lawful := by simp [TankSettings.lawful, TankSettings.cold]
  cases t
  · exact ⟨h.1, by decide, by decide, by decide, by decide⟩
  · exact ⟨h.2, by decide, by decide, by decide, by decide⟩

/-- Bay 1 of an otherwise idle pod with another vehicle and another tank 1. -/
def podWith (v : Vehicle) (k : Tank) : State := { (podIn .idle).setTank .t1 k with fleet := [v] }

/-- The code of the refusal that tag 7 meets at bay 1. -/
def refusalAt (s : State) (c : RefusalCode) : Bool :=
  nextWith (exec .tag (yarded 240 0x10 [0, 0, 0, 7] s))
    (fun t => t.journal.events.records.map (·.kind) == [.refusal .b1 7 c])

/-- The truck with an OVERDUE counter. -/
def lateTruck : Vehicle :=
  { truck with counters := [{ code := 1, basis := .hours, interval := 100, grace := 10, remaining := -10 }] }

theorem test_late_checks_refuse :
    refusalAt (podWith { lateTruck with limpUsed := true } (pod1.tank .t1)) .serviceLock = true ∧
      refusalAt (podDelivery .opened |>.setBay .b1 (bayIn .idle)) .tankReceiving = true ∧
      refusalAt (podWith truck { pod1.tank .t1 with waterHold := true }) .tankHold = true ∧
      refusalAt (podWith truck { pod1.tank .t1 with standing := .empty }) .tankEmpty = true ∧
      refusalAt (podWith truck { pod1.tank .t1 with standing := .reserve }) .reserveOnly = true ∧
      refusalAt { (podIn .idle) with journal := { Journal.cold with reservations := 768 } } .journalFull = true ∧
      refusalAt (podWith { truck with allowance := some { litres := 9, usedCl := 500 } } (pod1.tank .t1))
        (.limitTooLow .allowance) = true := by decide

theorem test_least_candidate_is_granted :
    nextWith (exec .tag (yarded 240 0x10 [0, 0, 0, 7]
        (podWith { lateTruck with fillCeiling := 200, allowance := some { litres := 200, usedCl := 0 } } (pod1.tank .t1))))
      (fun t => (t.bay .b1).grant.map (fun g => (g.limit, g.reason, g.limp, g.notice)) == some (200, .fillCeiling, true, .limp))
      = true ∧
    nextWith (exec .tag (yarded 240 0x10 [0, 0, 0, 7]
        (podWith truck { pod1.tank .t1 with standing := .ration, settings := { TankSettings.cold 16 with rationPercent := 50 } })))
      (fun t => (t.bay .b1).grant.map (fun g => (g.limit, g.reason)) == some (25, .ration)) = true := by decide

theorem test_hours_events :
    truck.episodeBegins .hours 15 ∧ ¬truck.episodeBegins .hours 4 ∧ truck.rises .hours 4 = [] ∧
      truck.rises .hours 5 = [.service 7 1 .due] ∧ truck.rises .fuel 15 = [.service 7 2 .overdue] := by
  refine ⟨⟨by decide, by decide⟩, ?_, by decide, by decide, by decide⟩
  rintro ⟨-, h⟩
  exact absurd h (by decide)

theorem test_witness_FleetPut_invalid_cases :
    let r : FleetPutReq := { tag := 9, unit := 0, cls := 15, priority := 3, status := 1, fillCeiling := 10, permitted := 0x81,
                             allowance := 0, keep := 1, counters := [] }
    let c : CounterReq := { code := 1, basis := 1, interval := 5, grace := 0 }
    r.check.isSome = true ∧ ({ r with tag := 0 } : FleetPutReq).check = none ∧ ({ r with cls := 16 } : FleetPutReq).check = none ∧
      ({ r with status := 2 } : FleetPutReq).check = none ∧ ({ r with keep := 2 } : FleetPutReq).check = none ∧
      ({ r with permitted := 0x80 } : FleetPutReq).check = none ∧
      ({ r with counters := [c, { c with code := 2 }, { c with code := 3 }] } : FleetPutReq).check.isSome = true ∧
      ({ r with counters := [c, { c with code := 2 }, { c with code := 3 }, { c with code := 4 }] } : FleetPutReq).check = none ∧
      ({ r with counters := [{ c with basis := 2 }] } : FleetPutReq).check = none ∧
      ({ r with counters := [c, { c with basis := 0 }] } : FleetPutReq).check = none ∧ r.clamps = false ∧
      ({ r with fillCeiling := 9 } : FleetPutReq).clamps = true := by decide

/-- A reading block of a level of 10,000, 15.0 degrees, the given water level and a status. -/
def block (water : Byte) (ok : Bool) : ReadingBlock :=
  { b0 := 0x27, b1 := 0x10, b2 := 0, b3 := 150, b4 := water, b5 := 0, b6 := 0, b7 := if ok then 0xFF else 0 }

/-- A pod with a census of tank 1 in flight and a table at that tank. -/
def podCensus (own : Bool) (s : State) : State :=
  (s.setTank .t1 { s.tank .t1 with strapping := .complete [{ level := 0, litres := 0 }, { level := 20000, litres := 120000 }] }
    ).setFlight (some (flight .first own))

theorem test_water_ends_the_issue :
    nextWith (exec (.censusTransaction (block 1 true)) (podCensus false (podIn .granted)))
      (fun t => (t.bay .b1).cause == some .tank && (t.tank .t1).waterHold
        && t.journal.events.records.map (·.kind) == [.water .t1 256]) = true ∧
    nextWith (exec (.censusTransaction (block 0 false)) (podCensus false (podIn .granted)))
      (fun t => t.bays == (podIn .granted).bays && t.journal == Journal.cold) = true := by decide

theorem test_own_post_logs_the_delivery :
    nextWith (exec (.censusTransaction (block 0 true)) (podCensus true (podDelivery .completing)))
      (fun t => (t.tank .t1).delivery.isNone && (t.tank .t1).book == 60100000000
        && t.journal.events.records.map (·.kind) == [.delivery .t1 100 (some 6000000) (some 5990000) false]) = true := by decide

theorem test_third_strike_is_logged :
    nextWith (exec (.censusTransaction (block 0 true))
        (podCensus false (pod1.setTank .t1 { pod1.tank .t1 with strikes := 2, book := 1000000 })))
      (fun t => (t.tank .t1).strikes == 3 && (t.tank .t1).latestVariance == some 59999000000
        && t.journal.events.records.map (·.kind) == [.variance .t1 5999900]) = true := by decide

/-! ## The yard port's mode, the wake, the journal's replies -/

/-- A pod in WATCH at the watch rate whose yard receiver is inside a frame. -/
def watching : State :=
  { (podIn .idle) with
    pod := .watch, yardMode := .watch, yardTarget := .watch
    yard := { State.reset.yard with receiver := .inside [1] }
    bays := State.reset.bays.map (fun y => { y with slot := { order := .shut, pending := false } }) }

/-- A waking TAG of wrong length, and one whose notice finds no room, set RUN mode in the middle of a yard frame; a request
that wakes the pod waits for the frame's end. -/
theorem test_run_mode_at_once :
    nextWith (exec .tag (yarded 240 0x10 [0] watching)) (fun t => t.pod == .inService && t.yardMode == .run) = true ∧
      nextWith (exec .tag (yarded 240 0x10 [0, 0, 0, 9] (fullYard watching)))
        (fun t => t.yardMode == .run && t.yardTarget == .run) = true ∧
      nextWith (exec .linkStatus (asked 0x3F [1] watching)) (fun t => t.yardMode == .watch && t.yardTarget == .run) = true := by
  decide

/-- The reply a request queues. -/
def repliedWith (o : Host.Outcome State Fault Refusal) (p : ReplyFields → Bool) : Bool :=
  nextWith o (fun t => t.trunk.tx.any (fun e => match e.frame.body with
    | .reply _ r => p r.fields
    | _ => false))

/-- POD STATUS that wakes the pod shows the full watch delay. -/
theorem test_wake_starts_the_watch_timer :
    repliedWith (exec .podStatus (asked 0x39 [1] watching))
      (fun r => match r with | .podReport q => q.watchDelay == some 60 && q.pod == .inService | _ => false) = true ∧
      (asked 0x39 [1] watching).taken.watchReady = true ∧
      (asked 0x39 [1] (watching.raiseCensus .t1 .periodic)).taken.watchReady = false := by decide

/-- The overwrite count stands in the issue ring's replies beside the reservation count. -/
theorem test_overwrite_count_in_every_reply :
    let s : State := { pod1 with journal := { Journal.cold with reservations := 2, overwrites := 5 } }
    repliedWith (exec .journalRead (asked 0x3E [1, 0, 0, 0, 1] s))
      (fun r => match r with | .journalIssues x _ => x.aux == 2 && x.overwrites == 5 | _ => false) = true ∧
      repliedWith (exec .journalRelease (asked 0x37 [1, 0, 0, 1] s))
        (fun r => match r with | .journalRelease _ _ x _ => x.aux == 2 && x.overwrites == 5 | _ => false) = true := by decide

/-- R171: a CLAMPED reply shows the values as stored, where its owner rule names none; another reply does not. -/
theorem test_clamped_reply_shows_what_is_stored :
    let put := fun ceiling : Byte => [1, 0, 0, 0, 9, 0, 3, 1, 2, 0, 0, ceiling, 0, 0, 0, 0, 0]
    repliedWith (exec .fleetPut (asked 0x20 (put 9) pod1))
      (fun r => match r with | .fleetPut _ 9 true (some v) => v.fillCeiling == 10 && v.unit == 3 | _ => false) = true ∧
      repliedWith (exec .fleetPut (asked 0x20 (put 10) pod1)) (fun r => match r with | .fleetPut _ 9 true none => true | _ => false) = true ∧
      repliedWith (exec .strapSet (asked 0x25 [1, 1, 0, 0, 1, 0xFF, 0xFF, 0, 0, 0, 9] pod1))
        (fun r => match r with | .strapping .t1 _ 1 _ (some ps) => ps == [{ level := 50000, litres := 9 }] | _ => false) = true ∧
      repliedWith (exec .journalRelease (asked 0x37 [1, 0, 4, 1] pod1))
        (fun r => match r with | .journalRelease .issue 0 _ (some 1024) => true | _ => false) = true ∧
      repliedWith (exec .journalRelease (asked 0x37 [1, 0, 4, 0] pod1))
        (fun r => match r with | .journalRelease .issue 0 _ none => true | _ => false) = true := by decide

theorem test_witness_Modes :
    (State.reset.yard.receiver = .hunting ∧ State.reset.yard.sending = none) ∧
      ¬(watching.yard.receiver = .hunting ∧ watching.yard.sending = none) ∧ 8 ≤ (fullYard watching).yard.tx.length ∧
      Journal.cold.issues.readPtr < Journal.cold.issueSpan ∧ Journal.cold.issueSpan ≤ Journal.cold.events.readPtr ∧
      Journal.cold.events.readPtr < 1024 ∧ ((podIn .granted).bay .b1).flags.fault = none ∧
      ({ IssueFlags.clear with uncompensated := true, saturated := true } : IssueFlags).fault = none := by decide

/-! ## A delivery's own census, and the tables -/

/-- A good reading of 1,000 tenths of a millimetre at 15 degrees. -/
def reading1000 : ReadingBlock := { b0 := 3, b1 := 232, b2 := 0, b3 := 150, b4 := 0, b5 := 0, b6 := 0, b7 := 0xFF }

/-- The own POST of a delivery with a strapping table is decoded like any other, and its figures are logged. -/
theorem test_own_census_is_decoded :
    let table : Strapping := .complete [{ level := 0, litres := 0 }, { level := 1000, litres := 500 }]
    let s := (podDelivery .completing).setTank .t1 { (podDelivery .completing).tank .t1 with strapping := table }
    nextWith (exec (.censusTransaction reading1000) (s.setFlight (some (flight .first true))))
      (fun t => (t.tank .t1).delivery == none && (t.tank .t1).book == 60100000000 && (t.tank .t1).lastGoodTemp == some 150
        && (t.tank .t1).latestCensus.bind (·.volumes) == some { gross := 500000000, net := 500000000 }
        && t.journal.events.records.map (·.kind) == [.delivery .t1 100 (some 50000) (some 40000) false]) = true := by
  decide +kernel

theorem test_witness_Tables :
    let low : StrapPoint := { level := 0, litres := 0 }
    let high : StrapPoint := { level := 1000, litres := 500 }
    tablePasses [low, high] = true ∧ [low, high].head? = some low ∧ [low, high][0]? = some low ∧
      [low, high][0 + 1]? = some high ∧ [low, high].getLast? = some high ∧
      strapVolume [low, high] 0 = some (0, false) ∧ strapVolume [low, high] 1 = some (500000, false) ∧
      strapVolume [low, high] 1001 = some (500000000, true) ∧
      ({ TankSettings.cold 16 with rationLevel := 9, reserveLevel := 9 } : TankSettings).reserveLevel ≤ 9 ∧
      formStanding { TankSettings.cold 16 with rationLevel := 9, reserveLevel := 8 } 9000000 = .ration ∧
      formStanding { TankSettings.cold 16 with rationLevel := 9, reserveLevel := 8 } 8000000 = .reserve ∧
      formStanding { TankSettings.cold 16 with rationLevel := 9, reserveLevel := 8 } 0 = .empty ∧
      lateTruck.standing = .overdue ∧ { lateTruck with limpUsed := true }.standing = .locked := by decide

/-- A FLEET PUT with three counters. -/
theorem test_three_counters :
    let c : Byte → List Byte := fun k => [k, 1, 0, 0, 0, 100, 0, 0, 0, 10]
    (parseFleetPut (((putBytes 9 0).tail.dropLast ++ [3]) ++ c 1 ++ c 2 ++ c 3)).map (·.counters.map (·.code))
      = some [1, 2, 3] ∧ parseFleetPut (((putBytes 9 0).tail.dropLast ++ [3]) ++ c 1 ++ c 2) = none := by decide

/-- A debit that changes the standing is logged before what the Sequencer logs. -/
theorem test_standing_event_first :
    nextWith (exec .tally (yarded 244 0x11 [0, 10, 0, 250, 0x80, 0, 1, 1]
        ((podIn .granted).setTank .t1 { pod1.tank .t1 with book := 1000 })))
      (fun t => t.journal.events.records.map (·.kind) == [.stockStanding .t1 .empty, .service 7 2 .overdue, .bayFault .b1 .meterFault]) = true := by
  decide +kernel

/-- A halt writes the record of a GRANTED issue. -/
theorem test_halt_writes_the_record :
    nextWith (exec .podSuspend (asked 0x28 [1, 1] live))
      (fun t => t.journal.issues.records.map (fun r => (r.bay, r.cause, r.tag)) == [(.b1, .site, 7)]
        && t.journal.reservations == 0 && (t.bay .b1).state == .idle) = true := by decide

end Sys2Proof.Tests
end

section
/-! PROOFS of the family of chapter 02. What the laws of this family read of a state, and the changes a command can make to
it, said once; each law is then kept change by change. -/

namespace Sys2Proof.FleetRegister

open Sys2Proof Sys2Proof.Machine

/-! ## What the laws read -/

/-- The tag of the grant an active bay serves; `none` for a bay that is not active. -/
def serves (y : Bay) : Option (Option Nat) := if y.state.active then some y.grantTag else none

/-- What the site writes, with the drop count, the station number and the clock. -/
structure Site where
  bays : BayId → BaySettings
  pod : PodSettings
  classes : Vector ClassEntry 16
  drops : Nat
  station : Byte
  clock : Nat

/-- The lengths of the four queues. -/
structure Queues where
  yardRx : Nat
  yardTx : Nat
  trunkRx : Nat
  trunkTx : Nat

/-- What the laws of this family read of a state. -/
structure View where
  fleet : List Vehicle
  serves : BayId → Option (Option Nat)
  site : Site
  queues : Queues

/-- The queue lengths of a state. -/
def queuesOf (s : State) : Queues :=
  { yardRx := s.yard.rx.length, yardTx := s.yard.tx.length, trunkRx := s.trunk.rx.length, trunkTx := s.trunk.tx.length }

/-- The site's part of a state. -/
def siteOf (s : State) : Site :=
  { bays := fun b => (s.bay b).settings, pod := s.podSettings, classes := s.classes, drops := s.forwardDrops
    station := s.station, clock := s.clock }

/-- The view of a state. -/
def view (s : State) : View :=
  { fleet := s.fleet, serves := fun b => serves (s.bay b), site := siteOf s, queues := queuesOf s }

/-- `SettingsLaw`, on the site's part alone. -/
def Site.lawful (x : Site) : Prop :=
  (∀ b, (x.bays b).lawful) ∧ x.pod.lawful ∧ (∀ c : Fin 16, x.classes[c].lawful) ∧ x.drops ≤ 65535 ∧
    1 ≤ x.station.toNat ∧ x.station.toNat ≤ 239 ∧ x.clock < 4294967296

/-- `QueuesBounded`, on the lengths alone. -/
def Queues.bounded (q : Queues) : Prop := q.yardRx ≤ 8 ∧ q.yardTx ≤ 8 ∧ q.trunkRx ≤ 4 ∧ q.trunkTx ≤ 6

theorem settingsLaw_iff (s : State) : SettingsLaw s ↔ (view s).site.lawful := Iff.rfl

theorem queuesBounded_iff (s : State) : QueuesBounded s ↔ (view s).queues.bounded := Iff.rfl

/-- A bay that is not active serves no grant. -/
theorem serves_inactive {y : Bay} (h : y.state.active = false) : serves y = none := by simp [serves, h]

/-- An active bay serves the tag of its grant copy. -/
theorem serves_active {y : Bay} (h : y.state.active = true) : serves y = some y.grantTag := by simp [serves, h]

/-- What a bay serves rests on whether it is active and on its grant copy. -/
theorem serves_congr {y z : Bay} (ha : z.state.active = y.state.active) (hg : z.grant = y.grant) : serves z = serves y := by
  simp [serves, ha, Bay.grantTag, hg]

/-- R91, on the register and what the bays serve. -/
def ArmedBy (l : List Vehicle) (g : BayId → Option (Option Nat)) : Prop :=
  (∀ v ∈ l, ∀ b, v.armedAt = some b ↔ g b = some (some v.tag)) ∧ ∀ b x, g b = some x → ∃ v ∈ l, x = some v.tag

theorem armedLaw_iff (s : State) : ArmedLaw s ↔ ArmedBy (view s).fleet (view s).serves := by
  have key : ∀ b x, serves (s.bay b) = some x ↔ (s.bay b).state.active = true ∧ (s.bay b).grantTag = x := by
    intro b x
    unfold serves
    split <;> simp_all
  simp only [ArmedLaw, ArmedBy, view, key]
  refine and_congr_right fun _ => forall_congr' fun b => ?_
  exact ⟨fun h x hx => by rw [← hx.2]; exact h hx.1, fun h ha => h _ ⟨ha, rfl⟩⟩

/-! ## The changes a command makes -/

/-- The changes of the register that arm and disarm no vehicle (02, R46, R54). -/
inductive Amends (l : List Vehicle) : List Vehicle → Prop
  /-- A record is written over the one with its tag (R29, R47, R54). -/
  | replace {v w : Vehicle} (found : findTag v.tag l = some v) (tag : w.tag = v.tag) (armed : w.armedAt = v.armedAt)
      (range : v.lawful → w.lawful) : Amends l (setVehicle w l)
  /-- A record joins (R28). -/
  | insert {v : Vehicle} (absent : findTag v.tag l = none) (room : l.length < 256) (low : 1 ≤ v.tag)
      (high : v.tag ≤ 4294967295) (armed : v.armedAt = none) (range : v.lawful) : Amends l (insertVehicle v l)
  /-- A record leaves (R31). -/
  | remove {v : Vehicle} (found : findTag v.tag l = some v) (armed : v.armedAt = none) : Amends l (removeTag v.tag l)
  /-- The shift is rolled (R34). -/
  | roll : Amends l (l.map Vehicle.roll)

/-- What the parts of a command make of the view, one after another; none puts a frame into the trunk transmit queue. -/
inductive Act : State → State → Prop
  | still {s t : State} (h : view t = view s) : Act s t
  | amend {s t : State} {l : List Vehicle} (how : Amends s.fleet l) (h : view t = { view s with fleet := l }) : Act s t
  /-- R66: bay b takes a grant for a vehicle that is not armed. -/
  | grant {s t : State} (b : BayId) (v : Vehicle) (found : findTag v.tag s.fleet = some v) (free : v.armedAt = none)
      (idle : (view s).serves b = none)
      (h : view t = { view s with
        fleet := setVehicle { v with armedAt := some b } s.fleet
        serves := Function.update (view s).serves b (some (some v.tag)) }) : Act s t
  /-- R86: the issue of bay b is complete and its vehicle is charged and disarmed. -/
  | ended {s t : State} (b : BayId) (g : Option Nat) (v w : Vehicle) (active : (view s).serves b = some g)
      (own : ∀ n, g = some n → n = v.tag) (found : findTag v.tag s.fleet = some v) (tag : w.tag = v.tag)
      (armed : w.armedAt = none) (range : v.lawful → w.lawful)
      (h : view t = { view s with
        fleet := setVehicle w s.fleet, serves := Function.update (view s).serves b none }) : Act s t
  /-- The same for a vehicle that is not in the register. -/
  | endedMissing {s t : State} (b : BayId) (g : Option Nat) (tag : Nat) (active : (view s).serves b = some g)
      (own : ∀ n, g = some n → n = tag) (missing : findTag tag s.fleet = none)
      (h : view t = { view s with serves := Function.update (view s).serves b none }) : Act s t
  | site {s t : State} (x : Site) (kept : (view s).site.lawful → x.lawful) (h : view t = { view s with site := x }) :
      Act s t
  | queues {s t : State} (q : Queues) (kept : (view s).queues.bounded → q.bounded)
      (trunk : q.trunkTx ≤ (view s).queues.trunkTx) (h : view t = { view s with queues := q }) : Act s t
  /-- R180: a cold start. -/
  | cold {s t : State} (hf : t.fleet = []) (hb : ∀ b, (view t).serves b = none) (hs : (view t).site.lawful)
      (hq : (view t).queues.bounded) (trunk : (view t).queues.trunkTx = 0) : Act s t
  | trans {s u t : State} (h1 : Act s u) (h2 : Act u t) : Act s t

/-- A frame joins the trunk transmit queue, which has room, or nothing of the view changes. -/
def Sends (s t : State) : Prop :=
  view t = view s ∨ ((view s).queues.trunkTx < 6 ∧
    view t = { view s with queues := { (view s).queues with trunkTx := (view s).queues.trunkTx + 1 } })

/-- What a whole command makes of the view: its work, at most one frame sent to the trunk, and how every event ends. -/
def Moves (s t : State) : Prop := ∃ u w, Act s u ∧ Sends u w ∧ Act w t

theorem Act.refl (s : State) : Act s s := .still rfl

theorem Act.moves {s t : State} (h : Act s t) : Moves s t := ⟨t, t, h, .inl rfl, .refl t⟩

/-- The work of a command puts no frame into the trunk transmit queue. -/
theorem Act.trunkTx_le {s t : State} (h : Act s t) : (view t).queues.trunkTx ≤ (view s).queues.trunkTx := by
  induction h with
  | still h | amend _ h | grant _ _ _ _ _ h | ended _ _ _ _ _ _ _ _ _ _ h | endedMissing _ _ _ _ _ _ h | site _ _ h =>
    rw [h]
  | queues q _ trunk h => rw [h]; exact trunk
  | cold _ _ _ _ trunk => omega
  | trans _ _ ih1 ih2 => omega

/-- A law that every part of a command and a frame sent keep is kept by the command. -/
theorem Moves.keeps {P : State → Prop} (act : ∀ {s t}, Act s t → P s → P t) (send : ∀ {s t}, Sends s t → P s → P t)
    {s t : State} (h : Moves s t) (hs : P s) : P t := by
  obtain ⟨u, w, h1, h2, h3⟩ := h
  exact act h3 (send h2 (act h1 hs))

/-! ## The register as a list -/

/-- Writing a record leaves the tags as they were. -/
theorem setVehicle_tags (w : Vehicle) (l : List Vehicle) : (setVehicle w l).map (·.tag) = l.map (·.tag) := by
  simp only [setVehicle, List.map_map]
  refine List.map_congr_left fun x _ => ?_
  by_cases h : x.tag = w.tag <;> simp [h]

/-- A record of the list after a write is the record written or another record. -/
theorem mem_setVehicle {w x : Vehicle} {l : List Vehicle} (h : x ∈ setVehicle w l) : x = w ∨ (x ∈ l ∧ x.tag ≠ w.tag) := by
  obtain ⟨y, hy, rfl⟩ := List.mem_map.1 h
  by_cases ht : y.tag = w.tag <;> simp [ht, hy]

/-- A write keeps every record with another tag. -/
theorem mem_setVehicle_other {w x : Vehicle} {l : List Vehicle} (h : x ∈ l) (ht : x.tag ≠ w.tag) : x ∈ setVehicle w l :=
  List.mem_map.2 ⟨x, h, by simp [ht]⟩

/-- The record found under a tag is held and has that tag. -/
theorem findTag_some {n : Nat} {l : List Vehicle} {v : Vehicle} (h : findTag n l = some v) : v ∈ l ∧ v.tag = n :=
  ⟨List.mem_of_find?_eq_some h, by simpa using List.find?_some h⟩

/-- No record is found exactly when none has the tag. -/
theorem findTag_none {n : Nat} {l : List Vehicle} : findTag n l = none ↔ ∀ v ∈ l, v.tag ≠ n := by
  simp [findTag]

/-- Where the tag is held, the record written is in the list. -/
theorem mem_setVehicle_self {v w : Vehicle} {l : List Vehicle} (h : findTag v.tag l = some v) (ht : w.tag = v.tag) :
    w ∈ setVehicle w l :=
  List.mem_map.2 ⟨v, (findTag_some h).1, by simp [ht]⟩

/-- The record written is the one found. -/
theorem findTag_setVehicle {v w : Vehicle} {l : List Vehicle} (h : findTag v.tag l = some v) (ht : w.tag = v.tag) :
    findTag w.tag (setVehicle w l) = some w := by
  have hall : ∀ x ∈ setVehicle w l, x.tag = w.tag → x = w := fun x hx he =>
    (mem_setVehicle hx).resolve_right fun hn => hn.2 he
  cases hf : findTag w.tag (setVehicle w l) with
  | none => exact absurd rfl (findTag_none.1 hf w (mem_setVehicle_self h ht))
  | some x => rw [hall x (findTag_some hf).1 (findTag_some hf).2]

/-- An insert adds the record and loses none. -/
theorem mem_insertVehicle {v x : Vehicle} {l : List Vehicle} : x ∈ insertVehicle v l ↔ x = v ∨ x ∈ l := by
  induction l with
  | nil => simp [insertVehicle]
  | cons y l ih =>
    unfold insertVehicle
    split
    · simp
    · simp only [List.mem_cons, ih]
      tauto

/-- An insert makes the list one longer. -/
theorem insertVehicle_length (v : Vehicle) (l : List Vehicle) : (insertVehicle v l).length = l.length + 1 := by
  induction l with
  | nil => rfl
  | cons y l ih =>
    unfold insertVehicle
    split <;> simp [ih]

/-- An insert of a tag that is not held keeps the ascending order. -/
theorem insertVehicle_ascending {v : Vehicle} {l : List Vehicle} (h : l.Pairwise (fun u v => u.tag < v.tag))
    (hn : ∀ x ∈ l, x.tag ≠ v.tag) : (insertVehicle v l).Pairwise (fun u v => u.tag < v.tag) := by
  induction l with
  | nil => simp [insertVehicle]
  | cons y l ih =>
    have ⟨hy, hl⟩ := List.pairwise_cons.1 h
    unfold insertVehicle
    split
    · rename_i hv
      refine List.pairwise_cons.2 ⟨fun x hx => ?_, h⟩
      rcases List.mem_cons.1 hx with rfl | hx
      · exact hv
      · have := hy x hx
        omega
    · refine List.pairwise_cons.2 ⟨fun x hx => ?_, ih hl fun x hx => hn x (List.mem_cons_of_mem _ hx)⟩
      rcases mem_insertVehicle.1 hx with rfl | hx
      · have := hn y List.mem_cons_self
        omega
      · exact hy x hx

/-! ## The laws, change by change -/

/-- `FleetLaw` on the list alone. -/
def Ordered (l : List Vehicle) : Prop :=
  l.length ≤ 256 ∧ l.Pairwise (fun u v => u.tag < v.tag) ∧ ∀ v ∈ l, 1 ≤ v.tag ∧ v.tag ≤ 4294967295

/-- The order rests on the tags alone. -/
theorem Ordered.of_tags {l m : List Vehicle} (h : Ordered l) (ht : m.map (·.tag) = l.map (·.tag)) : Ordered m := by
  obtain ⟨hlen, hasc, hrange⟩ := h
  refine ⟨?_, ?_, fun v hv => ?_⟩
  · simpa using (congrArg List.length ht).trans_le (by simpa using hlen)
  · rw [← List.pairwise_map (f := fun v : Vehicle => v.tag) (R := (· < ·)), ht, List.pairwise_map]
    exact hasc
  · have : v.tag ∈ l.map (·.tag) := ht ▸ List.mem_map_of_mem (f := fun v : Vehicle => v.tag) hv
    obtain ⟨u, hu, he⟩ := List.mem_map.1 this
    rw [← he]
    exact hrange u hu

theorem Amends.keeps_order {l m : List Vehicle} (h : Amends l m) (ho : Ordered l) : Ordered m := by
  cases h with
  | replace => exact ho.of_tags (setVehicle_tags ..)
  | roll => exact ho.of_tags (by simp [Vehicle.roll])
  | remove =>
    obtain ⟨hlen, hasc, hrange⟩ := ho
    exact ⟨(List.length_filter_le ..).trans hlen, hasc.sublist List.filter_sublist,
      fun v hv => hrange v (List.mem_of_mem_filter hv)⟩
  | insert absent room low high =>
    obtain ⟨hlen, hasc, hrange⟩ := ho
    refine ⟨by rw [insertVehicle_length]; omega, insertVehicle_ascending hasc (findTag_none.1 absent), fun v hv => ?_⟩
    rcases mem_insertVehicle.1 hv with rfl | hv
    · exact ⟨low, high⟩
    · exact hrange v hv

theorem fleetLaw_iff (s : State) : FleetLaw s ↔ Ordered (view s).fleet := Iff.rfl

theorem Act.keeps_fleetLaw {s t : State} (h : Act s t) (hs : FleetLaw s) : FleetLaw t := by
  induction h with
  | still h | endedMissing _ _ _ _ _ _ h | site _ _ h | queues _ _ _ h =>
    rw [fleetLaw_iff, h]
    exact hs
  | amend how h =>
    rw [fleetLaw_iff, h]
    exact how.keeps_order hs
  | grant _ _ _ _ _ h | ended _ _ _ _ _ _ _ _ _ _ h =>
    rw [fleetLaw_iff, h]
    exact Ordered.of_tags hs (setVehicle_tags ..)
  | cold hf => unfold FleetLaw; rw [hf]; simp
  | trans _ _ ih1 ih2 => exact ih2 (ih1 hs)

theorem Vehicle.roll_lawful {v : Vehicle} (h : v.lawful) : v.roll.lawful := by
  obtain ⟨hu, hf1, hf2, hn, hnd, hc, ha, hp, hh⟩ := h
  refine ⟨hu, hf1, hf2, hn, hnd, hc, fun a haa => ?_, hp, hh⟩
  obtain ⟨a', ha', rfl⟩ := Option.map_eq_some_iff.1 haa
  obtain ⟨h1, h2, -⟩ := ha a' ha'
  exact ⟨h1, h2, Nat.zero_le _⟩

/-- A lawful record written keeps the others' ranges. -/
theorem setVehicle_lawful {w : Vehicle} {l : List Vehicle} (hw : w.lawful) (hl : ∀ v ∈ l, v.lawful) :
    ∀ x ∈ setVehicle w l, x.lawful := by
  intro x hx
  rcases mem_setVehicle hx with rfl | hx
  · exact hw
  · exact hl x hx.1

theorem Amends.keeps_records {l m : List Vehicle} (h : Amends l m) (hl : ∀ v ∈ l, v.lawful) : ∀ v ∈ m, v.lawful := by
  cases h with
  | replace found tag armed range => exact setVehicle_lawful (range (hl _ (findTag_some found).1)) hl
  | insert _ _ _ _ _ range =>
    intro x hx
    rcases mem_insertVehicle.1 hx with rfl | hx
    · exact range
    · exact hl x hx
  | remove => exact fun x hx => hl x (List.mem_of_mem_filter hx)
  | roll =>
    intro x hx
    obtain ⟨v, hv, rfl⟩ := List.mem_map.1 hx
    exact Vehicle.roll_lawful (hl v hv)

theorem recordsLaw_iff (s : State) : RecordsLaw s ↔ ∀ v ∈ (view s).fleet, v.lawful := Iff.rfl

theorem Act.keeps_recordsLaw {s t : State} (h : Act s t) (hs : RecordsLaw s) : RecordsLaw t := by
  induction h with
  | still h | endedMissing _ _ _ _ _ _ h | site _ _ h | queues _ _ _ h =>
    rw [recordsLaw_iff, h]
    exact hs
  | amend how h =>
    rw [recordsLaw_iff, h]
    exact how.keeps_records hs
  | grant b v found _ _ h =>
    rw [recordsLaw_iff, h]
    exact setVehicle_lawful (w := { v with armedAt := some b }) (hs v (findTag_some found).1) hs
  | ended b g v w _ _ found _ _ range h =>
    rw [recordsLaw_iff, h]
    exact setVehicle_lawful (range (hs v (findTag_some found).1)) hs
  | cold hf => simp [RecordsLaw, hf]
  | trans _ _ ih1 ih2 => exact ih2 (ih1 hs)

theorem Amends.keeps_armed {l m : List Vehicle} (h : Amends l m) {g : BayId → Option (Option Nat)} (ha : ArmedBy l g) :
    ArmedBy m g := by
  obtain ⟨hv, hb⟩ := ha
  cases h with
  | @replace v w found tag armed range =>
    refine ⟨fun x hx b => ?_, fun b x hx => ?_⟩
    · rcases mem_setVehicle hx with rfl | hx
      · rw [armed, tag]
        exact hv v (findTag_some found).1 b
      · exact hv x hx.1 b
    · obtain ⟨u, hu, rfl⟩ := hb b x hx
      by_cases ht : u.tag = w.tag
      · exact ⟨w, mem_setVehicle_self found tag, by rw [ht]⟩
      · exact ⟨u, mem_setVehicle_other hu ht, rfl⟩
  | @insert v absent _ _ _ armed _ =>
    refine ⟨fun x hx b => ?_, fun b x hx => ?_⟩
    · rcases mem_insertVehicle.1 hx with rfl | hx
      · rw [armed]
        refine ⟨fun h => (by cases h), fun h => ?_⟩
        obtain ⟨u, hu, he⟩ := hb b _ h
        exact absurd (Option.some.inj he).symm (findTag_none.1 absent u hu)
      · exact hv x hx b
    · obtain ⟨u, hu, rfl⟩ := hb b x hx
      exact ⟨u, mem_insertVehicle.2 (.inr hu), rfl⟩
  | @remove v found armed =>
    refine ⟨fun x hx b => hv x (List.mem_of_mem_filter hx) b, fun b x hx => ?_⟩
    obtain ⟨u, hu, rfl⟩ := hb b x hx
    refine ⟨u, List.mem_filter.2 ⟨hu, ?_⟩, rfl⟩
    have : u.tag ≠ v.tag := fun he => by
      have := (hv v (findTag_some found).1 b).2 (he ▸ hx)
      simp [armed] at this
    simpa using this
  | roll =>
    refine ⟨fun x hx b => ?_, fun b x hx => ?_⟩
    · obtain ⟨v, hm, rfl⟩ := List.mem_map.1 hx
      exact hv v hm b
    · obtain ⟨u, hu, rfl⟩ := hb b x hx
      exact ⟨u.roll, List.mem_map_of_mem hu, rfl⟩

/-- R66: a grant arms its vehicle at its bay. -/
theorem ArmedBy.grant {l : List Vehicle} {g : BayId → Option (Option Nat)} (h : ArmedBy l g) (b : BayId) {v : Vehicle}
    (found : findTag v.tag l = some v) (free : v.armedAt = none) (idle : g b = none) :
    ArmedBy (setVehicle { v with armedAt := some b } l) (Function.update g b (some (some v.tag))) := by
  obtain ⟨hv, hb⟩ := h
  refine ⟨fun x hx c => ?_, fun c x hx => ?_⟩
  · rcases mem_setVehicle hx with rfl | ⟨hm, ht⟩
    · by_cases hc : c = b
      · simp [hc]
      · have := (hv v (findTag_some found).1 c).not.1 (by simp [free])
        simp [hc, this, Ne.symm hc]
    · by_cases hc : c = b
      · subst hc
        have hc' := (hv x hm c).not.2 (by simp [idle])
        simpa [hc'] using Ne.symm ht
      · simpa [hc] using hv x hm c
  · by_cases hc : c = b
    · simp only [hc, Function.update_self, Option.some.injEq] at hx
      exact ⟨_, mem_setVehicle_self (w := { v with armedAt := some b }) found rfl, hx.symm⟩
    · obtain ⟨u, hu, rfl⟩ := hb c x (by simpa [hc] using hx)
      by_cases ht : u.tag = v.tag
      · exact ⟨_, mem_setVehicle_self (w := { v with armedAt := some b }) found rfl, by rw [ht]⟩
      · exact ⟨u, mem_setVehicle_other hu ht, rfl⟩

/-- R86: a completion disarms the vehicle of its bay. -/
theorem ArmedBy.ended {l : List Vehicle} {g : BayId → Option (Option Nat)} (h : ArmedBy l g) {b : BayId} {x : Option Nat}
    {v w : Vehicle} (active : g b = some x) (own : ∀ n, x = some n → n = v.tag) (found : findTag v.tag l = some v)
    (tag : w.tag = v.tag) (armed : w.armedAt = none) :
    ArmedBy (setVehicle w l) (Function.update g b none) := by
  obtain ⟨hv, hb⟩ := h
  have hx : x = some v.tag := by
    obtain ⟨u, -, rfl⟩ := hb b x active
    rw [own _ rfl]
  subst hx
  have hat : v.armedAt = some b := (hv v (findTag_some found).1 b).2 active
  refine ⟨fun y hy c => ?_, fun c y hy => ?_⟩
  · rcases mem_setVehicle hy with rfl | ⟨hy, ht⟩
    · by_cases hc : c = b
      · simp [hc, armed]
      · have := (hv v (findTag_some found).1 c).not.1 (by simpa [hat] using Ne.symm hc)
        simpa [hc, armed, tag] using this
    · by_cases hc : c = b
      · subst hc
        have := (hv y hy c).not.2 (by rw [active]; simpa [← tag] using Ne.symm ht)
        simpa using this
      · simpa [hc] using hv y hy c
  · by_cases hc : c = b
    · simp [hc] at hy
    · obtain ⟨u, hu, rfl⟩ := hb c y (by simpa [hc] using hy)
      by_cases ht : u.tag = w.tag
      · exact ⟨w, mem_setVehicle_self found tag, by rw [ht]⟩
      · exact ⟨u, mem_setVehicle_other hu ht, rfl⟩

theorem Act.keeps_armedLaw {s t : State} (h : Act s t) (hs : ArmedLaw s) : ArmedLaw t := by
  induction h with
  | still h | site _ _ h | queues _ _ _ h =>
    rw [armedLaw_iff, h]
    exact (armedLaw_iff _).1 hs
  | amend how h =>
    rw [armedLaw_iff, h]
    exact how.keeps_armed ((armedLaw_iff _).1 hs)
  | grant b v found free idle h =>
    rw [armedLaw_iff, h]
    exact ((armedLaw_iff _).1 hs).grant b found free idle
  | ended b g v w active own found tag armed _ h =>
    rw [armedLaw_iff, h]
    exact ((armedLaw_iff _).1 hs).ended active own found tag armed
  | endedMissing b g tag active own missing h =>
    obtain ⟨u, hu, he⟩ := ((armedLaw_iff _).1 hs).2 b g active
    exact absurd (own _ he) (findTag_none.1 missing u hu)
  | cold hf hb =>
    rw [armedLaw_iff]
    refine ⟨fun v hv => ?_, fun b x hx => ?_⟩
    · simp [view, hf] at hv
    · rw [hb] at hx
      cases hx
  | trans _ _ ih1 ih2 => exact ih2 (ih1 hs)

theorem Act.keeps_settingsLaw {s t : State} (h : Act s t) (hs : SettingsLaw s) : SettingsLaw t := by
  induction h with
  | still h | amend _ h | grant _ _ _ _ _ h | ended _ _ _ _ _ _ _ _ _ _ h | endedMissing _ _ _ _ _ _ h | queues _ _ _ h =>
    rw [settingsLaw_iff, h]
    exact hs
  | site x kept h =>
    rw [settingsLaw_iff, h]
    exact kept hs
  | cold _ _ lawful => exact lawful
  | trans _ _ ih1 ih2 => exact ih2 (ih1 hs)

theorem Act.keeps_queuesBounded {s t : State} (h : Act s t) (hs : QueuesBounded s) : QueuesBounded t := by
  induction h with
  | still h | amend _ h | grant _ _ _ _ _ h | ended _ _ _ _ _ _ _ _ _ _ h | endedMissing _ _ _ _ _ _ h | site _ _ h =>
    rw [queuesBounded_iff, h]
    exact hs
  | queues q kept _ h =>
    rw [queuesBounded_iff, h]
    exact kept hs
  | cold _ _ _ bounded => exact bounded
  | trans _ _ ih1 ih2 => exact ih2 (ih1 hs)

/-- A frame sent to the trunk finds room, so the queues stay bounded. -/
theorem Sends.keeps_queuesBounded {s t : State} (h : Sends s t) (hs : QueuesBounded s) : QueuesBounded t := by
  rw [queuesBounded_iff] at hs ⊢
  rcases h with h | ⟨room, h⟩
  · rwa [h]
  · obtain ⟨h1, h2, h3, -⟩ := hs
    rw [h]
    exact ⟨h1, h2, h3, room⟩

/-- A frame sent to the trunk changes nothing that another law reads. -/
theorem Sends.frame {s t : State} (h : Sends s t) :
    (view t).fleet = (view s).fleet ∧ (view t).serves = (view s).serves ∧ (view t).site = (view s).site := by
  rcases h with h | ⟨-, h⟩ <;> rw [h] <;> exact ⟨rfl, rfl, rfl⟩

theorem Sends.keeps_fleetLaw {s t : State} (h : Sends s t) (hs : FleetLaw s) : FleetLaw t := by
  obtain ⟨hfleet, -, -⟩ := h.frame
  rw [fleetLaw_iff, hfleet]
  exact hs

theorem Sends.keeps_recordsLaw {s t : State} (h : Sends s t) (hs : RecordsLaw s) : RecordsLaw t := by
  obtain ⟨hfleet, -, -⟩ := h.frame
  rw [recordsLaw_iff, hfleet]
  exact hs

theorem Sends.keeps_armedLaw {s t : State} (h : Sends s t) (hs : ArmedLaw s) : ArmedLaw t := by
  obtain ⟨hfleet, hserves, -⟩ := h.frame
  rw [armedLaw_iff, hfleet, hserves]
  exact (armedLaw_iff _).1 hs

theorem Sends.keeps_settingsLaw {s t : State} (h : Sends s t) (hs : SettingsLaw s) : SettingsLaw t := by
  obtain ⟨-, -, hsite⟩ := h.frame
  rw [settingsLaw_iff, hsite]
  exact hs

/-! ## The shared operations -/

/-- An operation that leaves all that the laws read. -/
theorem Act.of_frame {s t : State} (h : t.fleet = s.fleet ∧ t.bays = s.bays ∧ t.podSettings = s.podSettings ∧
    t.classes = s.classes ∧ t.forwardDrops = s.forwardDrops ∧ t.station = s.station ∧ t.clock = s.clock ∧
    t.yard.rx = s.yard.rx ∧ t.yard.tx = s.yard.tx ∧ t.trunk = s.trunk) : Act s t := by
  obtain ⟨h1, h2, h3, h4, h5, h6, h7, h8, h9, h10⟩ := h
  exact .still (by simp [view, siteOf, queuesOf, State.bay, *])

/-- Parts made one after another. -/
theorem Act.foldl {α : Type} {f : State → α → State} (hf : ∀ s a, Act s (f s a)) (l : List α) (s : State) :
    Act s (l.foldl f s) := by
  induction l generalizing s with
  | nil => exact .refl s
  | cons a l ih => exact (hf s a).trans (ih _)

/-- The yard port's rate and mode are no part of its queues (R160). -/
theorem tryYardRate_queues (s : State) : s.tryYardRate.yard.rx = s.yard.rx ∧ s.tryYardRate.yard.tx = s.yard.tx := by
  unfold State.tryYardRate State.applyYardRate
  split <;> exact ⟨rfl, rfl⟩

theorem act_tryYardRate (s : State) : Act s s.tryYardRate :=
  .of_frame (by simp [tryYardRate_queues])

theorem act_setYardMode (s : State) (m : RateMode) : Act s (s.setYardMode m) :=
  .trans (.of_frame (by simp) : Act s { s with yardTarget := m }) (act_tryYardRate _)

theorem act_runAtOnce (s : State) : Act s s.runAtOnce :=
  .trans (.of_frame (by simp) : Act s { s with yardMode := .run, yardTarget := .run }) (act_tryYardRate _)

theorem act_log (s : State) (k : EventKind) : Act s (s.log k) := .of_frame (by simp)

theorem act_changePod (s : State) (p : PodState) : Act s (s.changePod p) := .of_frame (by simp)

theorem act_settled (s : State) : Act s s.settled := .of_frame (by simp)

theorem act_setTank (s : State) (t : TankId) (k : Tank) : Act s (s.setTank t k) := .of_frame (by simp)

theorem act_setProbeTank (s : State) (t : TankId) (k : ProbeTank) : Act s (s.setProbeTank t k) := .of_frame (by simp)

theorem act_raiseCensus (s : State) (t : TankId) (p : Purpose) : Act s (s.raiseCensus t p) := .of_frame (by simp)

theorem act_reformStanding (s : State) (t : TankId) : Act s (s.reformStanding t) := .of_frame (by simp)

/-- A change of a bay that leaves what it serves and its settings. -/
theorem act_setBay {s : State} {b : BayId} {y : Bay} (settings : y.settings = (s.bay b).settings)
    (grant : y.grant = (s.bay b).grant) (active : y.state.active = (s.bay b).state.active) : Act s (s.setBay b y) := by
  have key : ∀ k, serves ((s.setBay b y).bay k) = serves (s.bay k) ∧
      ((s.setBay b y).bay k).settings = (s.bay k).settings := by
    intro k
    by_cases hk : k = b
    · subst hk
      simp [settings, serves_congr active grant]
    · simp [hk]
  exact .still (by simp [view, siteOf, queuesOf, key])

/-- R70, R86: a notice joins the yard transmit queue, which has room, or is not sent. -/
theorem act_notice (s : State) (b : BayId) (kind : Byte) (body : Body) (wake : Bool) : Act s (s.notice b kind body wake) := by
  unfold State.notice
  split
  · rename_i room
    refine .queues { queuesOf s with yardTx := s.yard.tx.length + 1 } ?_ le_rfl ?_
    · rintro ⟨h1, -, h3, h4⟩
      exact ⟨h1, room, h3, h4⟩
    · simp [view, siteOf, queuesOf, State.bay, State.pushYardTx]
  · split
    · exact act_runAtOnce s
    · exact .refl s

/-! ## Completion -/

/-- R40: a counter lowered keeps its ranges. -/
theorem lowered_lawful (basis : Basis) (n : Nat) {c : Counter} (h : c.lawful) : (c.lowered basis n).lawful := by
  obtain ⟨h1, h2, h3, h4, h5, h6⟩ := h
  unfold Counter.lowered
  split
  · exact ⟨h1, h2, h3, h4, le_max_right _ _, max_le (by omega) (by omega)⟩
  · exact ⟨h1, h2, h3, h4, h5, h6⟩

theorem lowered_code (basis : Basis) (n : Nat) (c : Counter) : (c.lowered basis n).code = c.code := by
  unfold Counter.lowered
  split <;> rfl

/-- A record whose counters are lowered keeps its ranges, whatever else outside them changes. -/
theorem lowered_record_lawful (basis : Basis) (n : Nat) {v w : Vehicle} (h : v.lawful) (unit : w.unit = v.unit)
    (ceiling : w.fillCeiling = v.fillCeiling) (counters : w.counters = v.counters.map (Counter.lowered basis n))
    (permitted : w.permitted = v.permitted) (allowance : ∀ a, w.allowance = some a → a.lawful)
    (hours : ∀ x, w.lastHours = some x → x ≤ 9999999) : w.lawful := by
  obtain ⟨h1, h2, h3, h4, h5, h6, -, h8, -⟩ := h
  refine ⟨unit ▸ h1, ceiling ▸ h2, ceiling ▸ h3, by simpa [counters] using h4, ?_, ?_, allowance, permitted ▸ h8, hours⟩
  · simpa [counters, Function.comp_def, lowered_code] using h5
  · intro c hc
    rw [counters] at hc
    obtain ⟨d, hd, rfl⟩ := List.mem_map.1 hc
    exact lowered_lawful basis n (h6 d hd)

/-- R49: a charged record keeps its ranges. -/
theorem chargeIssue_lawful (limp : Bool) (net : Nat) (finish : Stamp) {v : Vehicle} (h : v.lawful) :
    (v.chargeIssue limp net finish).1.lawful := by
  have hs := (Vehicle.chargeIssue_spec limp net finish v).1
  generalize (v.chargeIssue limp net finish).1 = w at hs
  have h' := h
  obtain ⟨-, -, -, -, -, -, hallow, -, hhours⟩ := h'
  refine lowered_record_lawful .fuel net h ?_ ?_ ?_ ?_ (fun a ha => ?_) (fun x hx => hhours x ?_)
  · rw [hs]
  · rw [hs]
  · rw [hs]
  · rw [hs]
  · rw [hs] at ha
    obtain ⟨a', ha', rfl⟩ := Option.map_eq_some_iff.1 ha
    obtain ⟨h1, h2, -⟩ := hallow a' ha'
    exact ⟨h1, h2, Nat.min_le_right ..⟩
  · rw [hs] at hx
    exact hx

/-- R87, R99: an ended issue leaves its bay inactive, with its settings. -/
theorem movedOn_frame (c : CloseCause) (y : Bay) :
    ((y.ended c).movedOn c).state.active = false ∧ ((y.ended c).movedOn c).settings = y.settings := by
  have hd : ∀ z : Bay, z.toDraining.state.active = false ∧ z.toDraining.settings = z.settings := by
    intro z
    unfold Bay.toDraining
    split <;> exact ⟨rfl, rfl⟩
  unfold Bay.movedOn
  split
  · exact hd _
  · split
    · exact ⟨rfl, rfl⟩
    · split
      · exact ⟨rfl, rfl⟩
      · exact hd _

/-- R86: a completion disarms the vehicle of its bay and may send a notice. -/
theorem act_complete {s : State} {b : BayId} (c : CloseCause) (active : (s.bay b).state.active = true) :
    Act s (s.complete b c) := by
  let mid : State := { s with fleet := (s.complete b c).fleet, bays := (s.complete b c).bays }
  have hmid : view mid = { view s with
      fleet := (s.complete b c).fleet, serves := Function.update (view s).serves b none } := by
    have key : ∀ k, serves ((s.complete b c).bay k) = Function.update (view s).serves b none k ∧
        ((s.complete b c).bay k).settings = (s.bay k).settings := by
      intro k
      by_cases hk : k = b
      · subst hk
        obtain ⟨h1, h2⟩ := movedOn_frame c (s.bay k)
        rw [State.complete_bay_same]
        exact ⟨by simp [serves_inactive h1], h2⟩
      · rw [State.complete_bay_other _ _ _ _ hk]
        exact ⟨by simp [hk, view], rfl⟩
    show View.mk _ (fun k => serves ((s.complete b c).bay k)) { siteOf s with bays := fun k => ((s.complete b c).bay k).settings } _ = _
    simp only [key]
    rfl
  have hserves : (view s).serves b = some (s.bay b).grantTag := serves_active active
  have own : ∀ n, (s.bay b).grantTag = some n → n = (s.bay b).serving.tag := by
    intro n hn
    obtain ⟨g, hg, rfl⟩ := Option.map_eq_some_iff.1 hn
    simp [Bay.serving, hg]
  have h1 : Act s mid := by
    have hf := State.complete_fleet s b c
    cases hfind : findTag (s.bay b).serving.tag s.fleet with
    | none =>
      rw [hfind] at hf
      exact .endedMissing b _ _ hserves own hfind (by rw [hmid, hf]; rfl)
    | some v =>
      rw [hfind] at hf
      have ht := (findTag_some hfind).2
      have hs := (Vehicle.chargeIssue_spec (s.bay b).serving.limp (clOf (s.bay b).net) s.stamp v).1
      refine .ended b _ v _ hserves (ht ▸ own) (ht ▸ hfind) ?_ ?_ (chargeIssue_lawful _ _ _) (by rw [hmid, hf])
      · rw [hs]
      · rw [hs]
  obtain ⟨-, -, hyard⟩ := State.complete_yard s b c
  have h2 : Act mid (s.complete b c) := by
    refine .queues { queuesOf s with yardTx := (s.complete b c).yard.tx.length } ?_ le_rfl ?_
    · rintro ⟨q1, q2, q3, q4⟩
      refine ⟨q1, ?_, q3, q4⟩
      have q2 : s.yard.tx.length ≤ 8 := q2
      show (s.complete b c).yard.tx.length ≤ 8
      rw [hyard]
      dsimp only
      split
      · exact q2
      · rw [List.length_append, List.length_singleton]
        omega
    · simp only [view, siteOf, queuesOf, State.bay, State.complete_frame, hyard, mid]
  exact h1.trans h2

/-- R80, R82, R90: an issue ended from outside the bay. -/
theorem act_endIssue (s : State) (c : CloseCause) (b : BayId) : Act s (s.endIssue c b) := by
  unfold State.endIssue
  split
  · rename_i h
    exact act_complete c (by rw [h]; rfl)
  · rename_i h
    exact act_setBay rfl rfl (by rw [h]; rfl)
  · rename_i h
    exact act_setBay rfl rfl (by rw [h]; rfl)
  · exact .refl s

/-- A change of an active bay within its issue, and then its completion. -/
theorem act_setBay_complete {s : State} {b : BayId} {y : Bay} (c : CloseCause) (settings : y.settings = (s.bay b).settings)
    (grant : y.grant = (s.bay b).grant) (active : (s.bay b).state.active = true) (still : y.state.active = true) :
    Act s ((s.setBay b y).complete b c) :=
  .trans (act_setBay settings grant (by rw [active, still])) (act_complete c (by simpa using still))

/-! ## Tags -/

/-- R43: an hours reading that is kept lies in its range. -/
theorem parseTag_hours {bs : List Byte} {r : TagRead} (h : parseTag bs = some r) : ∀ x, r.hours = some x → x ≤ 9999999 := by
  have hfield : ∀ n x, hoursField n = some x → x ≤ 9999999 := by
    intro n x hx
    unfold hoursField at hx
    split at hx
    · cases hx
    · cases hx
      exact Nat.le_of_not_lt ‹_›
  unfold parseTag at h
  split at h
  · cases h
    simp
  · cases h
    exact hfield _
  · cases h

/-- R43 to R47: the hours step keeps a record's ranges. -/
theorem applyHours_lawful (ceiling : Nat) {hours : Option Nat} (range : ∀ x, hours = some x → x ≤ 9999999) {v : Vehicle}
    (h : v.lawful) : (v.applyHours ceiling hours).1.lawful := by
  have h' := h
  obtain ⟨h1, h2, h3, h4, h5, h6, h7, h8, -⟩ := h'
  have hset : ∀ x, hours = some x → ({ v with lastHours := some x } : Vehicle).lawful := fun x hx =>
    ⟨h1, h2, h3, h4, h5, h6, h7, h8, fun y hy => by cases hy; exact range x hx⟩
  unfold Vehicle.applyHours
  split
  · exact h
  · rename_i x
    split
    · exact hset x rfl
    · rename_i old _
      split
      · exact hset x rfl
      · refine lowered_record_lawful .hours (min (x - old) ceiling) (hset x rfl) rfl rfl ?_ rfl h7 fun y hy => ?_
        · exact (decrementCounters_counters ..).1
        · cases hy
          exact range x rfl

/-- R47: the hours step writes the vehicle's record. -/
theorem act_hoursStep (s : State) {v : Vehicle} {hours : Option Nat} (range : ∀ x, hours = some x → x ≤ 9999999)
    (found : findTag v.tag s.fleet = some v) : Act s (s.hoursStep v hours).1 := by
  obtain ⟨cs, l, x, hshape⟩ := Vehicle.applyHours_shape (s.classOf v).hourCeiling hours v
  refine .amend (.replace (w := (v.applyHours (s.classOf v).hourCeiling hours).1) found ?_ ?_
    fun h => applyHours_lawful _ range h) ?_
  · rw [hshape]
  · rw [hshape]
  · simp [view, siteOf, queuesOf, State.bay, State.hoursStep]

/-- The record the hours step answers is the one the register then holds; it is armed as before, and the bays stay. -/
theorem hoursStep_found (s : State) {v : Vehicle} (hours : Option Nat) (found : findTag v.tag s.fleet = some v) :
    findTag (s.hoursStep v hours).2.tag (s.hoursStep v hours).1.fleet = some (s.hoursStep v hours).2 ∧
      (s.hoursStep v hours).2.armedAt = v.armedAt ∧ (s.hoursStep v hours).1.bays = s.bays := by
  obtain ⟨cs, l, x, hshape⟩ := Vehicle.applyHours_shape (s.classOf v).hourCeiling hours v
  simp only [State.hoursStep, State.logAll_frame, State.setFleet_fleet, State.setFleet_bays]
  refine ⟨findTag_setVehicle found ?_, ?_, trivial⟩
  · rw [hshape]
  · rw [hshape]

/-- R66: a grant. -/
theorem act_grantAt (s : State) {b : BayId} {v : Vehicle} (hours : Option Nat) (wake : Bool)
    (found : findTag v.tag s.fleet = some v) (free : v.armedAt = none) (idle : (s.bay b).state.active = false) :
    Act s (s.grantAt b v hours wake) := by
  unfold State.grantAt
  refine .trans (.grant b v found free (serves_inactive idle) ?_) (act_notice ..)
  have key : ∀ k, serves ((s.setBay b ((s.bay b).takeGrant (grantCopy b v hours s))).bay k) =
        Function.update (view s).serves b (some (some v.tag)) k ∧
      ((s.setBay b ((s.bay b).takeGrant (grantCopy b v hours s))).bay k).settings = (s.bay k).settings := by
    intro k
    by_cases hk : k = b
    · subst hk
      simp only [State.bay_setBay_same, Function.update_self]
      exact ⟨rfl, rfl⟩
    · simp [hk, view]
  show View.mk _ (fun k => serves ((s.setBay b _).bay k)) { siteOf s with bays := fun k => ((s.setBay b _).bay k).settings } _ = _
  simp only [key]
  rfl

theorem act_refuseTag (s : State) (b : BayId) (tag : Nat) (code : RefusalCode) (wake : Bool) :
    Act s (s.refuseTag b tag code wake) := by
  unfold State.refuseTag
  dsimp only
  split
  · exact act_notice ..
  · exact (act_notice ..).trans (act_log ..)

/-- R59: what checks 1 to 6 have found when they let a tag through. -/
theorem earlyChecks_allow {b : BayId} {tag : Nat} {s : State} {v : Vehicle} (h : earlyChecks b tag s = .allow v) :
    findTag tag s.fleet = some v ∧ v.armedAt = none ∧ (s.bay b).state = .idle := by
  unfold earlyChecks at h
  split at h
  · cases h
  · split at h <;> try cases h
    · rename_i hidle
      unfold recordChecks at h
      split at h
      · cases h
      · repeat' split at h
        all_goals cases h
        exact ⟨‹_›, by simpa using ‹¬v.armedAt.isSome = true›, hidle⟩
    · split at h <;> cases h

/-- R59: the decision on a tag. -/
theorem act_decideTag (s : State) (b : BayId) {r : TagRead} (wake : Bool) (range : ∀ x, r.hours = some x → x ≤ 9999999) :
    Act s (s.decideTag b r wake) := by
  unfold State.decideTag
  split
  · exact act_refuseTag ..
  · exact act_notice ..
  · rename_i v hv
    obtain ⟨found, free, idle⟩ := earlyChecks_allow hv
    have found : findTag v.tag s.fleet = some v := (findTag_some found).2 ▸ found
    obtain ⟨hfound, hfree, hbays⟩ := hoursStep_found s r.hours found
    have hstep := act_hoursStep s range found
    dsimp only
    split
    · exact hstep.trans (act_refuseTag ..)
    · refine hstep.trans (act_grantAt _ _ _ hfound (hfree.trans free) ?_)
      rw [State.bay_congr hbays, idle]
      rfl

theorem act_takeTag (s : State) (b : BayId) (payload : List Byte) : Act s (s.takeTag b payload) := by
  unfold State.takeTag
  have hwake : Act s (if s.pod == .watch then s.changePod .inService else s) := by
    split
    · exact act_changePod ..
    · exact .refl s
  dsimp only
  split
  · rename_i r hr
    exact hwake.trans (act_decideTag _ _ _ (parseTag_hours hr))
  · refine hwake.trans ?_
    split
    · exact act_runAtOnce _
    · exact .refl _

/-! ## Tallies and valve reports -/

/-- R102: a tally leaves the bay's state, settings and grant copy. -/
theorem addTally_frame (m : Metered) (pulses : Nat) (y : Bay) :
    (y.addTally m pulses).settings = y.settings ∧ (y.addTally m pulses).grant = y.grant ∧
      (y.addTally m pulses).state = y.state := by
  unfold Bay.addTally
  split <;> exact ⟨rfl, rfl, rfl⟩

/-- R81: what a tally makes of an active bay is active, with its settings and grant copy. -/
theorem tallyFlowing_frame (t : Tally) (sample : Option Nat) {y : Bay} (h : y.state.active = true) :
    (tallyFlowing t sample y).settings = y.settings ∧ (tallyFlowing t sample y).grant = y.grant ∧
      (tallyFlowing t sample y).state.active = true := by
  unfold tallyFlowing
  split
  · exact ⟨rfl, rfl, rfl⟩
  · split
    · exact ⟨rfl, rfl, rfl⟩
    · split
      · exact ⟨rfl, rfl, rfl⟩
      · split
        · exact ⟨rfl, rfl, rfl⟩
        · split
          · exact ⟨rfl, rfl, rfl⟩
          · exact ⟨rfl, rfl, h⟩

theorem closingTally_frame (t : Tally) (sample : Option Nat) (y : Bay) :
    (y.closingTally t sample).settings = y.settings ∧ (y.closingTally t sample).grant = y.grant ∧
      (y.closingTally t sample).state = y.state := by
  unfold Bay.closingTally
  repeat' split
  all_goals exact ⟨rfl, rfl, rfl⟩

/-- R93: a fault at a bay that is not active leaves it so. -/
theorem act_faultIdle {s : State} {b : BayId} (cause : BayFaultCause) (h : (s.bay b).state.active = false) :
    Act s (s.faultIdle b cause) :=
  .trans (act_setBay (y := (s.bay b).toFaulted) rfl rfl (by rw [h]; rfl)) (act_log ..)

/-- Logging leaves the bays. -/
theorem log_bay (s : State) (k : EventKind) (b : BayId) : (s.log k).bay b = s.bay b := rfl

/-- R92: unassigned flow leaves a bay that is not active so. -/
theorem act_unaccounted {s : State} {b : BayId} (h : (s.bay b).state.active = false) :
    Act s (s.unaccounted b) ∧ ((s.unaccounted b).bay b).state.active = false := by
  unfold State.unaccounted
  dsimp only
  split
  · split
    · exact ⟨(act_log ..).trans (act_setBay rfl rfl (by rw [log_bay, h]; rfl)), by simp; rfl⟩
    · exact ⟨(act_log ..).trans (act_setBay rfl rfl rfl), by simpa using h⟩
  · exact ⟨.refl s, h⟩

theorem act_tallyGranted {s : State} {b : BayId} (t : Tally) (h : (s.bay b).state = .granted) : Act s (s.tallyGranted b t) := by
  unfold State.tallyGranted
  split
  · exact act_setBay_complete .meterFault rfl rfl (by rw [h]; rfl) (by show (s.bay b).state.active = true; rw [h]; rfl)
  · split
    · exact act_setBay rfl rfl (by rw [h]; rfl)
    · exact .refl s

theorem act_tallyFlowing {s : State} {b : BayId} (t : Tally) (sample : Option Nat) (h : (s.bay b).state.active = true) :
    Act s (s.setBay b (tallyFlowing t sample (s.bay b))) := by
  obtain ⟨settings, grant, active⟩ := tallyFlowing_frame t sample h
  exact act_setBay settings grant (by rw [active, h])

theorem act_tallyClosing {s : State} {b : BayId} (t : Tally) (sample : Option Nat) (h : (s.bay b).state = .closing) :
    Act s (s.tallyClosing b t sample) := by
  unfold State.tallyClosing
  obtain ⟨settings, grant, state⟩ := closingTally_frame t sample (s.bay b)
  dsimp only
  split
  · exact act_setBay_complete _ settings grant (by rw [h]; rfl) (by rw [state, h]; rfl)
  · exact act_setBay settings grant (by rw [state])

theorem act_tallyInactive {s : State} {b : BayId} (t : Tally) (taken : BayState) (h : (s.bay b).state.active = false) :
    Act s (s.tallyInactive b t taken) := by
  unfold State.tallyInactive
  obtain ⟨hact, hinactive⟩ := act_unaccounted h
  dsimp only
  split
  · exact hact.trans (act_faultIdle _ hinactive)
  · exact hact

/-- R108: a tally handed over to a bay in the state it was taken in. -/
theorem act_handTally (s : State) (b : BayId) (t : Tally) (sample : Option Nat) :
    Act s (s.handTally b t sample (s.bay b).state) := by
  unfold State.handTally
  split
  · exact act_tallyGranted t ‹_›
  · exact act_tallyFlowing t sample (by rw [‹(s.bay b).state = _›]; rfl)
  · exact act_tallyFlowing t sample (by rw [‹(s.bay b).state = _›]; rfl)
  · exact act_tallyClosing t sample ‹_›
  · refine act_tallyInactive t _ ?_
    cases hst : (s.bay b).state <;> simp_all [BayState.active]

theorem act_debit (s : State) (t : TankId) (n : Nat) : Act s (s.debit t n) := .of_frame (by simp)

/-- R101: the work done for one tally. -/
theorem act_takeTally (s : State) (b : BayId) (t : Tally) : Act s (s.takeTally b t) := by
  unfold State.takeTally
  dsimp only
  generalize hm : meter (s.bay b) (s.tank (s.bay b).settings.tank) t = m
  obtain ⟨settings, grant, state⟩ := addTally_frame m t.pulses (s.bay b)
  let u := (s.setBay b ((s.bay b).addTally m t.pulses)).debit (s.bay b).settings.tank m.net
  have hu : Act s u := (act_setBay settings grant (by rw [state])).trans (act_debit ..)
  have hstate : (u.bay b).state = (s.bay b).state := by simp [u, State.bay, State.debit_frame]; exact state
  have := act_handTally u b t m.sample
  rw [hstate] at this
  exact hu.trans this

/-- R110: a valve report taken. -/
theorem act_takeValve (s : State) (b : BayId) (r : ReportedValve) : Act s (s.takeValve b r) := by
  unfold State.takeValve
  refine .trans (act_setBay (y := { s.bay b with reported := some r }) rfl rfl rfl) ?_
  generalize s.setBay b { s.bay b with reported := some r } = u
  unfold State.handValve
  have keep : ∀ (p : Prop) [Decidable p] (x : State), Act u x → Act u (if p then x else u) := by
    intro p _ x hx
    split
    · exact hx
    · exact .refl u
  split <;> rename_i h
  · exact keep _ _ (act_setBay_complete .valve rfl rfl (by rw [h]; rfl)
      (by show (u.bay b).state.active = true; rw [h]; rfl))
  · exact keep _ _ (act_setBay rfl rfl (by rw [h]; rfl))
  · exact keep _ _ (act_setBay rfl rfl (by rw [h]; rfl))
  · refine act_setBay ?_ ?_ ?_ <;> unfold Bay.closingReport <;> dsimp only <;> split <;> rfl
  · exact keep _ _ (act_faultIdle _ (by rw [h]; rfl))
  · exact keep _ _ (act_faultIdle _ (by rw [h]; rfl))
  · exact .refl u
  · exact .refl u

/-! ## Censuses and tanks -/

theorem act_waterTest (s : State) (t : TankId) (level : Nat) : Act s (s.waterTest t level) := by
  unfold State.waterTest
  split
  · refine ((act_setTank ..).trans (act_log ..)).trans (.foldl (fun u b => ?_) _ _)
    split
    · exact act_endIssue u .tank b
    · exact .refl u
  · exact .refl s

theorem act_varianceTest (s : State) (t : TankId) (net : Int) : Act s (s.varianceTest t net) := by
  unfold State.varianceTest
  dsimp only
  split
  · split
    · split
      · exact ((act_setTank ..).trans (act_log ..)).trans (act_setTank ..)
      · exact (act_setTank ..).trans (act_log ..)
    · exact act_setTank ..
  · exact act_setTank ..

theorem act_censusTests (s : State) (r : CensusResult) : Act s (s.censusTests r) := by
  unfold State.censusTests
  split
  · dsimp only
    split
    · exact (act_waterTest ..).trans (act_varianceTest ..)
    · exact act_waterTest ..
  · exact .refl s

theorem act_applyOwn (s : State) (t : TankId) (own : Bool) (net : Option Int) : Act s (s.applyOwn t own net) := by
  unfold State.applyOwn
  split
  · split
    · exact act_setTank ..
    · unfold State.completeDelivery
      exact .of_frame (by simp)
    · exact .refl s
  · exact .refl s

theorem act_gaugeStep (s : State) (t : TankId) (failed : Bool) : Act s (s.gaugeStep t failed) := by
  unfold State.gaugeStep
  exact .of_frame (by simp)

theorem act_endCensus (s : State) (t : TankId) : Act s (s.endCensus t) := .of_frame (by simp)

/-- R135: the Tank Account Unit takes a result. -/
theorem act_takeResult (s : State) (r : CensusResult) (own : Bool) : Act s (s.takeResult r own) :=
  ((act_setTank ..).trans (act_applyOwn ..)).trans (act_censusTests ..)

/-- R122: the hand-off of a census result. -/
theorem act_handOff (s : State) (c : CensusInFlight) (outcome : CensusOutcome) (reading : Option Reading) :
    Act s (s.handOff c outcome reading) :=
  ((act_gaugeStep ..).trans (act_takeResult ..)).trans (act_endCensus ..)

theorem act_ackFails (s : State) (c : CensusInFlight) (phase : AckPhase) : Act s (s.ackFails c phase) := by
  unfold State.ackFails
  dsimp only
  split
  · exact .of_frame (by simp)
  · exact .trans (.of_frame (by simp)) (act_handOff ..)

theorem act_censusCompletes (s : State) (c : CensusInFlight) (d : ReadingBlock) : Act s (s.censusCompletes c d) :=
  .trans (.of_frame (by simp) : Act s (s.drive _)) (act_handOff ..)

theorem act_closeDelivery (s : State) (t : TankId) (d : Delivery) (expired : Bool) : Act s (s.closeDelivery t d expired) :=
  (act_setTank ..).trans (act_raiseCensus ..)

theorem act_disown (s : State) (t : TankId) : Act s (s.disown t) := .of_frame (by simp)

theorem act_windowExpires (s : State) (t : TankId) : Act s (s.windowExpires t) := by
  unfold State.windowExpires
  split
  · exact (act_disown ..).trans (act_closeDelivery ..)
  · exact .refl s

/-! ## Ports and time -/

/-- A shorter or equal queue at each port. -/
theorem act_shorten {s t : State} (q : Queues) (yardRx : q.yardRx ≤ s.yard.rx.length) (yardTx : q.yardTx ≤ s.yard.tx.length)
    (trunkRx : q.trunkRx ≤ s.trunk.rx.length) (trunkTx : q.trunkTx ≤ s.trunk.tx.length)
    (h : view t = { view s with queues := q }) : Act s t :=
  .queues q (fun ⟨h1, h2, h3, h4⟩ => ⟨yardRx.trans h1, yardTx.trans h2, trunkRx.trans h3, trunkTx.trans h4⟩) trunkTx h

theorem act_popYard (s : State) : Act s s.popYard :=
  act_shorten { queuesOf s with yardRx := s.yard.rx.tail.length } (by simp) le_rfl le_rfl le_rfl rfl

theorem act_popTrunk (s : State) : Act s s.popTrunk :=
  act_shorten { queuesOf s with trunkRx := s.trunk.rx.tail.length } le_rfl le_rfl (by simp) le_rfl rfl

theorem act_countDrop (s : State) : Act s s.countDrop :=
  .site { siteOf s with drops := addCount16 s.forwardDrops }
    (fun ⟨h1, h2, h3, _, h5⟩ => ⟨h1, h2, h3, addCount16_le _, h5⟩) rfl

theorem act_forwardToYard (s : State) (f : Frame) : Act s (s.forwardToYard f) := by
  unfold State.forwardToYard
  split
  · rename_i room
    refine .queues { queuesOf s with yardTx := s.yard.tx.length + 1 } ?_ le_rfl ?_
    · rintro ⟨h1, -, h3, h4⟩
      exact ⟨h1, room, h3, h4⟩
    · simp [view, siteOf, queuesOf, State.bay, State.pushYardTx]
  · exact act_countDrop s

/-- A frame placed in the trunk transmit queue, which has room. -/
theorem sends_pushTrunkTx {s : State} (room : s.trunk.tx.length < 6) (e : TxEntry) : Sends s (s.pushTrunkTx e) :=
  .inr ⟨room, by simp [view, siteOf, queuesOf, State.bay, State.pushTrunkTx]⟩

theorem Moves.act {s u t : State} (h : Moves s u) (h2 : Act u t) : Moves s t := by
  obtain ⟨x, y, hx, hs, hy⟩ := h
  exact ⟨x, y, hx, hs, hy.trans h2⟩

theorem Act.then {s u t : State} (h : Act s u) (h2 : Moves u t) : Moves s t := by
  obtain ⟨x, y, hx, hs, hy⟩ := h2
  exact ⟨x, y, h.trans hx, hs, hy⟩

theorem Sends.moves {s t : State} (h : Sends s t) : Moves s t := ⟨s, t, .refl s, h, .refl t⟩

theorem moves_forwardToTrunk (s : State) (f : Frame) : Moves s (s.forwardToTrunk f) := by
  unfold State.forwardToTrunk
  split
  · exact (sends_pushTrunkTx ‹_› _).moves
  · exact (act_countDrop s).moves

/-- R164: a frame that may be taken from the trunk finds room for its answer. -/
theorem trunkHead_room {s : State} {f : Frame} (h : s.trunkHead = some f) : s.trunk.tx.length < 6 := by
  unfold State.trunkHead at h
  split at h
  · simp_all
  · cases h

theorem moves_passFromTrunk {s : State} (f : Frame) (room : s.trunk.tx.length < 6) : Moves s (s.passFromTrunk f) := by
  unfold State.passFromTrunk
  split
  · split
    · exact (sends_pushTrunkTx room _).moves
    · exact (act_forwardToYard s f).moves
  · exact (act_forwardToYard s f).moves

/-- A port's receiver, transmitter and flags are no part of its queues. -/
theorem act_setPort {s : State} {p : PortId} {x : Port} (rx : x.rx = (s.port p).rx) (tx : x.tx = (s.port p).tx) :
    Act s (s.setPort p x) := by
  cases p <;> exact .still (by simp_all [view, siteOf, queuesOf, State.bay, State.setPort, State.port])

theorem act_restartWatch (s : State) : Act s s.restartWatch := .of_frame (by simp)

/-- R161: a frame joins a receive queue that has room. -/
theorem act_placeFrame {s : State} {p : PortId} (f : Frame) (room : (s.port p).rx.length < rxCap p) :
    Act s (s.placeFrame p f) := by
  unfold State.placeFrame
  refine .trans ?_ (act_restartWatch _)
  cases p
  · refine .queues { queuesOf s with yardRx := s.yard.rx.length + 1 } ?_ le_rfl ?_
    · rintro ⟨-, h2, h3, h4⟩
      exact ⟨room, h2, h3, h4⟩
    · simp [view, siteOf, queuesOf, State.bay, State.setPort, State.port]
  · refine .queues { queuesOf s with trunkRx := s.trunk.rx.length + 1 } ?_ le_rfl ?_
    · rintro ⟨h1, h2, -, h4⟩
      exact ⟨h1, h2, room, h4⟩
    · simp [view, siteOf, queuesOf, State.bay, State.setPort, State.port]

theorem act_frameEnds (s : State) (p : PortId) (e : RxEnd) : Act s (s.frameEnds p e) := by
  unfold State.frameEnds
  split
  · split
    · exact .refl s
    · exact act_setPort rfl rfl
  · split
    · split
      · exact .refl s
      · exact act_placeFrame _ ‹_›
    · split
      · exact .refl s
      · exact act_setPort rfl rfl

theorem act_receiveChar (p : PortId) (s : State) (c : RxChar) : Act s (State.receiveChar p s c) := by
  unfold State.receiveChar
  dsimp only
  have h : Act s (s.setPort p { s.port p with receiver := (takeChar (s.port p).receiver c).1 }) := act_setPort rfl rfl
  split
  · exact h
  · exact h.trans (act_frameEnds ..)

theorem act_takeRate (s : State) (p : PortId) : Act s (s.takeRate p) := by
  cases p <;> exact .still rfl

theorem act_takeNext (s : State) (p : PortId) : Act s (s.takeNext p) := by
  unfold State.takeNext
  split
  · rename_i b _
    exact .trans (act_setBay (b := b) (y := { s.bay b with slot := { (s.bay b).slot with pending := false } }) rfl rfl rfl)
      (.still rfl)
  · split
    · exact .refl s
    · exact act_setPort rfl rfl

theorem act_lastCharacter (s : State) (p : PortId) : Act s (s.lastCharacter p) := by
  unfold State.lastCharacter
  split
  · exact .refl s
  · exact act_setPort rfl rfl
  · have h : Act s (s.setPort p { s.port p with sending := none, tx := (s.port p).tx.tail }) := by
      cases p
      · exact act_shorten { queuesOf s with yardTx := s.yard.tx.tail.length } le_rfl (by simp) le_rfl le_rfl rfl
      · exact act_shorten { queuesOf s with trunkTx := s.trunk.tx.tail.length } le_rfl le_rfl le_rfl (by simp) rfl
    dsimp only
    split
    · split
      · exact h.trans (act_setYardMode ..)
      · exact h
    · exact h

/-- R77: time that passes changes no bay's state, settings or grant. -/
theorem act_elapse (s : State) (ms : Nat) : Act s (s.elapse ms) := by
  have key : ∀ b, (s.elapse ms).bay b = (s.bay b).elapse ms := fun b => by simp [State.elapse, State.bay]
  refine .still ?_
  simp only [view, siteOf, queuesOf, key, State.elapse_frame]
  rfl

/-- R172: the clock stays below 2 to the 32. -/
theorem act_tickClock (s : State) : Act s s.tickClock :=
  .site { siteOf s with clock := (s.clock + 1) % Config.wrap32 }
    (fun ⟨h1, h2, h3, h4, h5, h6, _⟩ => ⟨h1, h2, h3, h4, h5, h6, Nat.mod_lt _ (by decide)⟩) rfl

theorem act_idleStep (s : State) : Act s s.idleStep := by
  unfold State.idleStep
  split
  · dsimp only
    split
    · exact (act_elapse ..).trans (act_tickClock _)
    · exact (act_elapse ..).trans (.still rfl)
  · exact .refl s

/-! ## Starts and losses of power -/

/-- R179: a station number in use lies from 1 to 239. -/
theorem stationOf_range (x : Byte) : 1 ≤ (stationOf x).toNat ∧ (stationOf x).toNat ≤ 239 := by
  unfold stationOf
  split
  · assumption
  · decide

/-- R169: the ports made fresh, the drop count 0 and the station read again. -/
theorem act_freshPorts {s t : State} (hf : t.fleet = s.fleet) (hb : t.bays = s.bays) (hp : t.podSettings = s.podSettings)
    (hc : t.classes = s.classes) (hk : t.clock = s.clock) (hd : t.forwardDrops = 0)
    (hs : t.station = s.station ∨ ∃ x, t.station = stationOf x)
    (hy : t.yard = Port.fresh s.podSettings.yardRate) (ht : t.trunk = Port.fresh s.podSettings.trunkRate) : Act s t := by
  let mid : State := { s with yard := t.yard, trunk := t.trunk }
  refine .trans (u := mid) ?_ (.site { siteOf s with drops := 0, station := t.station } ?_ ?_)
  · refine act_shorten { yardRx := 0, yardTx := 0, trunkRx := 0, trunkTx := 0 } ?_ ?_ ?_ ?_ ?_
    · exact Nat.zero_le _
    · exact Nat.zero_le _
    · exact Nat.zero_le _
    · exact Nat.zero_le _
    · simp [mid, view, siteOf, queuesOf, State.bay, hy, ht, Port.fresh]
  · rintro ⟨h1, h2, h3, -, h5, h6, h7⟩
    rcases hs with hs | ⟨x, hs⟩
    · exact ⟨h1, h2, h3, Nat.zero_le _, hs ▸ h5, hs ▸ h6, h7⟩
    · obtain ⟨hlow, hhigh⟩ := stationOf_range x
      exact ⟨h1, h2, h3, Nat.zero_le _, hs ▸ hlow, hs ▸ hhigh, h7⟩
  · simp [mid, view, siteOf, queuesOf, State.bay, hf, hb, hp, hc, hk, hd]

theorem act_losePower (s : State) : Act s s.losePower :=
  act_freshPorts rfl rfl rfl rfl rfl rfl (.inl rfl) rfl rfl

theorem act_rebuild (straps : Byte) (s : State) : Act s (State.rebuild straps s) :=
  act_freshPorts rfl rfl rfl rfl rfl rfl (.inr ⟨straps, rfl⟩) rfl rfl

theorem act_restartBay (s : State) (b : BayId) : Act s (s.restartBay b) := by
  unfold State.restartBay
  dsimp only
  split
  · exact act_complete _ ‹_›
  · split
    · rename_i h
      have hd : ∀ y : Bay, y.toDraining.settings = y.settings ∧ y.toDraining.grant = y.grant ∧
          y.toDraining.state.active = false := by
        intro y
        unfold Bay.toDraining
        split <;> exact ⟨rfl, rfl, rfl⟩
      obtain ⟨h1, h2, h3⟩ := hd (s.bay b)
      exact act_setBay h1 h2 (by rw [h3, h]; rfl)
    · exact .refl s

theorem act_orderShut (s : State) : Act s (s.mapBays (Bay.order .shut)) := by
  have key : ∀ b, (s.mapBays (Bay.order .shut)).bay b = (s.bay b).order .shut := fun b => by
    simp [State.mapBays, State.bay]
  refine .still ?_
  simp only [view, siteOf, queuesOf, key, State.mapBays_frame]
  rfl

/-- R181: each part of a warm start. -/
theorem act_warmPart (straps : Byte) {p : State → State} (hp : p ∈ warmParts straps) (s : State) : Act s (p s) := by
  simp only [warmParts, bayList, List.map_cons, List.map_nil, List.cons_append, List.nil_append, List.mem_cons,
    List.not_mem_nil, or_false] at hp
  rcases hp with rfl | rfl | rfl | rfl | rfl | rfl | rfl | rfl
  · exact act_rebuild ..
  · exact act_log ..
  · unfold State.leaveWatch
    split
    · exact act_changePod ..
    · exact .refl s
  · exact act_restartBay ..
  · exact act_restartBay ..
  · exact act_restartBay ..
  · exact act_restartBay ..
  · exact act_orderShut s

theorem act_makeParts {ps : List (State → State)} (h : ∀ p ∈ ps, ∀ s, Act s (p s)) (s : State) : Act s (s.makeParts ps) := by
  induction ps generalizing s with
  | nil => exact .refl s
  | cons p ps ih =>
    exact (h p List.mem_cons_self s).trans (ih (fun q hq => h q (List.mem_cons_of_mem _ hq)) _)

theorem act_restartProbe (s : State) : Act s s.restartProbe := by
  have hsettle : ∀ (u : State) t, Act u (u.restartSettle t) := by
    intro u t
    unfold State.restartSettle
    split
    · exact .of_frame (by simp)
    · exact .refl u
  have habandon : ∀ u : State, Act u u.abandonCensus := by
    intro u
    unfold State.abandonCensus
    split
    · exact .of_frame (by simp)
    · exact .refl u
  have htimer : ∀ u : State, Act u u.startCensusTimer := fun u => .of_frame (by simp)
  exact (((hsettle ..).trans (hsettle ..)).trans (habandon _)).trans (htimer _)

theorem queuesBounded_reset : QueuesBounded State.reset := by
  unfold QueuesBounded
  decide

/-- R25, R75, R172, R173, R179: the cold-start settings lie in their ranges. -/
theorem settingsLaw_reset : SettingsLaw State.reset := by
  have hbay : ∀ t, (BaySettings.cold t).lawful := fun t => by simp [BaySettings.lawful, BaySettings.cold]
  refine ⟨fun b => ?_, ?_, fun c => ?_, Nat.zero_le _, by decide, by decide, by decide⟩
  · cases b <;> exact hbay _
  · simp [PodSettings.lawful, Rate.lawful, State.reset, PodSettings.cold]
  · simp [State.reset, ClassEntry.lawful]

theorem act_coldStart (straps : Byte) (s : State) : Act s (State.coldStart straps s) := by
  obtain ⟨hlow, hhigh⟩ := stationOf_range straps
  obtain ⟨hbays, hpod, hclasses, hdrops, -, -, hclock⟩ := settingsLaw_reset
  refine .cold rfl (fun b => ?_) ⟨hbays, hpod, hclasses, hdrops, hlow, hhigh, hclock⟩ queuesBounded_reset rfl
  cases b <;> rfl

/-! ## FLEET PUT's payload and checks -/

/-- Fields read at the given widths lie below their powers of 256. -/
theorem fieldsOf_lt {ws : List Nat} {bs : List Byte} {xs : List Nat} (h : fieldsOf ws bs = some xs) :
    List.Forall₂ (fun w x => x < 256 ^ w) ws xs := by
  induction ws generalizing bs xs with
  | nil =>
    cases bs with
    | nil => cases h; exact .nil
    | cons b bs => cases h
  | cons w ws ih =>
    unfold fieldsOf at h
    split at h
    · cases h
    · obtain ⟨ys, hys, rfl⟩ := Option.map_eq_some_iff.1 h
      refine .cons ?_ (ih hys)
      have := beNat_lt (bs.take w)
      rwa [List.length_take, Nat.min_eq_left (by omega)] at this

/-- Members read at the given widths lie below their powers of 256, each field of each. -/
theorem membersOf_lt {ws : List Nat} {n : Nat} {bs : List Byte} {ms : List (List Nat)} (h : membersOf ws n bs = some ms) :
    ∀ m ∈ ms, List.Forall₂ (fun w x => x < 256 ^ w) ws m := by
  induction n generalizing bs ms with
  | zero =>
    cases bs with
    | nil => cases h; simp
    | cons b bs => cases h
  | succ n ih =>
    unfold membersOf at h
    split at h
    · rename_i hm hms
      cases h
      intro m hm'
      rcases List.mem_cons.1 hm' with rfl | hm'
      · exact fieldsOf_lt hm
      · exact ih hms m hm'
    · cases h

/-- The fields of a FLEET PUT lie in the widths of its payload (11.1). -/
theorem parseFleetPut_lt {bs : List Byte} {r : FleetPutReq} (h : parseFleetPut bs = some r) :
    r.tag ≤ 4294967295 ∧ r.unit ≤ 65535 ∧ r.allowance ≤ 65535 ∧ ∀ c ∈ r.counters, c.code ≤ 255 := by
  unfold parseFleetPut at h
  split at h
  · rename_i hfields
    have hlt := fieldsOf_lt hfields
    split at h
    · rename_i ms hms
      cases h
      simp only [List.forall₂_cons] at hlt
      obtain ⟨htag, hunit, -, -, -, -, -, hallow, -⟩ := hlt
      refine ⟨Nat.le_of_lt_succ htag, Nat.le_of_lt_succ hunit, Nat.le_of_lt_succ hallow, fun c hc => ?_⟩
      obtain ⟨m, hm, hcm⟩ := List.mem_filterMap.1 hc
      have hmlt := membersOf_lt hms m hm
      unfold counterReq at hcm
      split at hcm
      · cases hcm
        simp only [List.forall₂_cons] at hmlt
        exact Nat.le_of_lt_succ hmlt.1
      · cases hcm
    · cases h
  · cases h

/-- A clamp with the lower bound 0. -/
theorem clampNat_upTo (hi n : Nat) : clampNat 0 hi n ≤ hi := clampNat_le (Nat.zero_le hi) n

/-- R27, R28: the counter of a counter request: its basis named, its values clamped, its remaining at its interval. -/
def newCounter (c : CounterReq) : Counter :=
  { code := c.code, basis := if c.basis = 0 then .hours else .fuel, interval := clampNat 1 99999999 c.interval
    grace := clampNat 0 99999999 c.grace, remaining := (clampNat 1 99999999 c.interval : Nat) }

/-- R27: a counter request has a counter exactly when its basis names one. -/
theorem counter_eq (c : CounterReq) : c.counter = if c.basis ≤ 1 then some (newCounter c) else none := by
  unfold CounterReq.counter newCounter basisOf
  split <;> simp_all
  omega

/-- R27: a list of counter requests has its counters exactly when every basis names one. -/
theorem countersOf_eq (cs : List CounterReq) :
    countersOf cs = if ∀ c ∈ cs, c.basis ≤ 1 then some (cs.map newCounter) else none := by
  induction cs with
  | nil => simp [countersOf]
  | cons c cs ih =>
    unfold countersOf
    rw [counter_eq, ih]
    simp only [List.forall_mem_cons]
    split <;> split <;> simp_all

/-- A list has a repeat exactly when it is not free of duplicates. -/
theorem hasRepeat_iff (l : List Nat) : hasRepeat l = true ↔ ¬l.Nodup := by
  induction l with
  | nil => simp [hasRepeat]
  | cons x xs ih =>
    simp only [hasRepeat, Bool.or_eq_true, List.contains_iff_mem, ih, List.nodup_cons]
    tauto

theorem newCounter_lawful {c : CounterReq} (h : c.code ≤ 255) : (newCounter c).lawful := by
  have h1 := clampNat_ge (by omega : 1 ≤ 99999999) c.interval
  have h2 := clampNat_le (by omega : 1 ≤ 99999999) c.interval
  refine ⟨h, h1, h2, clampNat_upTo .., ?_, ?_⟩ <;> dsimp only [newCounter] <;> omega

/-- R27: what the checks of a FLEET PUT have found when they let it through. -/
theorem check_some {r : FleetPutReq} {v : Vehicle} {keep : Bool} (h : r.check = some (v, keep)) :
    ∃ (hc : r.cls < 16) (st : VehicleStatus), statusOf r.status = some st ∧ yesNo r.keep = some keep ∧
      (∀ c ∈ r.counters, c.basis ≤ 1) ∧ r.tag ≠ 0 ∧ permittedEmpty (permittedField r.permitted) = false ∧
      r.counters.length ≤ 3 ∧ (r.counters.map (·.code)).Nodup ∧
      v = r.record ⟨r.cls, hc⟩ st (r.counters.map newCounter) := by
  unfold FleetPutReq.check at h
  split at h
  · rename_i hc
    split at h
    · rename_i st cs keep' hst hcs hk
      split at h
      · cases h
      · rename_i hn
        cases h
        rw [countersOf_eq] at hcs
        split at hcs
        · rename_i hb
          cases hcs
          simp only [not_or, List.map_map, hasRepeat_iff, not_not, List.length_map, not_lt, Bool.not_eq_true] at hn
          obtain ⟨h1, h2, h3, h4⟩ := hn
          exact ⟨hc, st, hst, hk, hb, h1, h2, h3, h4, rfl⟩
        · cases hcs
    · cases h
  · cases h

/-- R27: permitted bays that are present name a bay. -/
theorem permitted_names_bay {n : Nat} {p : PerBay Bool} (h : permittedEmpty (permittedField n) = false)
    (hp : permittedField n = some p) : ∃ b, p.get b = true := by
  rw [hp] at h
  simp only [permittedEmpty, Bool.not_eq_false', Bool.or_eq_true] at h
  rcases h with ((h | h) | h) | h
  · exact ⟨.b1, h⟩
  · exact ⟨.b2, h⟩
  · exact ⟨.b3, h⟩
  · exact ⟨.b4, h⟩

/-- R28: the record of a FLEET PUT that passes lies in its ranges, with the request's tag, not armed. -/
theorem check_lawful {bs : List Byte} {r : FleetPutReq} {v : Vehicle} {keep : Bool} (hp : parseFleetPut bs = some r)
    (h : r.check = some (v, keep)) :
    v.lawful ∧ v.tag = r.tag ∧ 1 ≤ v.tag ∧ v.tag ≤ 4294967295 ∧ v.armedAt = none := by
  obtain ⟨htag, hunit, hallow, hcode⟩ := parseFleetPut_lt hp
  obtain ⟨hc, st, -, -, -, htag0, hperm, hlen, hnodup, rfl⟩ := check_some h
  refine ⟨⟨hunit, clampNat_ge (by omega) _, clampNat_le (by omega) _, ?_, ?_, fun c hcm => ?_, fun a ha => ?_,
    fun p hpp => permitted_names_bay hperm hpp, ?_⟩, rfl, Nat.one_le_iff_ne_zero.2 htag0, htag, rfl⟩
  · simpa [FleetPutReq.record] using hlen
  · simpa [FleetPutReq.record, Function.comp_def, newCounter] using hnodup
  · obtain ⟨c', hc', rfl⟩ := List.mem_map.1 hcm
    exact newCounter_lawful (hcode c' hc')
  · simp only [FleetPutReq.record] at ha
    split at ha
    · cases ha
    · cases ha
      exact ⟨clampNat_ge (by omega) _, clampNat_le (by omega) _, Nat.zero_le _⟩
  · simp [FleetPutReq.record]

/-- R29: a counter that keeps the remaining of an old one keeps its ranges. -/
theorem keepFrom_lawful {old : List Counter} (hold : ∀ c ∈ old, c.lawful) {c : Counter} (h : c.lawful) :
    (c.keepFrom old).lawful := by
  unfold Counter.keepFrom
  split
  · rename_i o ho
    obtain ⟨h1, h2, h3, h4, -, -⟩ := h
    obtain ⟨-, -, -, -, h5, h6⟩ := hold o (List.mem_of_find?_eq_some ho)
    exact ⟨h1, h2, h3, h4, h5, h6⟩
  · exact h

theorem keepFrom_code (old : List Counter) (c : Counter) : (c.keepFrom old).code = c.code :=
  congrArg CounterSettings.code (Counter.keepFrom_settings old c)

/-- R29: a replace of a lawful record by a lawful one is lawful. -/
theorem replaceBy_lawful {old new : Vehicle} (keep : Bool) (hold : old.lawful) (hnew : new.lawful) :
    (old.replaceBy new keep).lawful := by
  obtain ⟨h1, h2, h3, h4, h5, h6, h7, h8, h9⟩ := hnew
  unfold Vehicle.replaceBy
  split
  · obtain ⟨-, -, -, -, -, o6, o7, -, o9⟩ := hold
    refine ⟨h1, h2, h3, ?_, ?_, fun c hc => ?_, fun a ha => ?_, h8, o9⟩
    · simpa using h4
    · simpa [Function.comp_def, keepFrom_code] using h5
    · obtain ⟨d, hd, rfl⟩ := List.mem_map.1 hc
      exact keepFrom_lawful o6 (h6 d hd)
    · dsimp only at ha
      unfold keepAllowance at ha
      split at ha
      · rename_i x y hx hy
        cases ha
        obtain ⟨l1, l2, -⟩ := h7 y hy
        obtain ⟨-, -, l3⟩ := o7 x hx
        exact ⟨l1, l2, l3⟩
      · exact h7 a ha
  · exact ⟨h1, h2, h3, h4, h5, h6, h7, h8, h9⟩

/-- R29: a replace has the tag of the new record and the arming of the old. -/
theorem replaceBy_tag (old new : Vehicle) (keep : Bool) :
    (old.replaceBy new keep).tag = new.tag ∧ (old.replaceBy new keep).armedAt = old.armedAt := by
  unfold Vehicle.replaceBy
  split <;> exact ⟨rfl, rfl⟩

/-- A change of the register alone. -/
theorem act_setFleet {s : State} {l : List Vehicle} (h : Amends s.fleet l) : Act s (s.setFleet l) := .amend h rfl

/-- R27 to R30: FLEET PUT inserts a record, or writes over the one with its tag. -/
theorem act_fleetPut {bs : List Byte} {r : FleetPutReq} (hp : parseFleetPut bs = some r) (s : State) :
    Act s (fleetPut r s).1 := by
  unfold fleetPut
  split
  · exact .refl s
  · rename_i v keep hcheck
    obtain ⟨hlawful, -, hlow, hhigh, harmed⟩ := check_lawful hp hcheck
    split
    · rename_i old hfound
      have htag := (findTag_some hfound).2
      obtain ⟨h1, h2⟩ := replaceBy_tag old v keep
      exact act_setFleet (.replace (htag.symm ▸ hfound) (h1.trans htag.symm) h2 fun h => replaceBy_lawful keep h hlawful)
    · rename_i hnone
      split
      · exact .refl s
      · exact act_setFleet (.insert hnone (Nat.lt_of_not_le ‹_›) hlow hhigh harmed hlawful)

/-! ## The other requests of the register -/

theorem act_fleetDelete (tag : Nat) (s : State) : Act s (fleetDelete tag s).1 := by
  unfold fleetDelete
  split
  · exact .refl s
  · rename_i v hv
    split
    · exact .refl s
    · obtain ⟨-, rfl⟩ := findTag_some hv
      exact act_setFleet (.remove hv (by simpa using ‹¬v.armedAt.isSome = true›))

theorem act_classSet (r : Nat × Nat × Nat) (s : State) : Act s (classSet r s).1 := by
  unfold classSet
  split
  · rename_i hc
    let e : ClassEntry := { limpAllotment := clampNat 10 2000 r.2.1, hourCeiling := clampNat 1 10000 r.2.2 }
    have he : e.lawful :=
      ⟨clampNat_ge (by omega) _, clampNat_le (by omega) _, clampNat_ge (by omega) _, clampNat_le (by omega) _⟩
    refine .site { siteOf s with classes := s.classes.set r.1 e hc } ?_ rfl
    rintro ⟨h1, h2, h3, h4⟩
    refine ⟨h1, h2, fun k => ?_, h4⟩
    show ((s.classes.set r.1 e hc)[k.val]).lawful
    rw [Vector.getElem_set]
    split
    · exact he
    · exact h3 k
  · exact .refl s

theorem act_shiftRoll (u : Unit) (s : State) : Act s (shiftRoll u s).1 := act_setFleet .roll

/-- R54: a record whose counter is reset keeps its ranges. -/
theorem service_lawful (code : Nat) {v : Vehicle} (h : v.lawful) : (v.service code).lawful := by
  obtain ⟨h1, h2, h3, h4, h5, h6, h7, h8, h9⟩ := h
  have hcode : ∀ c : Counter, (if c.code = code then c.reset else c).code = c.code := fun c => by split <;> rfl
  refine ⟨h1, h2, h3, ?_, ?_, fun c hc => ?_, h7, h8, h9⟩
  · simpa [Vehicle.service] using h4
  · simpa [Vehicle.service, Function.comp_def, hcode] using h5
  · obtain ⟨d, hd, rfl⟩ := List.mem_map.1 hc
    obtain ⟨c1, c2, c3, c4, c5, c6⟩ := h6 d hd
    split
    · exact ⟨c1, c2, c3, c4, by simp only [Counter.reset]; omega, by simp only [Counter.reset]; omega⟩
    · exact ⟨c1, c2, c3, c4, c5, c6⟩

theorem act_serviceDone (r : Nat × Nat) (s : State) : Act s (serviceDone r s).1 := by
  unfold serviceDone
  split
  · exact .refl s
  · rename_i v hv
    split
    · exact .refl s
    · have htag := (findTag_some hv).2
      exact (act_setFleet (.replace (v := v) (w := v.service r.2) (htag.symm ▸ hv) rfl rfl (service_lawful _))).trans (act_log ..)

/-! ## The bays' requests -/

/-- R75: max flow as held, in mL/s. -/
theorem heldMaxFlow_range {n : Nat} (h1 : 10 ≤ n) (h2 : n ≤ 1500) : 166 ≤ heldMaxFlow n ∧ heldMaxFlow n ≤ 25000 := by
  unfold heldMaxFlow
  omega

/-- R75, R76: what BAY SET stores lies in its ranges. -/
theorem baySettings_lawful (r : BaySetReq) (enabled : Bool) (tank : TankId) : (r.settings enabled tank).lawful := by
  obtain ⟨hf1, hf2⟩ := heldMaxFlow_range (clampNat_ge (by omega : 10 ≤ 1500) r.maxFlow) (clampNat_le (by omega) _)
  unfold BaySettings.lawful BaySetReq.settings
  exact ⟨clampNat_ge (by decide) _, clampNat_le (by decide) _, hf1, hf2, clampNat_upTo .., clampNat_upTo ..,
    clampNat_ge (by decide) _, clampNat_le (by decide) _, clampNat_ge (by decide) _, clampNat_le (by decide) _,
    clampNat_ge (by decide) _, clampNat_le (by decide) _, clampNat_ge (by decide) _, clampNat_le (by decide) _,
    clampNat_upTo .., clampNat_ge (by decide) _, clampNat_le (by decide) _⟩

/-- R76: a bay that takes settings while it is not active has them and stays so. -/
theorem configure_frame (k : BaySettings) {y : Bay} (h : y.state.active = false) :
    (y.configure k).settings = k ∧ (y.configure k).state.active = false := by
  unfold Bay.configure
  dsimp only
  split
  · split
    · exact ⟨rfl, h⟩
    · exact ⟨rfl, rfl⟩
  · split
    · exact ⟨rfl, h⟩
    · exact ⟨rfl, rfl⟩
  · split
    · exact ⟨rfl, rfl⟩
    · exact ⟨rfl, h⟩
  · exact ⟨rfl, h⟩

/-- R76: lawful settings given to a bay that is not active. -/
theorem act_configure {s : State} {b : BayId} {k : BaySettings} (hk : k.lawful) (h : (s.bay b).state.active = false) :
    Act s (s.setBay b ((s.bay b).configure k)) := by
  obtain ⟨hset, hact⟩ := configure_frame k h
  have key : ∀ c, serves ((s.setBay b ((s.bay b).configure k)).bay c) = serves (s.bay c) ∧
      ((s.setBay b ((s.bay b).configure k)).bay c).settings = Function.update (fun c => (s.bay c).settings) b k c := by
    intro c
    by_cases hc : c = b
    · subst hc
      simp [hset, serves_inactive hact, serves_inactive h]
    · simp [hc]
  refine .site { siteOf s with bays := Function.update (fun c => (s.bay c).settings) b k } ?_ ?_
  · rintro ⟨h1, h2⟩
    refine ⟨fun c => ?_, h2⟩
    by_cases hc : c = b
    · subst hc
      simpa using hk
    · dsimp only
      rw [Function.update_of_ne hc]
      exact h1 c
  · show View.mk _ (fun c => serves ((s.setBay b _).bay c)) { siteOf s with bays := fun c => ((s.setBay b _).bay c).settings } _ = _
    simp only [key]
    rfl

theorem act_baySet (r : BaySetReq) (s : State) : Act s (baySet r s).1 := by
  unfold baySet
  split
  · split
    · exact .refl s
    · refine act_configure (baySettings_lawful ..) ?_
      have h := ‹¬(s.bay _).state.refusesSet = true›
      simp only [BayState.refusesSet, Bool.or_eq_true, not_or, Bool.not_eq_true] at h
      exact h.1
  · exact .refl s

theorem act_bayStop (n : Nat) (s : State) : Act s (bayStop n s).1 := by
  unfold bayStop
  split
  · exact .refl s
  · exact act_endIssue ..

theorem act_bayRelease (n : Nat) (s : State) : Act s (bayRelease n s).1 := by
  unfold bayRelease
  split
  · exact .refl s
  · split
    · rename_i h
      exact act_setBay rfl rfl (by rw [h]; rfl)
    · exact .refl s

theorem act_bayStatus (n : Nat) (s : State) : Act s (bayStatus n s).1 := by
  unfold bayStatus
  split <;> exact .refl s

/-! ## The tanks' requests -/

theorem act_tankStatus (n : Nat) (s : State) : Act s (tankStatus n s).1 := by
  unfold tankStatus
  split <;> exact .refl s

theorem act_tankSet (r : TankSetReq) (s : State) : Act s (tankSet r s).1 := by
  unfold tankSet
  split
  · split
    · exact .refl s
    · exact (act_setTank ..).trans (act_reformStanding ..)
  · exact .refl s

theorem act_tankClear (n : Nat) (s : State) : Act s (tankClear n s).1 := by
  unfold tankClear
  split
  · exact .refl s
  · exact act_setTank ..

theorem act_stockSet (r : Nat × Nat) (s : State) : Act s (stockSet r s).1 := by
  unfold stockSet
  split
  · exact .refl s
  · split
    · exact .refl s
    · exact ((act_setTank ..).trans (act_log ..)).trans (act_reformStanding ..)

theorem act_deliveryOpen (r : Nat × Nat) (s : State) : Act s (deliveryOpen r s).1 := by
  unfold deliveryOpen
  split
  · exact .refl s
  · split
    · exact .refl s
    · split
      · exact .refl s
      · exact (act_setTank ..).trans (act_raiseCensus ..)

theorem act_deliveryClose (n : Nat) (s : State) : Act s (deliveryClose n s).1 := by
  unfold deliveryClose
  split
  · exact .refl s
  · split
    · exact .refl s
    · split
      · exact .refl s
      · exact .refl s
      · exact act_closeDelivery ..

theorem act_deliveryAbort (n : Nat) (s : State) : Act s (deliveryAbort n s).1 := by
  unfold deliveryAbort
  split
  · exact .refl s
  · split
    · exact .refl s
    · split
      · exact .refl s
      · exact ((act_setTank ..).trans (act_disown ..)).trans (act_log ..)

theorem act_censusNow (n : Nat) (s : State) : Act s (censusNow n s).1 := by
  unfold censusNow
  split
  · exact .refl s
  · exact act_raiseCensus ..

theorem act_strapSet (r : StrapSetReq) (s : State) : Act s (strapSet r s).1 := by
  unfold strapSet
  split
  · unfold State.loadStrap
    split
    · exact .refl s
    · dsimp only
      split
      · exact .refl s
      · split
        · exact act_setTank ..
        · exact act_setTank ..
  · exact .refl s
  · exact .refl s

/-! ## The journal's, the ports' and the pod's requests -/

theorem act_setJournal (s : State) (j : Journal) : Act s (s.setJournal j) := .of_frame (by simp)

theorem act_journalLayout (n : Nat) (s : State) : Act s (journalLayout n s).1 := by
  unfold journalLayout
  split
  · exact act_setJournal ..
  · exact .refl s

theorem act_journalRead (r : Nat × Nat × Nat) (s : State) : Act s (journalRead r s).1 := by
  unfold journalRead
  split <;> exact .refl s

theorem act_journalRelease (r : Nat × Nat) (s : State) : Act s (journalRelease r s).1 := by
  unfold journalRelease
  split
  · exact .refl s
  · exact act_setJournal ..

theorem act_linkClear (mask : Nat) (s : State) : Act s (linkClear mask s).1 := by
  refine .site { siteOf s with drops := if mask.testBit 8 then 0 else s.forwardDrops } ?_ rfl
  rintro ⟨h1, h2, h3, h4, h5⟩
  refine ⟨h1, h2, h3, ?_, h5⟩
  dsimp only
  split
  · exact Nat.zero_le _
  · exact h4

theorem act_timeSet {bs : List Byte} {time : Nat} (hp : parseOne 4 bs = some time) (s : State) :
    Act s (timeSet time s).1 := by
  have hlt : time < 4294967296 := by
    unfold parseOne at hp
    split at hp
    · rename_i hf
      cases hp
      exact (List.forall₂_cons.1 (fieldsOf_lt hf)).1
    · cases hp
  exact .site { siteOf s with clock := time } (fun ⟨h1, h2, h3, h4, h5, h6, _⟩ => ⟨h1, h2, h3, h4, h5, h6, hlt⟩) rfl

/-- R160: a rate setting once clamped lies in its ranges. -/
theorem clampRate_lawful (s d : Nat) : (clampRate s d).lawful := by
  unfold Rate.lawful clampRate
  exact ⟨clampNat_upTo .., clampNat_ge (by decide) _, clampNat_le (by decide) _⟩

theorem act_podSet (r : PodSetReq) (s : State) : Act s (podSet r s).1 := by
  have hr : r.settings.lawful := by
    unfold PodSettings.lawful PodSetReq.settings
    exact ⟨clampNat_ge (by decide) _, clampNat_le (by decide) _, clampNat_ge (by decide) _, clampNat_le (by decide) _,
      clampNat_ge (by decide) _, clampNat_le (by decide) _, clampRate_lawful .., clampRate_lawful ..⟩
  have hset : Act s { s with podSettings := r.settings } :=
    .site { siteOf s with pod := r.settings } (fun ⟨h1, _, h3⟩ => ⟨h1, hr, h3⟩) rfl
  have htimer : ∀ u : State, Act u u.startCensusTimer := fun u => .of_frame (by simp)
  exact ((hset.trans (htimer _)).trans (act_restartWatch _)).trans (act_tryYardRate _)

theorem act_podStart (u : Unit) (s : State) : Act s (podStart u s).1 := by
  unfold podStart
  split
  · split
    · exact .refl s
    · exact act_changePod ..
  · exact .refl s

theorem act_podSuspend (n : Nat) (s : State) : Act s (podSuspend n s).1 := by
  unfold podSuspend
  split
  · exact .refl s
  · split
    · exact .refl s
    · have hpod : Act s (if s.pod = .suspended then s else s.changePod .suspended) := by
        split
        · exact .refl s
        · exact act_changePod ..
      dsimp only
      split
      · exact hpod.trans (.foldl (fun u b => act_endIssue u .site b) _ _)
      · exact hpod

theorem act_podResume (u : Unit) (s : State) : Act s (podResume u s).1 := by
  unfold podResume
  split
  · exact act_changePod ..
  · exact .refl s

/-! ## The forms of a command -/

theorem Moves.refl (s : State) : Moves s s := (Act.refl s).moves

/-- An event, whatever its occasion. -/
theorem event_moves {o : Bool} {e : State → State} {s t : State} (h : event o e s = .next t)
    (he : o = true → Moves s (e s)) : Moves s t := by
  rw [event_eq] at h
  cases h
  split
  · exact (he ‹_›).act (act_settled _)
  · exact .refl s

/-- R164, R171: a request taken from the trunk queue. -/
theorem act_taken (s : State) : Act s s.taken := by
  refine (act_popTrunk s).trans ?_
  unfold State.taken State.wakeByRequest
  split
  · have hwatch : ∀ u : State, Act u u.settleWatch := fun u => .of_frame (by simp)
    exact ((act_changePod ..).trans (act_setYardMode ..)).trans (hwatch _)
  · exact .refl _

/-- The answer to a request: its owner's work, then the reply, for which the request found room. -/
theorem answered_moves {s t u : State} {k : Byte} {f : Frame} {r : Reply} (hf : s.requestAt k = some f)
    (hu : Act s.taken u) (h : answered f u r = .next t) : Moves s t := by
  cases h
  have hact : Act s u := (act_taken s).trans hu
  obtain ⟨-, -, hroom, -⟩ := State.requestAt_some hf
  have room : u.trunk.tx.length < 6 := lt_of_le_of_lt hact.trunkTx_le hroom
  refine Moves.act ?_ (act_settled _)
  split
  · exact hact.moves
  · exact hact.then (sends_pushTrunkTx room _).moves

/-- A request whose owner's work is an `Act`. -/
theorem request_moves {α : Type} {kind : Byte} {parse : List Byte → Option α} {bad : State → ReplyFields}
    {serve : α → State → State × Reply} (hserve : ∀ {bs a}, parse bs = some a → ∀ s, Act s (serve a s).1) {s t : State}
    (h : request kind parse bad serve s = .next t) : Moves s t := by
  rcases request_cases kind parse bad serve s with h' | ⟨f, hf, ⟨a, ha, h'⟩ | ⟨-, h'⟩⟩
  · rw [h'] at h
    cases h
    exact .refl s
  · rw [h'] at h
    exact answered_moves hf (hserve ha _) h
  · rw [h'] at h
    exact answered_moves hf (.refl _) h

/-- A request whose owner's work is an `Act` whatever its fields. -/
theorem request_moves_always {α : Type} {kind : Byte} {parse : List Byte → Option α} {bad : State → ReplyFields}
    {serve : α → State → State × Reply} (hserve : ∀ a s, Act s (serve a s).1) {s t : State}
    (h : request kind parse bad serve s = .next t) : Moves s t :=
  request_moves (fun _ s => hserve _ s) h

/-! ## Every command -/

/-- R59: a TAG frame taken. -/
theorem tag_moves {s t : State} (h : execTag s = .next t) : Moves s t := by
  unfold execTag at h
  split at h
  · split at h
    · exact event_moves h fun _ => ((act_popYard s).trans (act_takeTag ..)).moves
    · cases h; exact .refl s
  · cases h; exact .refl s

/-- R101: a TALLY frame taken. -/
theorem tally_moves {s t : State} (h : execTally s = .next t) : Moves s t := by
  unfold execTally at h
  split at h
  · split at h
    · refine event_moves h fun _ => Act.moves ?_
      split
      · exact (act_popYard s).trans (act_takeTally ..)
      · exact act_popYard s
    · cases h; exact .refl s
  · cases h; exact .refl s

/-- R110: a VALVE STATUS frame taken. -/
theorem valveStatus_moves {s t : State} (h : execValveStatus s = .next t) : Moves s t := by
  unfold execValveStatus at h
  split at h
  · split at h
    · refine event_moves h fun _ => Act.moves ?_
      split
      · exact (act_popYard s).trans (act_takeValve ..)
      · exact act_popYard s
    · cases h; exact .refl s
  · cases h; exact .refl s

/-- R165: a STATION DATA frame taken. -/
theorem stationData_moves {s t : State} (h : execStationData s = .next t) : Moves s t := by
  unfold execStationData at h
  split at h
  · refine event_moves h fun _ => ?_
    split
    · exact (act_popYard s).moves
    · exact (act_popYard s).then (moves_forwardToTrunk ..)
  · cases h; exact .refl s

/-- R166: a frame passed on. -/
theorem passThrough_moves {p : PortId} {s t : State} (h : execPassThrough p s = .next t) : Moves s t := by
  unfold execPassThrough at h
  split at h
  · split at h
    · exact event_moves h fun _ => (act_popYard s).then (moves_forwardToTrunk ..)
    · cases h; exact .refl s
  · split at h
    · rename_i f hf
      exact event_moves h fun _ => (act_popTrunk s).then (moves_passFromTrunk f (trunkHead_room (s := s) hf))
    · cases h; exact .refl s

/-- R164, R165: a frame dropped. -/
theorem frameDrop_moves {p : PortId} {s t : State} (h : execFrameDrop p s = .next t) : Moves s t := by
  unfold execFrameDrop at h
  split at h
  · split at h
    · exact event_moves h fun _ => (act_popYard s).moves
    · cases h; exact .refl s
  · split at h
    · exact event_moves h fun _ => (act_popTrunk s).moves
    · cases h; exact .refl s

/-- R161: characters at a receiver. -/
theorem frameReceive_moves {p : PortId} {cs : List RxChar} {s t : State} (h : execFrameReceive p cs s = .next t) :
    Moves s t := by
  unfold execFrameReceive at h
  exact event_moves h fun _ => (Act.foldl (act_receiveChar p) cs s).moves

/-- R161: a start character at a receiver. -/
theorem startCharacter_moves {p : PortId} {e : Bool} {s t : State} (h : execStartCharacter p e s = .next t) :
    Moves s t := by
  unfold execStartCharacter at h
  exact event_moves h fun _ => (act_receiveChar ..).moves

/-- R161: a gap at a receiver inside a frame. -/
theorem gapTimeout_moves {p : PortId} {s t : State} (h : execCharacterGapTimeout p s = .next t) : Moves s t := by
  unfold execCharacterGapTimeout at h
  exact event_moves h fun _ =>
    ((act_setPort (x := { s.port p with receiver := .hunting }) rfl rfl).trans (act_frameEnds ..)).moves

/-- R160: a port takes its stored rate setting. -/
theorem rateSettingApplied_moves {p : PortId} {s t : State} (h : execRateSettingApplied p s = .next t) : Moves s t := by
  unfold execRateSettingApplied at h
  exact event_moves h fun _ => (act_takeRate s p).moves

/-- R162: a transmitter takes a frame or has sent one. -/
theorem transmitFrame_moves {p : PortId} {part : SendPart} {s t : State} (h : execTransmitFrame p part s = .next t) :
    Moves s t := by
  unfold execTransmitFrame at h
  cases part with
  | take => exact event_moves h fun _ => (act_takeNext s p).moves
  | last => exact event_moves h fun _ => (act_lastCharacter s p).moves

/-- R82: an open bay enters CLOSING. -/
theorem act_openToClosing {s : State} {b : BayId} (c : CloseCause) (h : (s.bay b).state.valveOpen = true) :
    Act s (s.setBay b ((s.bay b).toClosing c)) := by
  have hactive : (s.bay b).state.active = true := by
    cases hst : (s.bay b).state <;> simp_all [BayState.active, BayState.valveOpen]
  exact act_setBay rfl rfl (by rw [hactive]; rfl)

/-- R84: the close timer's expiry. -/
theorem act_closeExpires {s : State} {b : BayId} (h : (s.bay b).state = .closing) : Act s (s.closeExpires b) := by
  unfold State.closeExpires
  have hframe : ∀ y : Bay, y = s.bay b ∨ y = (s.bay b).setValve → y.settings = (s.bay b).settings ∧
      y.grant = (s.bay b).grant ∧ y.state.active = true := by
    rintro y (rfl | rfl)
    · exact ⟨rfl, rfl, by rw [h]; rfl⟩
    · exact ⟨rfl, rfl, by show (s.bay b).state.active = true; rw [h]; rfl⟩
  obtain ⟨h1, h2, h3⟩ := hframe (if (s.bay b).shutSeen then s.bay b else (s.bay b).setValve) (by split <;> simp)
  exact act_setBay_complete _ h1 h2 (by rw [h]; rfl) h3

/-- R80: the arm timer runs out in GRANTED. -/
theorem armTimer_moves {b : BayId} {s t : State} (h : execArmTimerExpiry b s = .next t) : Moves s t := by
  refine event_moves h fun ho => ?_
  simp only [Bool.and_eq_true, beq_iff_eq] at ho
  obtain ⟨⟨-, hstate⟩, -⟩ := ho
  exact (act_complete _ (by rw [hstate]; rfl)).moves

/-- R82: the no-flow timer runs out while the valve stands open. -/
theorem noFlowTimer_moves {b : BayId} {s t : State} (h : execNoFlowTimerExpiry b s = .next t) : Moves s t := by
  refine event_moves h fun ho => ?_
  simp only [Bool.and_eq_true] at ho
  obtain ⟨⟨-, hopen⟩, -⟩ := ho
  exact (act_openToClosing _ hopen).moves

/-- R82: the gap timer runs out while the valve stands open. -/
theorem gapTimer_moves {b : BayId} {s t : State} (h : execGapTimerExpiry b s = .next t) : Moves s t := by
  refine event_moves h fun ho => ?_
  simp only [Bool.and_eq_true] at ho
  obtain ⟨⟨-, hopen⟩, -⟩ := ho
  exact (act_openToClosing _ hopen).moves

/-- R84: the close timer runs out in CLOSING. -/
theorem closeTimer_moves {b : BayId} {s t : State} (h : execCloseTimerExpiry b s = .next t) : Moves s t := by
  refine event_moves h fun ho => ?_
  simp only [Bool.and_eq_true, beq_iff_eq] at ho
  obtain ⟨⟨-, hstate⟩, -⟩ := ho
  exact (act_closeExpires hstate).moves

/-- R88: the drain timer runs out in DRAINING. -/
theorem drainTimer_moves {b : BayId} {s t : State} (h : execDrainTimerExpiry b s = .next t) : Moves s t := by
  refine event_moves h fun ho => ?_
  simp only [Bool.and_eq_true, beq_iff_eq] at ho
  obtain ⟨⟨-, hstate⟩, -⟩ := ho
  exact (act_setBay (y := (s.bay b).enter .idle) rfl rfl (by rw [hstate]; rfl)).moves

/-- R117: an ACK error. -/
theorem ackError_moves {phase : AckPhase} {s t : State} (h : execAckError phase s = .next t) : Moves s t := by
  unfold execAckError at h
  split at h
  · exact event_moves h fun _ => (act_ackFails ..).moves
  · cases h; exact .refl s

/-- R117: the retry begins. -/
theorem retryWaitExpiry_moves {s t : State} (h : execRetryWaitExpiry s = .next t) : Moves s t := by
  unfold execRetryWaitExpiry at h
  split at h
  · exact event_moves h fun _ => (Act.of_frame (by simp [State.beginRetry])).moves
  · cases h; exact .refl s

/-- R122: a census completes. -/
theorem censusTransaction_moves {d : ReadingBlock} {s t : State} (h : execCensusTransaction d s = .next t) : Moves s t := by
  unfold execCensusTransaction at h
  split at h
  · exact event_moves h fun _ => (act_censusCompletes ..).moves
  · cases h; exact .refl s

/-- R123: a settle timer runs out. -/
theorem settleTimer_moves {k : TankId} {s t : State} (h : execSettleTimerExpiry k s = .next t) : Moves s t := by
  unfold execSettleTimerExpiry at h
  exact event_moves h fun _ => (act_setProbeTank ..).moves

/-- R144: a delivery window runs out. -/
theorem windowTimer_moves {k : TankId} {s t : State} (h : execWindowTimerExpiry k s = .next t) : Moves s t := by
  unfold execWindowTimerExpiry at h
  exact event_moves h fun _ => (act_windowExpires ..).moves

/-- R119: the census timer's expiry. -/
theorem act_censusTimerExpires (s : State) : Act s s.censusTimerExpires := by
  unfold State.censusTimerExpires
  exact .of_frame (by simp)

/-- R181: a warm start, whole or cut. -/
theorem warmStart_moves {w : StartRun} {s t : State} (h : execWarmStart w s = .next t) : Moves s t := by
  unfold execWarmStart at h
  split at h
  · exact event_moves h fun _ =>
      ((act_makeParts (fun _ hp => act_warmPart _ hp) s).trans (act_restartProbe _)).moves
  · cases h
    split
    · exact ((act_makeParts (fun _ hp => act_warmPart _ (List.mem_of_mem_take hp)) s).trans (act_losePower _)).moves
    · exact .refl s

theorem mainPowerLoss_moves {s t : State} (h : execMainPowerLoss s = .next t) : Moves s t := by
  unfold execMainPowerLoss at h
  split at h <;> cases h
  · exact (act_losePower s).moves
  · exact .refl s

theorem backupSupplyLoss_moves {s t : State} (h : execBackupSupplyLoss s = .next t) : Moves s t := by
  unfold execBackupSupplyLoss at h
  split at h <;> cases h
  · exact .refl s
  · exact (Act.of_frame (by simp)).moves

/-- Every command makes such moves. -/
theorem exec_moves (c : Instr) {s t : State} (h : exec c s = .next t) : Moves s t := by
  cases c with
  | coldStart straps => exact event_moves h fun _ => (act_coldStart straps s).moves
  | warmStart start => exact warmStart_moves h
  | mainPowerLoss => exact mainPowerLoss_moves h
  | podClockTick => exact event_moves h fun _ => ((act_elapse ..).trans (act_tickClock _)).moves
  | frameReceive port chars => exact frameReceive_moves h
  | characterGapTimeout port => exact gapTimeout_moves h
  | rateSettingApplied port => exact rateSettingApplied_moves h
  | transmitFrame port part => exact transmitFrame_moves h
  | tag => exact tag_moves h
  | tally => exact tally_moves h
  | valveStatus => exact valveStatus_moves h
  | stationData => exact stationData_moves h
  | passThrough port => exact passThrough_moves h
  | frameDrop port => exact frameDrop_moves h
  | armTimerExpiry bay => exact armTimer_moves h
  | noFlowTimerExpiry bay => exact noFlowTimer_moves h
  | gapTimerExpiry bay => exact gapTimer_moves h
  | closeTimerExpiry bay => exact closeTimer_moves h
  | drainTimerExpiry bay => exact drainTimer_moves h
  | censusTimerExpiry => exact event_moves h fun _ => (act_censusTimerExpires s).moves
  | settleTimerExpiry tank => exact settleTimer_moves h
  | windowTimerExpiry tank => exact windowTimer_moves h
  | watchDelayTimerExpiry => exact event_moves h fun _ => ((act_changePod ..).trans (act_setYardMode ..)).moves
  | retryWaitExpiry => exact retryWaitExpiry_moves h
  | ackError phase => exact ackError_moves h
  | censusTransaction data => exact censusTransaction_moves h
  | fleetPut => exact request_moves (fun hp => act_fleetPut hp) h
  | fleetDelete => exact request_moves_always act_fleetDelete h
  | classSet => exact request_moves_always act_classSet h
  | baySet => exact request_moves_always act_baySet h
  | tankSet => exact request_moves_always act_tankSet h
  | strapSet => exact request_moves_always act_strapSet h
  | podSet => exact request_moves_always act_podSet h
  | podStart => exact request_moves_always act_podStart h
  | podSuspend => exact request_moves_always act_podSuspend h
  | podResume => exact request_moves_always act_podResume h
  | podReset => exact request_moves_always (fun _ _ => .still rfl) h
  | timeSet => exact request_moves (fun hp => act_timeSet hp) h
  | shiftRoll => exact request_moves_always act_shiftRoll h
  | bayStop => exact request_moves_always act_bayStop h
  | bayRelease => exact request_moves_always act_bayRelease h
  | serviceDone => exact request_moves_always act_serviceDone h
  | tankClear => exact request_moves_always act_tankClear h
  | stockSet => exact request_moves_always act_stockSet h
  | deliveryOpen => exact request_moves_always act_deliveryOpen h
  | deliveryClose => exact request_moves_always act_deliveryClose h
  | deliveryAbort => exact request_moves_always act_deliveryAbort h
  | censusNow => exact request_moves_always act_censusNow h
  | journalLayout => exact request_moves_always act_journalLayout h
  | journalRelease => exact request_moves_always act_journalRelease h
  | linkClear => exact request_moves_always act_linkClear h
  | podStatus => exact request_moves_always (fun _ s => .refl s) h
  | bayStatus => exact request_moves_always act_bayStatus h
  | tankStatus => exact request_moves_always act_tankStatus h
  | fleetGet => exact request_moves_always (fun _ s => .refl s) h
  | fleetNext => exact request_moves_always (fun _ s => .refl s) h
  | journalRead => exact request_moves_always act_journalRead h
  | linkStatus => exact request_moves_always (fun _ s => .refl s) h
  | backupSupplyLoss => exact backupSupplyLoss_moves h
  | startCharacter port parityError => exact startCharacter_moves h

/-- Every step makes such moves: that of its command, once the queue is one shorter, or that of one millisecond. -/
theorem step_moves {s t : State} (h : step s = .next t) : Moves s t := by
  unfold step at h
  split at h
  · rename_i c rest _
    exact (Act.still (s := s) (t := { s with pending := rest }) rfl).then (exec_moves c h)
  · cases h
    exact (act_idleStep s).moves

/-! ## The laws that every step keeps -/

/-- Settles O5: every change of the register leaves the tags ascending, and an insert finds room (R20, R27, R31). -/
theorem fleetStaysOrderedAndBounded : Obligations.FleetStaysOrderedAndBounded := by
  intro s t hs h
  exact (step_moves h).keeps Act.keeps_fleetLaw Sends.keeps_fleetLaw hs

/-- Settles O6: every record written lies in its ranges when the one it replaces did (R21 to R23, R39). -/
theorem recordsStayInRange : Obligations.RecordsStayInRange := by
  intro s t hs h
  exact (step_moves h).keeps Act.keeps_recordsLaw Sends.keeps_recordsLaw hs

/-- Settles O8: a grant arms its vehicle as its bay becomes active, a completion disarms it as the bay ceases to be, and
nothing else does either (R66, R86, R91). -/
theorem armedAtNamesTheActiveBay : Obligations.ArmedAtNamesTheActiveBay := by
  intro s t _ hs h
  exact (step_moves h).keeps Act.keeps_armedLaw Sends.keeps_armedLaw hs

/-- Settles O10: a frame joins a queue only where it has room, and what is stored has been clamped (R25, R75, R166, R173). -/
theorem queuesAndSettingsStayInRange : Obligations.QueuesAndSettingsStayInRange := by
  refine ⟨fun s t hs h => ?_, fun s t hs h => ?_⟩
  · exact (step_moves h).keeps Act.keeps_queuesBounded Sends.keeps_queuesBounded hs
  · exact (step_moves h).keeps Act.keeps_settingsLaw Sends.keeps_settingsLaw hs

/-! ## The state after reset -/

/-- R98: a bay after reset is a cold bay of its tank. -/
theorem reset_bay (b : BayId) : ∃ t, State.reset.bay b = Bay.cold t := by
  cases b <;> exact ⟨_, rfl⟩

/-- R148: a tank account after reset is a cold one. -/
theorem reset_tank (t : TankId) : State.reset.tank t = Tank.cold (if t = .t1 then 16 else 17) := by
  cases t <;> rfl

/-- R129: what the controller keeps for a tank after reset. -/
theorem reset_probeTank (t : TankId) : State.reset.probeTank t = ProbeTank.cold := by
  cases t <;> rfl

/-- R98: no bay is active after reset. -/
theorem reset_inactive (b : BayId) : (State.reset.bay b).state.active = false := by
  obtain ⟨t, h⟩ := reset_bay b
  rw [h]
  rfl

theorem reset_valve_timers : ValveLaw State.reset ∧ TimersLaw State.reset := by
  refine ⟨fun b => .inl ?_, fun b => ?_⟩ <;> obtain ⟨t, h⟩ := reset_bay b <;> rw [h]
  · rfl
  · simp [Bay.timersLawful, Bay.cold, BayState.valveOpen]

theorem reset_accumulators : AccumulatorLaw State.reset := by
  refine ⟨fun b => ?_, fun t x hx => ?_⟩
  · obtain ⟨t, h⟩ := reset_bay b
    rw [h]
    simp [Bay.accumulatorsLawful, Bay.cold]
  · rw [reset_tank] at hx
    cases hx

theorem reset_armed : ArmedLaw State.reset := by
  refine ⟨fun v hv => ?_, fun b hb => ?_⟩
  · cases hv
  · rw [reset_inactive] at hb
    cases hb

theorem reset_journal : JournalLaw State.reset ∧ SequenceLaw State.reset := by
  have hring : ∀ (α : Type) (seqOf : α → Nat) (p : Nat),
      Ring.numbered seqOf ({ records := [], readPtr := p, writePtr := p, nextSeq := 0 } : Machine.Ring α) :=
    fun α seqOf p => ⟨Nat.succ_pos _, fun k r hr => by simp at hr⟩
  refine ⟨?_, hring .., hring ..⟩
  simp only [JournalLaw, Ring.lawful]
  decide

theorem reset_tanks : ReceivingLaw State.reset ∧ TankLaw State.reset ∧ StrappingLaw State.reset := by
  refine ⟨fun t b _ _ => reset_inactive b, fun t => ?_, fun t => ?_⟩ <;> rw [reset_tank]
  · cases t <;> simp [Tank.lawful, TankSettings.lawful, Tank.cold, TankSettings.cold, formStanding]
  · trivial

theorem reset_census : CensusLaw State.reset := by
  refine ⟨fun _ t => ?_, fun t => ?_, fun c hc => ?_⟩
  · rw [reset_probeTank]
    rfl
  · rw [reset_probeTank]
    decide
  · cases hc

theorem reset_pod : BlankLaw State.reset ∧ WatchLaw State.reset :=
  ⟨fun _ => ⟨reset_inactive, rfl⟩, fun _ => by decide, fun _ => reset_inactive⟩

/-- Settles O4: the values of a cold start meet every law. -/
theorem resetHasEveryLaw : Obligations.ResetHasEveryLaw := by
  obtain ⟨hvalve, htimers⟩ := reset_valve_timers
  obtain ⟨hjournal, hseq⟩ := reset_journal
  obtain ⟨hrecv, htank, hstrap⟩ := reset_tanks
  obtain ⟨hblank, hwatch⟩ := reset_pod
  have hfleet : FleetLaw State.reset := by simp [FleetLaw, State.reset]
  have hrecords : RecordsLaw State.reset := by simp [RecordsLaw, State.reset]
  exact ⟨queuesBounded_reset, hfleet, hrecords, hvalve, htimers, reset_accumulators, reset_armed, hjournal, hseq, hrecv,
    htank, hstrap, reset_census, hblank, hwatch, settingsLaw_reset⟩

/-- R174, R177: a cold start ends as it began: the pod is BLANK, so the watch delay timer stays stopped, and no census is
wanted. -/
theorem coldStart_settled (x : Byte) (s : State) : (State.coldStart x s).settled = State.coldStart x s := rfl

/-- Settles O17: a cold start replaces the whole state but the queue, the straps and the station number. -/
theorem coldStartGivesEveryBlockItsValue : Obligations.ColdStartGivesEveryBlockItsValue := by
  refine ⟨fun s x h => ?_, rfl, rfl, rfl, rfl, rfl, rfl, rfl, fun c => ?_, fun b => ?_, fun t => ?_, rfl, rfl, rfl, rfl, rfl,
    rfl, rfl, rfl, rfl, rfl, rfl, rfl, rfl, rfl, rfl⟩
  · show event (!s.retentionMark) (State.coldStart x) s = _
    rw [event_occurs _ _ (by rw [h]; rfl), coldStart_settled]
    rfl
  · simp [State.reset]
  · cases b <;> and_intros <;> rfl
  · cases t <;> and_intros <;> rfl

/-! ## The register's requests -/

/-- A request taken and the wake leave the register. -/
theorem taken_fleet (s : State) : s.taken.fleet = s.fleet := by simp

/-- A field of the width of its bytes. -/
theorem fieldsOf_cons (w : Nat) (ws : List Nat) (pre rest : List Byte) (h : pre.length = w) :
    fieldsOf (w :: ws) (pre ++ rest) = (fieldsOf ws rest).map (beNat pre :: ·) := by
  subst h
  simp [fieldsOf]

theorem beNat_one (b : Byte) : beNat [b] = b.toNat := by simp [beNat]

/-- A payload of a tag of four bytes. -/
theorem parseOne_tag (a b c d : Byte) : parseOne 4 [a, b, c, d] = some (beNat [a, b, c, d]) := by
  have : fieldsOf [4] [a, b, c, d] = some [beNat [a, b, c, d]] := fieldsOf_cons 4 [] [a, b, c, d] [] rfl
  simp [parseOne, this]

/-- A payload of a tag of four bytes and a code of one. -/
theorem parseTwo_tag (a b c d e : Byte) : parseTwo 4 1 [a, b, c, d, e] = some (beNat [a, b, c, d], e.toNat) := by
  have : fieldsOf [4, 1] [a, b, c, d, e] = some [beNat [a, b, c, d], beNat [e]] := by
    rw [show [a, b, c, d, e] = [a, b, c, d] ++ [e] from rfl, fieldsOf_cons 4 [1] _ _ rfl,
      show [e] = [e] ++ [] from rfl, fieldsOf_cons 1 [] _ _ rfl]
    rfl
  simp [parseTwo, this, beNat_one]

/-- CLASS SET's payload: a class and two values of two bytes. -/
theorem parseThree_class (c l1 l0 h1 h0 : Byte) :
    parseThree 1 2 2 [c, l1, l0, h1, h0] = some (c.toNat, beNat [l1, l0], beNat [h1, h0]) := by
  have : fieldsOf [1, 2, 2] [c, l1, l0, h1, h0] = some [beNat [c], beNat [l1, l0], beNat [h1, h0]] := rfl
  simp [parseThree, this, beNat_one]

/-- R26: CLASS SET. -/
theorem classSet_answers {s : State} {f : Frame} {ref c l1 l0 h1 h0 : Byte} (hf : s.requestAt 0x22 = some f)
    (hp : f.payload = [ref, c, l1, l0, h1, h0]) :
    exec .classSet s = answered f (classSet (c.toNat, beNat [l1, l0], beNat [h1, h0]) s.taken).1
      (classSet (c.toNat, beNat [l1, l0], beNat [h1, h0]) s.taken).2 :=
  request_served hf (by rw [hp]; exact parseThree_class ..)

/-- Some counter of a list is OVERDUE. -/
theorem anyOverdue_iff (cs : List Counter) : anyOverdue cs = true ↔ ∃ c ∈ cs, c.standing = .overdue := by
  simp [anyOverdue, Counter.isOverdue]

/-- R54: SERVICE DONE. -/
theorem serviceDone_answers {s : State} {f : Frame} {ref a b c d code : Byte} (hf : s.requestAt 0x2F = some f)
    (hp : f.payload = [ref, a, b, c, d, code]) :
    exec .serviceDone s = answered f (serviceDone (beNat [a, b, c, d], code.toNat) s.taken).1
      (serviceDone (beNat [a, b, c, d], code.toNat) s.taken).2 :=
  request_served hf (by rw [hp]; exact parseTwo_tag ..)

/-- R54: limp used after a service is cleared exactly when no counter is OVERDUE. -/
theorem service_limpUsed (code : Nat) (v : Vehicle) :
    ((∀ k ∈ (v.service code).counters, k.standing ≠ .overdue) → (v.service code).limpUsed = false) ∧
      ((∃ k ∈ (v.service code).counters, k.standing = .overdue) → (v.service code).limpUsed = v.limpUsed) := by
  have hlimp : (v.service code).limpUsed = (v.limpUsed && anyOverdue (v.service code).counters) := rfl
  refine ⟨fun h => ?_, fun h => ?_⟩
  · have : anyOverdue (v.service code).counters = false := by
      rw [← Bool.not_eq_true, anyOverdue_iff]
      rintro ⟨k, hk, ho⟩
      exact h k hk ho
    rw [hlimp, this, Bool.and_false]
  · rw [hlimp, (anyOverdue_iff _).2 h, Bool.and_true]

/-- Settles O48: CLASS SET stores the entry clamped; SERVICE DONE resets the counter and logs its event (R26, R54). -/
theorem classSetAndServiceDone : Obligations.ClassSetAndServiceDone := by
  refine ⟨fun s f ref c l1 l0 h1 h0 hf hp => ⟨fun hc => ?_, fun hc => ?_⟩,
    fun s f ref a b c d code hf hp => ⟨fun hn => ?_, fun v hv hno => ?_, fun v k hv hk => ⟨v.service code.toNat, ?_⟩⟩⟩
  · rw [classSet_answers hf hp]
    simp [classSet, Nat.not_lt.2 hc, refused]
  · rw [classSet_answers hf hp]
    simp [classSet, hc]
  · rw [serviceDone_answers hf hp]
    simp [serviceDone, hn, refused]
  · have hnone : v.counterOf code.toNat = none := by simpa [Vehicle.counterOf] using hno
    rw [serviceDone_answers hf hp]
    simp [serviceDone, hv, hnone, refused]
  · have hsome : v.counterOf code.toNat = some k := hk
    refine ⟨?_, rfl, rfl, service_limpUsed code.toNat v⟩
    rw [serviceDone_answers hf hp]
    simp [serviceDone, hv, hsome, State.setFleet, Counter.reset]

/-- Settles O47: the roll writes the records that have an allowance, in every pod state (R34). -/
theorem shiftRollClearsAllowanceUsed : Obligations.ShiftRollClearsAllowanceUsed := by
  refine ⟨fun s f ref hf hp => ?_, fun f t r h => ?_, fun v a h => ?_⟩
  · have h : exec .shiftRoll s = answered f (shiftRoll () s.taken).1 (shiftRoll () s.taken).2 :=
      request_served hf (by rw [hp]; rfl)
    rw [h]
    simp only [shiftRoll, taken_fleet, State.setFleet]
    refine congrArg (fun l => answered f { s.taken with fleet := l } _) (List.map_congr_left fun v _ => ?_)
    obtain ⟨tag, unit, cls, priority, status, fillCeiling, permitted, allowance⟩ := v
    cases allowance <;> rfl
  · simp [answered, h]
  · simp [allowanceCandidate, h]

/-- R33: in an ordered register the record with the smallest greater tag is the first with a greater one. -/
theorem nextTag_least {n : Nat} {l : List Vehicle} (h : l.Pairwise (fun u v => u.tag < v.tag)) {v : Vehicle} (hv : v ∈ l)
    (hn : n < v.tag) (least : ∀ u ∈ l, n < u.tag → v.tag ≤ u.tag) : nextTag n l = some v := by
  induction l with
  | nil => cases hv
  | cons x xs ih =>
    obtain ⟨hx, hxs⟩ := List.pairwise_cons.1 h
    by_cases hlt : n < x.tag
    · have hle := least x List.mem_cons_self hlt
      rcases List.mem_cons.1 hv with rfl | hv
      · simp [nextTag, hn]
      · have := hx v hv
        omega
    · have hv : v ∈ xs := (List.mem_cons.1 hv).resolve_left fun he => hlt (he ▸ hn)
      have := ih hxs hv fun u hu => least u (List.mem_cons_of_mem _ hu)
      simpa [nextTag, hlt] using this

/-- R33: no tag is greater. -/
theorem nextTag_none {n : Nat} {l : List Vehicle} (h : ∀ v ∈ l, v.tag ≤ n) : nextTag n l = none := by
  simpa [nextTag] using h

/-- R32, R33: what FLEET GET and FLEET NEXT reply, by the view asked for and the record found. -/
theorem fleetView_cases (s : State) :
    (∀ found view, 1 < view → fleetView found view s = .refuseWith .invalid (.fleetCount s.fleet.length)) ∧
    (∀ view, view ≤ 1 → fleetView none view s = .refuseWith .notFound (.fleetCount s.fleet.length)) ∧
    (∀ v, fleetView (some v) 0 s = .okWith (.fleetRecord s.fleet.length v)) ∧
    (∀ v, fleetView (some v) 1 s = .okWith (.fleetCounters s.fleet.length v)) := by
  refine ⟨fun found view h => ?_, fun view h => ?_, fun v => rfl, fun v => rfl⟩
  · simp [fleetView, h, countFields]
  · simp [fleetView, Nat.not_lt.2 h, countFields]

/-- R33: FLEET NEXT changes nothing but the wake. -/
theorem fleetNext_answers {s : State} {f : Frame} {ref a b c d view : Byte} (hf : s.requestAt 0x3D = some f)
    (hp : f.payload = [ref, a, b, c, d, view]) :
    exec .fleetNext s =
      answered f s.taken (fleetView (nextTag (beNat [a, b, c, d]) s.fleet) view.toNat s.taken) := by
  have h : exec .fleetNext s = answered f (fleetNext (beNat [a, b, c, d], view.toNat) s.taken).1 _ :=
    request_served hf (by rw [hp]; exact parseTwo_tag ..)
  rw [h, fleetNext, taken_fleet]

/-- Settles O46: the register is ordered, so the first record with a greater tag has the smallest (R20, R33). -/
theorem fleetNextFindsTheNextTag : Obligations.FleetNextFindsTheNextTag := by
  intro s f ref a b c d view hlaw hf hp tag
  obtain ⟨hinvalid, hmissing, hrecord, hcounters⟩ := fleetView_cases s.taken
  simp only [taken_fleet] at hinvalid hmissing hrecord hcounters
  rw [fleetNext_answers hf hp]
  obtain ⟨-, hasc, hrange⟩ := hlaw
  refine ⟨fun h => by rw [hinvalid _ _ h], fun h hle => ?_, fun v hv hlt hleast => ?_, fun h0 v rest hl h => ?_⟩
  · rw [nextTag_none hle, hmissing _ h]
  · rw [nextTag_least hasc hv hlt hleast]
    exact ⟨fun h => by rw [h]; exact congrArg _ (hrecord v), fun h => by rw [h]; exact congrArg _ (hcounters v)⟩
  · have hv : 0 < v.tag := (hrange v (by simp [hl])).1
    have hnext : nextTag tag s.fleet = some v := by simp [nextTag, hl, h0, hv]
    rw [hnext, h]
    exact congrArg _ (hrecord v)

/-- R31: in a register with distinct tags a delete takes one record. -/
theorem removeTag_length {n : Nat} {l : List Vehicle} (h : l.Pairwise (fun u v => u.tag < v.tag)) {v : Vehicle}
    (hv : v ∈ l) (ht : v.tag = n) : (removeTag n l).length = l.length - 1 := by
  induction l with
  | nil => cases hv
  | cons x xs ih =>
    obtain ⟨hx, hxs⟩ := List.pairwise_cons.1 h
    by_cases hxn : x.tag = n
    · have : removeTag n xs = xs := by
        refine List.filter_eq_self.2 fun u hu => ?_
        have := hx u hu
        simp only [bne_iff_ne, ne_eq]
        omega
      have hcons : removeTag n (x :: xs) = removeTag n xs := by simp [removeTag, hxn]
      rw [hcons, this, List.length_cons, Nat.add_sub_cancel]
    · have hv : v ∈ xs := (List.mem_cons.1 hv).resolve_left fun he => hxn (he ▸ ht)
      have hcons : removeTag n (x :: xs) = x :: removeTag n xs := by simp [removeTag, hxn]
      have hpos := List.length_pos_of_mem hv
      rw [hcons, List.length_cons, ih hxs hv, List.length_cons]
      omega

/-- R31: FLEET DELETE. -/
theorem fleetDelete_answers {s : State} {f : Frame} {ref a b c d : Byte} (hf : s.requestAt 0x21 = some f)
    (hp : f.payload = [ref, a, b, c, d]) :
    exec .fleetDelete s =
      answered f (fleetDelete (beNat [a, b, c, d]) s.taken).1 (fleetDelete (beNat [a, b, c, d]) s.taken).2 :=
  request_served hf (by rw [hp]; exact parseOne_tag ..)

/-- R32: FLEET GET changes nothing but the wake. -/
theorem fleetGet_answers {s : State} {f : Frame} {ref a b c d view : Byte} (hf : s.requestAt 0x3C = some f)
    (hp : f.payload = [ref, a, b, c, d, view]) :
    exec .fleetGet s =
      answered f s.taken (fleetView (findTag (beNat [a, b, c, d]) s.fleet) view.toNat s.taken) := by
  have h : exec .fleetGet s = answered f (fleetGet (beNat [a, b, c, d], view.toNat) s.taken).1 _ :=
    request_served hf (by rw [hp]; exact parseTwo_tag ..)
  rw [h, fleetGet, taken_fleet]

/-- Settles O45: FLEET DELETE by what the tag finds, FLEET GET by the view and what the tag finds (R31, R32). -/
theorem fleetDeleteAndFleetGet : Obligations.FleetDeleteAndFleetGet := by
  refine ⟨fun s f ref a b c d hf hp => ?_, fun s f ref a b c d view hf hp => ?_⟩
  · rw [fleetDelete_answers hf hp]
    refine ⟨fun hn => ?_, fun v hv => ⟨fun ha => ?_, fun ha hlaw => ?_⟩⟩
    · simp [fleetDelete, hn]
    · simp [fleetDelete, hv, Option.isSome_iff_ne_none.2 ha]
    · obtain ⟨hmem, ht⟩ := findTag_some hv
      obtain ⟨-, hasc, -⟩ := hlaw
      have hlen := removeTag_length hasc hmem ht
      simp only [fleetDelete, taken_fleet, hv, ha, Option.isSome_none, Bool.false_eq_true, if_false, State.setFleet, hlen]
      rfl
  · obtain ⟨hinvalid, hmissing, hrecord, hcounters⟩ := fleetView_cases s.taken
    simp only [taken_fleet] at hinvalid hmissing hrecord hcounters
    rw [fleetGet_answers hf hp]
    refine ⟨fun h => by rw [hinvalid _ _ h], fun h hn => by rw [hn, hmissing _ h], fun v hv => ?_⟩
    rw [hv]
    exact ⟨fun h => by rw [h]; exact congrArg _ (hrecord v), fun h => by rw [h]; exact congrArg _ (hcounters v)⟩

/-! ## FLEET PUT -/

/-- R27, R171: the fields of a FLEET PUT that passes the checks. -/
def Acceptable (r : FleetPutReq) : Prop :=
  r.tag ≠ 0 ∧ r.cls < 16 ∧ r.status ≤ 1 ∧ r.keep ≤ 1 ∧ permittedEmpty (permittedField r.permitted) = false ∧
    r.counters.length ≤ 3 ∧ (∀ c ∈ r.counters, c.basis ≤ 1) ∧ (r.counters.map (·.code)).Nodup

/-- R170: the status that a code names. -/
theorem statusOf_eq (n : Nat) : statusOf n = if n ≤ 1 then some (if n = 0 then .active else .barred) else none := by
  unfold statusOf
  split <;> simp_all
  omega

/-- R171: the choice that a code names. -/
theorem yesNo_eq (n : Nat) : yesNo n = if n ≤ 1 then some (decide (n = 1)) else none := by
  unfold yesNo
  split <;> simp_all
  omega

/-- R27: the checks answer nothing exactly for a FLEET PUT that is not acceptable. -/
theorem check_none_iff (r : FleetPutReq) : r.check = none ↔ ¬Acceptable r := by
  refine ⟨fun h hr => ?_, fun hr => ?_⟩
  · obtain ⟨h1, h2, h3, h4, h5, h6, h7, h8⟩ := hr
    have hcounters := countersOf_eq r.counters
    rw [if_pos h7] at hcounters
    have h8' : hasRepeat (r.counters.map (·.code)) = false := by
      rw [← Bool.not_eq_true, hasRepeat_iff, not_not]
      exact h8
    have hcodes : (r.counters.map newCounter).map (·.code) = r.counters.map (·.code) := by
      simp [newCounter, Function.comp_def]
    simp [FleetPutReq.check, h2, statusOf_eq, h3, hcounters, yesNo_eq, h4, h1, h5, Nat.not_lt.2 h6, -List.map_map, hcodes,
      h8'] at h
  · cases hc : r.check with
    | none => rfl
    | some p =>
      obtain ⟨hcls, st, hst, hkeep, hb, htag, hperm, hlen, hnodup, -⟩ := check_some (v := p.1) (keep := p.2) hc
      refine absurd ⟨htag, hcls, ?_, ?_, hperm, hlen, hb, hnodup⟩ hr
      · by_contra h
        rw [statusOf_eq, if_neg h] at hst
        cases hst
      · by_contra h
        rw [yesNo_eq, if_neg h] at hkeep
        cases hkeep

/-- R27: permitted bays that are present and name no bay, bit by bit. -/
theorem permittedEmpty_iff (n : Nat) : permittedEmpty (permittedField n) = true ↔
    n.testBit 7 = true ∧ n.testBit 0 = false ∧ n.testBit 1 = false ∧ n.testBit 2 = false ∧ n.testBit 3 = false := by
  unfold permittedField
  split <;> simp_all [permittedEmpty, and_assoc]

/-- R27, R171: the eight INVALID cases. -/
theorem check_none_cases (r : FleetPutReq) : r.check = none ↔
    (r.tag = 0 ∨ 16 ≤ r.cls ∨ 1 < r.status ∨ 1 < r.keep ∨
      (r.permitted.testBit 7 = true ∧ r.permitted.testBit 0 = false ∧ r.permitted.testBit 1 = false ∧
        r.permitted.testBit 2 = false ∧ r.permitted.testBit 3 = false) ∨
      3 < r.counters.length ∨ (∃ c ∈ r.counters, 1 < c.basis) ∨ ¬(r.counters.map (·.code)).Nodup) := by
  rw [check_none_iff, ← permittedEmpty_iff]
  simp only [Acceptable, not_and_or, ne_eq, not_not, not_le, not_lt, Bool.not_eq_false, not_forall, exists_prop]

/-- R27: CLAMPED exactly when a value lies outside its range; an allowance of 0 is absent. -/
theorem clamps_iff (r : FleetPutReq) : r.clamps = true ↔ r.outOfRange := by
  simp only [FleetPutReq.clamps, FleetPutReq.outOfRange, outsideNat, Bool.or_eq_true, Bool.and_eq_true,
    decide_eq_true_eq, bne_iff_ne, List.any_eq_true, or_assoc, Nat.not_lt_zero, false_or]
  constructor
  · rintro (h | h | h | ⟨h0, h | h⟩ | h)
    · exact .inl h
    · exact .inr (.inl h)
    · exact .inr (.inr (.inl h))
    · omega
    · exact .inr (.inr (.inr (.inl h)))
    · exact .inr (.inr (.inr (.inr h)))
  · rintro (h | h | h | h | h)
    · exact .inl h
    · exact .inr (.inl h)
    · exact .inr (.inr (.inl h))
    · exact .inr (.inr (.inr (.inl ⟨by omega, .inr h⟩)))
    · exact .inr (.inr (.inr (.inr h)))

/-- R27: the record of a FLEET PUT that passes has the request's tag. -/
theorem check_tag {r : FleetPutReq} {v : Vehicle} {keep : Bool} (h : r.check = some (v, keep)) : v.tag = r.tag := by
  obtain ⟨-, -, -, -, -, -, -, -, -, rfl⟩ := check_some h
  rfl

/-- R171: what a reply shows of the settings stored. -/
theorem shownIf_settings (clamped : Bool) (v : Vehicle) :
    (clamped = false → shownIf clamped v.settings = none) ∧
    (clamped = true → shownIf clamped v.settings = some
      { unit := v.unit, cls := v.cls, priority := v.priority, status := v.status, fillCeiling := v.fillCeiling
        permitted := v.permitted, allowance := v.allowance.map (fun a => a.litres)
        counters := v.counters.map (fun c =>
          { code := c.code, basis := c.basis, interval := c.interval, grace := c.grace }) }) := by
  refine ⟨fun h => ?_, fun h => ?_⟩ <;> subst h <;> rfl

/-- R27: FLEET PUT. -/
theorem fleetPut_answers {s : State} {f : Frame} {r : FleetPutReq} (hf : s.requestAt 0x20 = some f)
    (hp : parseFleetPut f.payload.tail = some r) :
    exec .fleetPut s = answered f (fleetPut r s.taken).1 (fleetPut r s.taken).2 :=
  request_served hf hp

/-- R28: a FLEET PUT of a new tag, with room for it. -/
theorem fleetPut_inserts {s : State} {r : FleetPutReq} {v : Vehicle} {keep : Bool} (hcheck : r.check = some (v, keep))
    (hn : findTag v.tag s.fleet = none) (room : s.fleet.length < 256) :
    fleetPut r s = ({ s with fleet := insertVehicle v s.fleet },
      .okClamped r.clamps (.fleetPut (s.fleet.length + 1) v.tag true (shownIf r.clamps v.settings))) := by
  simp [fleetPut, hcheck, hn, Config.maxVehicles, Nat.not_le.2 room, State.setFleet, insertVehicle_length]

/-- R29: a FLEET PUT of a tag that is held. -/
theorem fleetPut_replaces {s : State} {r : FleetPutReq} {v old : Vehicle} {keep : Bool}
    (hcheck : r.check = some (v, keep)) (hold : findTag v.tag s.fleet = some old) :
    fleetPut r s = ({ s with fleet := setVehicle (old.replaceBy v keep) s.fleet },
      .okClamped r.clamps (.fleetPut s.fleet.length v.tag false
        (shownIf r.clamps (old.replaceBy v keep).settings))) := by
  simp [fleetPut, hcheck, hold, State.setFleet, setVehicle]

/-- Settles O43: the checks of FLEET PUT and the record that an insert makes (R27, R28, R171). -/
theorem fleetPutChecksAndInserts : Obligations.FleetPutChecksAndInserts := by
  refine ⟨check_none_cases, fun s f r hf hp => ⟨fun hc => ?_, fun hc hn hfull => ?_, fun hc hn room => ?_⟩⟩
  · rw [fleetPut_answers hf hp]
    simp [fleetPut, hc, countFields]
  · obtain ⟨⟨v, keep⟩, hcheck⟩ := Option.ne_none_iff_exists'.1 hc
    rw [fleetPut_answers hf hp]
    simp [fleetPut, hcheck, check_tag hcheck, hn, Config.maxVehicles, hfull, countFields]
  · obtain ⟨⟨v, keep⟩, hcheck⟩ := Option.ne_none_iff_exists'.1 hc
    obtain ⟨hcls, st, hst, -, -, -, -, -, -, rfl⟩ := check_some hcheck
    obtain ⟨hplain, hclamped⟩ := shownIf_settings r.clamps (r.record ⟨r.cls, hcls⟩ st (r.counters.map newCounter))
    refine ⟨_, r.clamps, _, ?_, clamps_iff r, hplain, hclamped, rfl, rfl, rfl, rfl, ?_, rfl, rfl, rfl, rfl, rfl, rfl, rfl,
      rfl⟩
    · rw [fleetPut_answers hf hp, fleetPut_inserts hcheck ((taken_fleet s).symm ▸ hn) (by simpa using room)]
      simp only [taken_fleet]
      rfl
    · rw [statusOf_eq] at hst
      split at hst
      · exact (Option.some.inj hst).symm
      · cases hst

/-- R39: a counter is OVERDUE when its remaining is at most 0 and its grace is spent. -/
theorem isOverdue_eq (c : Counter) : c.isOverdue = (decide (c.remaining ≤ -(c.grace : Int)) && decide (c.remaining ≤ 0)) := by
  rw [Bool.eq_iff_iff, Counter.isOverdue_iff]
  unfold Counter.standing
  split
  · simp
    omega
  · split
    · simp
      omega
    · simp
      omega

/-- Settles O44: the record that a replace makes, with either keep-counters choice (R29, R171). -/
theorem fleetPutReplacesInPlace : Obligations.FleetPutReplacesInPlace := by
  intro s f r v old keep hf hp hcheck hold
  have htag := check_tag hcheck
  obtain ⟨hplain, hclamped⟩ := shownIf_settings r.clamps (old.replaceBy v keep)
  refine ⟨old.replaceBy v keep, r.clamps, _, ?_, clamps_iff r, hplain, hclamped, ?_⟩
  · rw [fleetPut_answers hf hp, fleetPut_replaces hcheck (by simpa [htag] using hold)]
    simp only [taken_fleet, htag]
  obtain ⟨hcls, st, -, -, -, -, -, -, -, rfl⟩ := check_some hcheck
  cases keep with
  | false => exact ⟨rfl, rfl, rfl, rfl, rfl, rfl, rfl, rfl, rfl, fun _ => ⟨rfl, rfl, rfl, rfl⟩, fun h => by cases h⟩
  | true =>
    refine ⟨rfl, rfl, rfl, rfl, rfl, rfl, rfl, rfl, rfl, (by simp), fun _ => ⟨rfl, rfl, rfl, ?_⟩⟩
    simp only [Vehicle.replaceBy, if_true, anyOverdue, ← isOverdue_eq]

/-! ## Bytes -/

/-- R170: fields laid out, the first first. -/
theorem layout_cons (w n : Nat) (fs : List (Nat × Nat)) : layout ((w, n) :: fs) = bytesBE w n ++ layout fs := by
  simp [layout]

theorem layout_nil : layout [] = [] := rfl

/-- The length of a layout is the sum of its widths. -/
theorem layout_length (fs : List (Nat × Nat)) : (layout fs).length = (fs.map (·.1)).sum := by
  simp [layout, List.length_flatMap]

/-- The fields of a list's members, laid out member by member. -/
theorem layout_flatMap {α : Type} (g : α → List (Nat × Nat)) (l : List α) :
    layout (l.flatMap g) = l.flatMap (fun x => layout (g x)) := by
  simp [layout, List.flatMap_assoc]

/-- Bytes that carry nothing. -/
theorem bytesBE_zero (w : Nat) : bytesBE w 0 = List.replicate w 0 := by
  induction w with
  | zero => rfl
  | succ w ih => simp [bytesBE, ih, List.replicate_succ']

/-- A code byte of a byte is that byte. -/
theorem oneByte_toNat (b : Byte) : oneByte b.toNat = b := by simp [oneByte]

/-- R170: a byte more at the end is the number's lowest. -/
theorem beNat_append (bs : List Byte) (b : Byte) : beNat (bs ++ [b]) = beNat bs * 256 + b.toNat := by
  simp [beNat]

/-- R170: what the bytes of a number spell. -/
theorem beNat_bytesBE (w n : Nat) : beNat (bytesBE w n) = n % 256 ^ w := by
  induction w generalizing n with
  | zero => simp [bytesBE, beNat, Nat.mod_one]
  | succ w ih =>
    rw [bytesBE, beNat_append, ih, BitVec.toNat_ofNat, show 256 ^ (w + 1) = 256 * 256 ^ w from Nat.pow_succ',
      Nat.mod_mul]
    omega

/-- R170: a bit of a code byte. -/
theorem bitOf_eq (b : Bool) (k : Nat) : bitOf b k = if b then 2 ^ k else 0 := rfl

/-- R170: an optional field of four bytes. -/
theorem optBytes4_eq (o : Option Nat) : optBytes4 o = bytesBE 4 (o.getD 0xFFFFFFFF) := by
  cases o with
  | none => decide
  | some n => rfl

/-- R170: an optional temperature. -/
theorem tempBytes_eq (o : Option Int) :
    tempBytes o = bytesBE 2 (match o with | some t => twosComplement 2 t | none => 0x8000) := by
  cases o with
  | none => decide
  | some t => rfl

theorem bytesSigned_eq (w : Nat) (i : Int) : bytesSigned w i = bytesBE w (twosComplement w i) := rfl

/-! ## Journal records -/

/-- R153, R170: an issue record's fields in order. -/
theorem issueRecord_bytes (r : IssueRecord) : r.bytes.length = 35 ∧ r.bytes = layout
    [(4, r.start), (4, r.finish), (1, bayNumber r.bay), (1, tankNumber r.tank), (4, r.tag), (2, r.unit), (2, r.limit),
      (1, r.reason.code), (1, r.cause.code), (4, r.grossCl), (4, r.netCl),
      (2, match r.averageTemp with | some t => twosComplement 2 t | none => 0x8000),
      (1, (if r.uncompensated then 1 else 0) + (if r.tempClamped then 2 else 0) + (if r.saturated then 4 else 0) +
        (if r.overspeed then 8 else 0) + (if r.afterRun then 16 else 0) + (if r.valve then 32 else 0) +
        (if r.limp then 64 else 0) + (if r.clockUnset then 128 else 0)),
      (4, r.hours.getD 0xFFFFFFFF)] := by
  refine ⟨?_, ?_⟩
  · simp [IssueRecord.bytes, tempBytes_eq, optBytes4_eq]
  · simp only [IssueRecord.bytes, layout_cons, layout_nil, bytesBE_one, tempBytes_eq, optBytes4_eq, bitOf_eq,
      List.append_assoc, List.cons_append, List.nil_append, List.append_nil]
    rfl

/-- R155: the kind code and the fields of an event, each with its width. -/
def kindFields : EventKind → Nat × List (Nat × Nat)
  | .refusal b t c => (0x01, [(1, bayNumber b), (4, t), (1, c.code), (1, c.reasonCode)])
  | .service t c st => (0x02, [(4, t), (1, c), (1, st.rank)])
  | .serviceDone t c => (0x03, [(4, t), (1, c)])
  | .hoursRebased t old new => (0x04, [(4, t), (3, old), (3, new)])
  | .hoursJump t n => (0x05, [(4, t), (2, n)])
  | .bayFault b c => (0x06, [(1, bayNumber b), (1, c.code)])
  | .unaccountedFlow b n => (0x07, [(1, bayNumber b), (4, n)])
  | .variance k n => (0x08, [(1, tankNumber k), (5, twosComplement 5 n)])
  | .water k n => (0x09, [(1, tankNumber k), (2, n)])
  | .gaugeLost k => (0x0A, [(1, tankNumber k)])
  | .gaugeRestored k => (0x0B, [(1, tankNumber k)])
  | .stockStanding k st => (0x0C, [(1, tankNumber k), (1, st.code)])
  | .stockSet k old new => (0x0D, [(1, tankNumber k), (5, twosComplement 5 old), (4, twosComplement 4 new)])
  | .delivery k docket m v e => (0x0E,
      [(1, tankNumber k + (if m.isSome then 16 else 0) + (if v.isSome then 32 else 0) + (if e then 64 else 0)),
        (9, docket * 2 ^ 54 + ((m.getD 0) % (2 ^ 27 : Nat)).toNat * 2 ^ 27 + ((v.getD 0) % (2 ^ 27 : Nat)).toNat)])
  | .deliveryAborted k => (0x0F, [(1, tankNumber k)])
  | .podState old new => (0x10, [(1, old.code), (1, new.code)])
  | .warmStart => (0x11, [])

/-- R155, R170: an event's bytes are its fields laid out; they fit the ten bytes they have. -/
theorem eventKind_bytes (k : EventKind) :
    k.bytes = ((kindFields k).1, layout (kindFields k).2) ∧ ((kindFields k).2.map (·.1)).sum ≤ 10 := by
  refine ⟨?_, by cases k <;> simp [kindFields]⟩
  cases k <;> simp [EventKind.bytes, kindFields, layout_cons, layout_nil, bytesBE_one, bytesSigned_eq, bitOf_eq]

/-- R155, R170: an event record is its time, its kind with the clock-unset mark, its fields and bytes 0. -/
theorem eventRecord_bytes {r : EventRecord} {k : EventKind} (h : r.kind = k) : r.bytes.length = 15 ∧
    r.bytes = layout ([(4, r.time.time), (1, (kindFields k).1 + if r.time.unset then 128 else 0)] ++ (kindFields k).2 ++
      [(10 - ((kindFields k).2.map (·.1)).sum, 0)]) := by
  obtain ⟨hbytes, hfit⟩ := eventKind_bytes k
  have hlayout : r.bytes = layout ([(4, r.time.time), (1, (kindFields k).1 + if r.time.unset then 128 else 0)] ++
      (kindFields k).2 ++ [(10 - ((kindFields k).2.map (·.1)).sum, 0)]) := by
    simp [EventRecord.bytes, h, hbytes, padTo, layout_append, layout_cons, layout_nil, layout_length, bytesBE_one,
      bytesBE_zero, bitOf_eq]
  refine ⟨?_, hlayout⟩
  rw [hlayout, layout_length]
  simp only [List.map_append, List.sum_append, List.map_cons, List.map_nil, List.sum_cons, List.sum_nil]
  omega

/-! ## Payloads -/

/-- R170: the result byte; 80 hex for CLAMPED. -/
theorem resultByte_ok (x : Bool) (fields : ReplyFields) :
    (Reply.okClamped x fields).resultByte = if x then 0x80 else 0x00 := by
  cases x <;> rfl

/-- R170: a counter in the RECORD view. -/
theorem counter_recordBytes (c : Counter) : c.recordBytes =
    layout [(1, c.code), (1, c.basis.code + 16 * c.standing.rank), (4, twosComplement 4 c.remaining)] := by
  simp [Counter.recordBytes, layout_cons, layout_nil, bytesBE_one, bytesSigned_eq, Nat.mul_comm]

/-- R170: a counter in the COUNTERS view. -/
theorem counter_fullBytes (c : Counter) : c.fullBytes =
    layout [(1, c.code), (1, c.basis.code + 16 * c.standing.rank), (4, c.interval), (4, c.grace),
      (4, twosComplement 4 c.remaining)] := by
  simp [Counter.fullBytes, layout_cons, layout_nil, bytesBE_one, bytesSigned_eq, Nat.mul_comm]

/-- R170: the last issue time with its marks. -/
theorem lastIssueBytes_eq (o : Option Stamp) : lastIssueBytes o =
    layout [(4, (o.map (·.time)).getD 0xFFFFFFFF),
      (1, match o with | none => 0 | some t => 2 + if t.unset then 1 else 0)] := by
  cases o with
  | none => decide
  | some t => cases hu : t.unset <;> simp [lastIssueBytes, layout_cons, layout_nil, bytesBE_one, bitOf_eq, hu]

/-- R170: permitted bays as one byte. -/
theorem permittedByte_eq (o : Option (PerBay Bool)) : permittedByte o = match o with
    | none => 0
    | some p => 128 + (if p.b1 then 1 else 0) + (if p.b2 then 2 else 0) + (if p.b3 then 4 else 0) +
        (if p.b4 then 8 else 0) := by
  cases o with
  | none => rfl
  | some p =>
    simp only [permittedByte, bitOf_eq, Nat.reducePow]
    omega

/-- The payload of a reply OK. -/
theorem okReply_bytes (ref : Byte) {fields : ReplyFields} {bs : List Byte} (h : fields.bytes = some bs) :
    (Body.reply ref (.okWith fields)).bytes = some (layout [(1, ref.toNat), (1, 0)] ++ bs) := by
  simp [Body.bytes, Reply.okWith, h, layout_cons, layout_nil, bytesBE_one, oneByte_toNat, Reply.resultByte, Result.code,
    bitOf_eq]

/-- R32, R170: the RECORD view. -/
theorem fleetRecord_bytes (n : Nat) (v : Vehicle) (ref : Byte) :
    (Body.reply ref (.okWith (.fleetRecord n v))).bytes = some (layout
      ([(1, ref.toNat), (1, 0), (2, n), (4, v.tag), (2, v.unit), (1, v.cls.val), (1, v.priority.val), (1, v.status.code),
        (2, v.fillCeiling), (1, permittedByte v.permitted),
        (2, (v.allowance.map (·.litres)).getD 0), (4, (v.allowance.map (·.usedCl)).getD 0),
        (1, v.standing.code + if v.limpUsed then 128 else 0), (4, v.lastHours.getD 0xFFFFFFFF),
        (1, (v.armedAt.map bayNumber).getD 0), (4, (v.lastIssue.map (·.time)).getD 0xFFFFFFFF),
        (1, match v.lastIssue with | none => 0 | some t => 2 + if t.unset then 1 else 0), (1, v.counters.length)] ++
        v.counters.flatMap (fun c =>
          [(1, c.code), (1, c.basis.code + 16 * c.standing.rank), (4, twosComplement 4 c.remaining)]))) := by
  rw [okReply_bytes ref (fields := .fleetRecord n v) rfl]
  simp only [Vehicle.recordBytes, funext counter_recordBytes, lastIssueBytes_eq, optBytes4_eq, bitOf_eq, layout_flatMap,
    layout_cons, layout_nil, bytesBE_one, List.append_assoc, List.cons_append, List.nil_append, List.append_nil]
  rfl

/-- R32, R170: the COUNTERS view. -/
theorem fleetCounters_bytes (n : Nat) (v : Vehicle) (ref : Byte) :
    (Body.reply ref (.okWith (.fleetCounters n v))).bytes = some (layout
      ([(1, ref.toNat), (1, 0), (2, n), (4, v.tag), (1, v.counters.length), (1, v.standing.code)] ++
        v.counters.flatMap (fun c =>
          [(1, c.code), (1, c.basis.code + 16 * c.standing.rank), (4, c.interval), (4, c.grace),
            (4, twosComplement 4 c.remaining)]))) := by
  rw [okReply_bytes ref (fields := .fleetCounters n v) rfl]
  simp only [Vehicle.counterBytes, funext counter_fullBytes, layout_flatMap, layout_cons, layout_nil,
    bytesBE_one, List.append_assoc, List.cons_append, List.nil_append, List.append_nil]

/-- The widths of a list's members add up. -/
theorem flatMap_widths {α : Type} (g : α → List (Nat × Nat)) (k : Nat) (h : ∀ x, ((g x).map (·.1)).sum = k) (l : List α) :
    ((l.flatMap g).map (·.1)).sum = k * l.length := by
  induction l with
  | nil => simp
  | cons x l ih =>
    rw [List.flatMap_cons, List.map_append, List.sum_append, h, ih, List.length_cons]
    ring

/-- The bytes of records of one length add up. -/
theorem flatMap_bytes {α : Type} (g : α → List Byte) (k : Nat) (h : ∀ x, (g x).length = k) (l : List α) :
    (l.flatMap g).length = k * l.length := by
  induction l with
  | nil => simp
  | cons x l ih =>
    rw [List.flatMap_cons, List.length_append, h, ih, List.length_cons]
    ring

/-- R170: the lengths of the two views. -/
theorem fleetView_lengths (n : Nat) (v : Vehicle) (ref : Byte) :
    ∃ p q, (Body.reply ref (.okWith (.fleetRecord n v))).bytes = some p ∧ p.length = 34 + 6 * v.counters.length ∧
      (Body.reply ref (.okWith (.fleetCounters n v))).bytes = some q ∧ q.length = 10 + 14 * v.counters.length := by
  refine ⟨_, _, fleetRecord_bytes n v ref, ?_, fleetCounters_bytes n v ref, ?_⟩
  · rw [layout_length, List.map_append, List.sum_append, flatMap_widths _ 6 (fun _ => rfl)]
    simp
  · rw [layout_length, List.map_append, List.sum_append, flatMap_widths _ 14 (fun _ => rfl)]
    simp

/-- R156, R170: the head of a JOURNAL READ reply of the issue ring. -/
theorem journalIssues_bytes (ref : Byte) (x : RingSummary) (is : List IssueRecord) :
    (Body.reply ref (.okWith (.journalIssues x is))).bytes = some (layout
      [(1, ref.toNat), (1, 0), (1, (if x.empty then 64 else 0) + is.length), (2, x.held), (4, x.oldest), (2, x.aux)] ++
      is.flatMap IssueRecord.bytes) := by
  rw [okReply_bytes ref (fields := .journalIssues x is) rfl]
  simp [journalHead, layout_cons, layout_nil, bytesBE_one, bitOf_eq]

/-- R156, R170: the head of a JOURNAL READ reply of the event ring. -/
theorem journalEvents_bytes (ref : Byte) (x : RingSummary) (es : List EventRecord) :
    (Body.reply ref (.okWith (.journalEvents x es))).bytes = some (layout
      [(1, ref.toNat), (1, 0), (1, 128 + (if x.empty then 64 else 0) + es.length), (2, x.held), (4, x.oldest),
        (2, x.aux)] ++ es.flatMap EventRecord.bytes) := by
  rw [okReply_bytes ref (fields := .journalEvents x es) rfl]
  simp [journalHead, layout_cons, layout_nil, bytesBE_one, bitOf_eq]

/-- R170: a JOURNAL READ reply has at most 56 bytes. -/
theorem journal_lengths (ref : Byte) (x : RingSummary) {is : List IssueRecord} {es : List EventRecord}
    (hi : is.length ≤ 1) (he : es.length ≤ 3) :
    ∃ p q, (Body.reply ref (.okWith (.journalIssues x is))).bytes = some p ∧ p.length = 11 + 35 * is.length ∧
      (Body.reply ref (.okWith (.journalEvents x es))).bytes = some q ∧ q.length = 11 + 15 * es.length ∧
      p.length ≤ 56 ∧ q.length ≤ 56 := by
  have hp := flatMap_bytes IssueRecord.bytes 35 (fun r => (issueRecord_bytes r).1) is
  have hq := flatMap_bytes EventRecord.bytes 15 (fun r => (eventRecord_bytes (r := r) rfl).1) es
  refine ⟨_, _, journalIssues_bytes ref x is, ?_, journalEvents_bytes ref x es, ?_, ?_, ?_⟩ <;>
    simp only [List.length_append, layout_length, hp, hq, List.map_cons, List.map_nil, List.sum_cons, List.sum_nil] <;>
    omega

/-- R68, R95, R166: the payloads of the frames that the part originates. -/
theorem notice_bytes (o : ValveOrder) (tag limit net : Nat) (r : LimitReason) (n : ServiceNotice) (c : RefusalCode)
    (q : CloseCause) (dst kind : Byte) (res : Result) :
    (Body.valveOrder o).bytes = some (layout [(1, o.code)]) ∧
    (Body.grantNotice tag limit r n).bytes = some (layout [(4, tag), (2, limit), (1, r.code), (1, n.code)]) ∧
    (Body.refusalNotice tag c).bytes = some (layout [(4, tag), (1, c.code), (1, c.reasonCode)]) ∧
    (Body.closeNotice tag net q).bytes = some (layout [(4, tag), (4, net), (1, q.code)]) ∧
    (Body.forwardRefused dst kind res).bytes = some (layout [(1, dst.toNat), (1, kind.toNat), (1, res.code)]) := by
  and_intros <;> simp [Body.bytes, layout_cons, layout_nil, bytesBE_one, oneByte_toNat]

/-- The two bytes of a check spell it. -/
theorem check_bytes (c : BitVec 16) : (((c >>> 8).setWidth 8 ++ c.setWidth 8 : BitVec 16)) = c := by
  refine BitVec.eq_of_getLsbD_eq fun i hi => ?_
  rw [BitVec.getLsbD_append]
  by_cases h : i < 8
  · simp [h]
  · simp [h, show i - 8 < 8 by omega, show 8 + (i - 8) = i by omega]

/-- R161, R170: a frame on the line. -/
theorem wireBytes_eq (dst src kind : Byte) (p : List Byte) : ∃ hi lo : Byte,
    wireBytes dst src kind p = [0xA5, dst, src, kind, BitVec.ofNat 8 p.length] ++ p ++ [hi, lo] ∧
      (hi ++ lo : BitVec 16) = crc16 ([dst, src, kind, BitVec.ofNat 8 p.length] ++ p) :=
  ⟨_, _, rfl, check_bytes _⟩

/-- Settles O27: each payload is a `layout` of its fields, and the lengths follow from the widths (R153, R155, R170). -/
theorem framesAndRecordsAreWrittenAsLaidOut : Obligations.FramesAndRecordsAreWrittenAsLaidOut := by
  refine ⟨fun w n => ⟨bytesBE_length w n, beNat_bytesBE w n⟩, issueRecord_bytes, fun r => ?_, fun n v ref => ?_,
    fun ref x is es hi he => ⟨journalIssues_bytes ref x is, journalEvents_bytes ref x es, journal_lengths ref x hi he⟩,
    notice_bytes, resultByte_ok, rfl, rfl, rfl, fun r => ⟨rfl, rfl⟩, fun c hc => ?_, rfl, rfl, rfl, rfl, rfl, rfl, rfl, rfl,
    rfl, rfl, fun dst src kind p _ => wireBytes_eq dst src kind p, by decide +kernel⟩
  · have spelled := fun (k : EventKind) (h : r.kind = k) => (eventRecord_bytes h).2
    exact ⟨(eventRecord_bytes rfl).1, fun _ _ _ => spelled _, fun _ _ _ => spelled _, fun _ _ => spelled _,
      fun _ _ _ => spelled _, fun _ _ => spelled _, fun _ _ => spelled _, fun _ _ => spelled _, fun _ _ => spelled _,
      fun _ _ => spelled _, fun _ => spelled _, fun _ => spelled _, fun _ _ => spelled _, fun _ _ _ => spelled _,
      fun _ _ _ _ _ => spelled _, fun _ => spelled _, fun _ _ => spelled _, spelled _⟩
  · refine ⟨?_, fleetCounters_bytes n v ref, fun _ => fleetView_lengths n v ref, fun res => ?_⟩
    · have h := fleetRecord_bytes n v ref
      rw [permittedByte_eq] at h
      exact h
    · simp [Body.bytes, Reply.refuseWith, ReplyFields.bytes, layout_cons, layout_nil, bytesBE_one, oneByte_toNat,
        Reply.resultByte, bitOf_eq]
  · cases c with
    | limitTooLow r => exact absurd rfl (hc r)
    | _ => rfl

end Sys2Proof.FleetRegister
end

section
/-! PROOFS of the family of chapter 03. What a completion leaves, seen from any state before it in the same event; then the
bays' requests and timers, the yard frames, the payloads, and the decision on a tag. -/

namespace Sys2Proof.ServiceIntervals

open Sys2Proof Sys2Proof.Machine Sys2Proof.FleetRegister

/-! ## Completions -/

/-- R85 to R87, R123: what a completion changes of the state. -/
theorem complete_changes (s : State) (b : BayId) (c : CloseCause) :
    s.complete b c = { s with
      bays := (s.complete b c).bays, fleet := (s.complete b c).fleet, journal := (s.complete b c).journal
      probe := { s.probe with tanks := (s.complete b c).probe.tanks }
      yard := { s.yard with tx := (s.complete b c).yard.tx } } := by
  have frame := s.complete_frame b c
  obtain ⟨mode, target, yard⟩ := s.complete_yard b c
  have hp : (s.complete b c).probe = { s.probe with tanks := (s.complete b c).probe.tanks } := by
    rw [s.complete_probe b c]; rfl
  have hy : (s.complete b c).yard = { s.yard with tx := (s.complete b c).yard.tx } := by
    rw [yard]
  clear yard
  generalize s.complete b c = t at *
  cases t
  simp only at frame mode target
  simp only [State.mk.injEq, frame, mode, target, true_and, and_true]
  exact ⟨hp, hy⟩

/-- The bay's flags after a completion are those it was ended with. -/
theorem movedOn_flags (c : CloseCause) (y : Bay) : ((y.ended c).movedOn c).flags = (y.finish c).flags := by
  unfold Bay.movedOn Bay.toDraining
  repeat' split
  all_goals rfl

/-- R87: a completion that faults the bay logs its BAY FAULT event last. -/
theorem complete_newest {s : State} {b : BayId} {c : CloseCause} {q : BayFaultCause} (hc : c ≠ .interrupted)
    (hq : ((s.complete b c).bay b).flags.fault = some q) : (s.complete b c).newestEvent (.bayFault b q) := by
  rw [State.complete_bay_same, movedOn_flags] at hq
  have hf : ((s.bay b).finish c).faultEvents b c = [.bayFault b q] := by
    simp [Bay.faultEvents, hc, hq]
  have he := (s.complete_events b c).1
  rw [hf, State.journalAfter_append] at he
  obtain ⟨e, hlast, hk⟩ := State.log_newest { s with journal := s.journalAfter _ } (.bayFault b q)
  exact ⟨e, (congrArg (·.records.getLast?) he).trans hlast, hk⟩

/-- R85: the flags an issue ends with, for a cause other than INTERRUPTED. -/
def endFlags (y : Bay) : IssueFlags :=
  { y.flags with afterRun := y.flags.afterRun || decide (y.settings.afterRunLimit * 1000000 < y.closing) }

/-- R87: the bay an issue leaves that ended with a cause other than INTERRUPTED. -/
def endedBay (c : CloseCause) (y : Bay) : Bay :=
  let faulted := (endFlags y).fault.isSome
  let drains := !faulted && decide (y.state ≠ .granted) && decide (y.settings.drainTime ≠ 0)
  { y with
    state := if faulted then .faulted else if drains then .draining else .idle
    flags := endFlags y, cause := some c
    grossTotal := y.grossTotal.add y.gross, netTotal := y.netTotal.add y.net
    slot := if faulted then { order := .shut, pending := true } else y.slot
    armTimer := none, noFlowTimer := none, gapTimer := none, closeTimer := none
    drainTimer := if drains then some (y.settings.drainTime * 1000) else none }

/-- R85 to R87: the bay after a completion. -/
theorem complete_ended {s : State} {b : BayId} {y : Bay} {c : CloseCause} (hc : c ≠ .interrupted) (hy : s.bay b = y) :
    (s.complete b c).bay b = endedBay c y := by
  subst hy
  exact (s.complete_completed b c hc).1

theorem endedBay_faulted {c : CloseCause} {y : Bay} {q : BayFaultCause} (h : (endFlags y).fault = some q) :
    (endedBay c y).state = .faulted ∧ (endedBay c y).slot = { order := .shut, pending := true } := by
  simp [endedBay, h]

theorem endedBay_sound {c : CloseCause} {y : Bay} (h : (endFlags y).fault = none) :
    (endedBay c y).slot = y.slot ∧
      (y.state = .granted ∨ y.settings.drainTime = 0 →
        (endedBay c y).state = .idle ∧ (endedBay c y).drainTimer = none) ∧
      (y.state ≠ .granted → y.settings.drainTime ≠ 0 → (endedBay c y).state = .draining ∧
        (endedBay c y).drainTimer = some (y.settings.drainTime * 1000)) := by
  refine ⟨by simp [endedBay, h], ?_, fun hg hd => by simp [endedBay, h, hg, hd]⟩
  rintro (hg | hd)
  · simp [endedBay, h, hg]
  · simp [endedBay, h, hd]

/-- R85: the flags after a completion. -/
theorem complete_flags {s : State} {b : BayId} {y : Bay} {c : CloseCause} (hc : c ≠ .interrupted) (hy : s.bay b = y) :
    ((s.complete b c).bay b).flags = endFlags y :=
  congrArg Bay.flags (complete_ended hc hy)

/-- R87: a completion that leaves a fault flag set faults the bay, its BAY FAULT event logged last. -/
theorem complete_faulted {s : State} {b : BayId} {c : CloseCause} {q : BayFaultCause} (hc : c ≠ .interrupted)
    (hq : ((s.complete b c).bay b).flags.fault = some q) :
    ((s.complete b c).bay b).state = .faulted ∧ ((s.complete b c).bay b).slot = { order := .shut, pending := true } ∧
      ((s.complete b c).bay b).cause = some c ∧ (s.complete b c).newestEvent (.bayFault b q) := by
  have hnewest := complete_newest hc hq
  rw [complete_flags hc rfl] at hq
  rw [complete_ended hc rfl]
  exact ⟨(endedBay_faulted hq).1, (endedBay_faulted hq).2, rfl, hnewest⟩

/-- R87: a completion that leaves no fault flag set drains the bay or makes it IDLE. -/
theorem complete_sound {s : State} {b : BayId} {y : Bay} {c : CloseCause} (hc : c ≠ .interrupted) (hy : s.bay b = y)
    (hf : ((s.complete b c).bay b).flags.fault = none) :
    ((s.complete b c).bay b).slot = y.slot ∧
      (y.state = .granted ∨ y.settings.drainTime = 0 →
        ((s.complete b c).bay b).state = .idle ∧ ((s.complete b c).bay b).drainTimer = none) ∧
      (y.state ≠ .granted → y.settings.drainTime ≠ 0 → ((s.complete b c).bay b).state = .draining ∧
        ((s.complete b c).bay b).drainTimer = some (y.settings.drainTime * 1000)) := by
  rw [complete_flags hc hy] at hf
  rw [complete_ended hc hy]
  exact endedBay_sound hf

/-- R85, R153: the record of a completed issue carries the bay's volumes and flags. -/
theorem complete_record (s : State) (b : BayId) (c : CloseCause) :
    ∃ r, (s.complete b c).journal.issues.records = s.journal.issues.records ++ [r] ∧ r.cause = c ∧ r.bay = b ∧
      r.netCl = clOf (s.bay b).net ∧ r.grossCl = clOf (s.bay b).gross ∧
      r.uncompensated = (s.bay b).flags.uncompensated ∧ r.tempClamped = (s.bay b).flags.tempClamped ∧
      r.saturated = (s.bay b).flags.saturated ∧ r.overspeed = (s.bay b).flags.overspeed ∧
      r.valve = (s.bay b).flags.valve ∧ (c ≠ .interrupted → r.afterRun = (endFlags (s.bay b)).afterRun) := by
  have hc : c ≠ .interrupted → (c != .interrupted) = true := bne_iff_ne.2
  refine ⟨_, (s.complete_issues b c).2, ?_⟩
  simp +contextual [issueRecord, Bay.finish, endFlags, Config.microPerLitre, hc]

/-- A completion seen from the state before the same event changed the bay itself, the tanks and the yard receive queue, and
logged its first events. -/
theorem complete_completed_from {before : List EventKind} {s u : State} {b : BayId} {y : Bay} {c : CloseCause}
    (hc : c ≠ .interrupted) (hy : u.bay b = y)
    (changes : u = { s with
      bays := u.bays, tanks := u.tanks, journal := s.journalAfter before, yard := { s.yard with rx := u.yard.rx } })
    (others : ∀ k, k ≠ b → u.bay k = s.bay k) (settings : ∀ k, (u.tank k).settings = (s.tank k).settings) :
    IssueCompleted before s (u.complete b c) b y c := by
  subst hy
  have h := u.complete_completed b c hc
  have same : u.clock = s.clock ∧ u.clockSet = s.clockSet ∧ u.station = s.station ∧ u.fleet = s.fleet ∧
      u.probe = s.probe ∧ u.yard.tx = s.yard.tx ∧ u.journal = s.journalAfter before := by
    rw [changes]
    simp
  obtain ⟨clock, clockSet, station, fleet, probe, tx, journal⟩ := same
  have after : ∀ ks, u.journalAfter ks = s.journalAfter (before ++ ks) := by
    intro ks
    rw [State.journalAfter_append, ← journal]
    simp [State.journalAfter, State.stamp, clock, clockSet]
  obtain ⟨issues, span, reservations⟩ := s.journalAfter_issues before
  unfold IssueCompleted at h ⊢
  simp only [clock, clockSet, station, fleet, probe, tx, settings, after, journal, issues, reservations, List.nil_append,
    State.probeTank, List.append_assoc] at h ⊢
  obtain ⟨hbay, hothers, hrest⟩ := h
  exact ⟨hbay, fun k hk => (hothers k hk).trans (others k hk), hrest⟩

/-- R87: the four flags that fault a bay. -/
theorem fault_none_iff (f : IssueFlags) :
    f.fault = none ↔ f.overspeed = false ∧ f.meter = false ∧ f.valve = false ∧ f.afterRun = false := by
  unfold IssueFlags.fault
  cases f.overspeed <;> cases f.meter <;> cases f.valve <;> cases f.afterRun <;> simp

theorem fault_of_valve {f : IssueFlags} (h : f.valve = true) : ∃ q, f.fault = some q := by
  rw [← Option.ne_none_iff_exists', Ne, fault_none_iff]
  simp [h]

theorem fault_of_meter {f : IssueFlags} (h : f.meter = true) :
    f.fault = some (if f.overspeed then .overspeed else .meterFault) := by
  unfold IssueFlags.fault
  rw [if_pos h]
  split <;> rfl

/-! ## BAY STOP and BAY RELEASE -/

/-- A payload of one field of one byte. -/
theorem parseOne_byte (n : Byte) : parseOne 1 [n] = some n.toNat := by
  have : fieldsOf [1] [n] = some [beNat [n]] := rfl
  simp [parseOne, this, beNat_one]

/-- R90: BAY STOP. -/
theorem bayStop_answers {s : State} {f : Frame} {ref n : Byte} (hf : s.requestAt 0x2D = some f) (hp : f.payload = [ref, n]) :
    exec .bayStop s = answered f (bayStop n.toNat s.taken).1 (bayStop n.toNat s.taken).2 :=
  request_served hf (by rw [hp]; exact parseOne_byte n)

/-- R89: BAY RELEASE. -/
theorem bayRelease_answers {s : State} {f : Frame} {ref n : Byte} (hf : s.requestAt 0x2E = some f)
    (hp : f.payload = [ref, n]) :
    exec .bayRelease s = answered f (bayRelease n.toNat s.taken).1 (bayRelease n.toNat s.taken).2 :=
  request_served hf (by rw [hp]; exact parseOne_byte n)

/-- A request taken and the wake leave the bays. -/
theorem taken_bay (s : State) (b : BayId) : s.taken.bay b = s.bay b := State.bay_congr (by simp) b

/-- The wake leaves the issue ring. -/
theorem taken_issues (s : State) : s.taken.journal.issues = s.journal.issues := by
  unfold State.taken State.wakeByRequest
  split <;> simp [State.changePod]

/-- R80, R82, R90: what ending an issue from outside makes of each bay state. -/
theorem endIssue_granted {s : State} {b : BayId} (c : CloseCause) (h : (s.bay b).state = .granted) :
    s.endIssue c b = s.complete b c := by
  simp [State.endIssue, h]

theorem endIssue_open {s : State} {b : BayId} (c : CloseCause) (h : (s.bay b).state.valveOpen = true) :
    s.endIssue c b = s.setBay b ((s.bay b).toClosing c) := by
  unfold State.endIssue
  cases hs : (s.bay b).state <;> simp_all [BayState.valveOpen]

theorem endIssue_other {s : State} {b : BayId} (c : CloseCause) (hg : (s.bay b).state ≠ .granted)
    (h : (s.bay b).state.valveOpen = false) : s.endIssue c b = s := by
  unfold State.endIssue
  cases hs : (s.bay b).state <;> simp_all [BayState.valveOpen]

/-- R80, R87: a GRANTED issue without a fault leaves its bay IDLE, its flags as they were. -/
theorem complete_granted_sound {s : State} {b : BayId} {c : CloseCause} (hc : c ≠ .interrupted)
    (hg : (s.bay b).state = .granted) (hf : (s.bay b).flags.fault = none)
    (hclosing : (s.bay b).closing ≤ (s.bay b).settings.afterRunLimit * 1000000) :
    ((s.complete b c).bay b).state = .idle ∧ ((s.complete b c).bay b).flags = (s.bay b).flags := by
  have hflags : endFlags (s.bay b) = (s.bay b).flags := by simp [endFlags, Nat.not_lt.2 hclosing]
  have hafter : ((s.complete b c).bay b).flags = (s.bay b).flags := (complete_flags hc rfl).trans hflags
  exact ⟨((complete_sound hc rfl (by rw [hafter, hf])).2.1 (.inl hg)).1, hafter⟩

/-- Settles O42: BAY STOP ends the issue by the bay's state, and BAY RELEASE frees a FAULTED bay (R89, R90). -/
theorem bayStopAndBayRelease : Obligations.BayStopAndBayRelease := by
  refine ⟨fun s f ref n hf hp => ?_, fun s f ref n hf hp => ?_⟩
  · rw [bayStop_answers hf hp]
    refine ⟨fun hb => by simp [bayStop, hb, refused],
      fun b hb => ⟨fun ho => ?_, fun hg ho => ?_, fun hg hfault hclosing => ?_⟩⟩
    · rw [← taken_bay] at ho ⊢
      simp [bayStop, hb, endIssue_open .site ho, (Bay.toClosing_eq ..).1]
    · rw [← taken_bay] at hg ho ⊢
      simp [bayStop, hb, endIssue_other .site hg ho]
    · have hcompleted := s.taken.complete_completed b .site (by decide)
      have hframe := complete_changes s.taken b .site
      obtain ⟨r, hr, hcause, hbay, -, -, hunc, htemp, hsat, hover, hvalve, hafter⟩ := complete_record s.taken b .site
      rw [← taken_bay] at hg hfault hclosing ⊢
      obtain ⟨hidle, hflags⟩ := complete_granted_sound (c := .site) (by decide) hg hfault hclosing
      obtain ⟨ho, -, hv, ha⟩ := (fault_none_iff _).1 hfault
      refine ⟨s.taken.complete b .site, ?_, hidle, hflags, ⟨r, ?_, hcause, hbay, hunc, htemp, hsat, hover.trans ho, ?_,
        hvalve.trans hv⟩, fun k hk => ?_, hcompleted, ?_⟩
      · simp [bayStop, hb, endIssue_granted .site hg, hidle]
      · rw [hr, taken_issues]
      · rw [hafter (by decide)]
        simp [endFlags, ha, Nat.not_lt.2 hclosing]
      · rw [s.taken.complete_bay_other b k _ hk, taken_bay]
      · simpa using hframe
  · rw [bayRelease_answers hf hp]
    refine ⟨fun hb => by simp [bayRelease, hb, refused], fun b hb => ⟨fun hs => ?_, fun hs => ?_⟩⟩
    · simp [bayRelease, hb, taken_bay, hs, refused]
    · simp [bayRelease, hb, taken_bay, hs]

/-! ## Timer expiries -/

/-- R84: the close timer's expiry completes the issue with the recorded cause, VALVE set when the valve was not seen shut. -/
theorem closeExpires_eq {s : State} {b : BayId} {c : CloseCause} (h : (s.bay b).cause = some c) :
    s.closeExpires b = (s.setBay b { s.bay b with flags := { (s.bay b).flags with
      valve := (s.bay b).flags.valve || !(s.bay b).shutSeen } }).complete b c := by
  have hset : (s.bay b).setValve.recordedCause = c ∧ (s.bay b).recordedCause = c := by
    simp [Bay.setValve, Bay.recordedCause, h]
  unfold State.closeExpires
  cases hs : (s.bay b).shutSeen
  · simp only [Bool.false_eq_true, if_false, hset, Bool.not_false, Bool.or_true]
    rfl
  · simp only [if_true, hset, Bool.not_true, Bool.or_false]

/-- Settles O40: the timer expiries act by the bay's state (R82, R84, R88). -/
theorem bayTimerExpiriesActByState : Obligations.BayTimerExpiriesActByState := by
  refine ⟨fun s b hp ho => ⟨fun ht => ?_, fun ht => ?_⟩, fun s b hp hs ht => ?_,
    fun s b => ⟨fun ht => ?_, fun ht => ?_, fun ht => ?_, fun ht => ?_, fun ht => ?_⟩,
    fun s b c hp hs ht hcause hc => ?_, fun f => ?_, fun y c => ?_⟩
  · simp [exec, execNoFlowTimerExpiry, event_eq, hp, ho, ht]
  · simp [exec, execGapTimerExpiry, event_eq, hp, ho, ht]
  · simp [exec, execDrainTimerExpiry, event_eq, hp, hs, ht]
    rfl
  · simp [exec, execArmTimerExpiry, event_eq, Timer.ranOut_false ht]
  · simp [exec, execNoFlowTimerExpiry, event_eq, Timer.ranOut_false ht]
  · simp [exec, execGapTimerExpiry, event_eq, Timer.ranOut_false ht]
  · simp [exec, execCloseTimerExpiry, event_eq, Timer.ranOut_false ht]
  · simp [exec, execDrainTimerExpiry, event_eq, Timer.ranOut_false ht]
  · let y : Bay := { s.bay b with flags := { (s.bay b).flags with valve := (s.bay b).flags.valve || !(s.bay b).shutSeen } }
    let u := s.setBay b y
    have hu : u.bay b = y := s.bay_setBay_same b y
    have hcompleted : IssueCompleted [] s (u.complete b c) b y c :=
      complete_completed_from hc hu rfl (s.bay_setBay_other b · y) fun _ => rfl
    obtain ⟨r, hr, hcr, -, -, -, -, -, -, -, hvalve, hafter⟩ := complete_record u b c
    rw [hu] at hvalve hafter
    have hflags : ((u.complete b c).bay b).flags = endFlags y := complete_flags hc hu
    refine ⟨u.complete b c, r, ?_, hcompleted.2.1, hcompleted, complete_changes u b c, hcompleted.2.2.1, hr, hcr, hvalve,
      hafter hc, fun hshut => ?_, fun hf => ?_, fun q hq => ?_⟩
    · simp [exec, execCloseTimerExpiry, event_eq, hp, hs, ht, closeExpires_eq hcause, u, y]
    · obtain ⟨q, hq⟩ := fault_of_valve (f := endFlags y) (by simp [endFlags, y, hshut])
      exact (complete_faulted hc (by rw [hflags, hq])).1
    · obtain ⟨-, hidle, hdrains⟩ := complete_sound hc hu hf
      split
      · exact (hidle (.inr ‹_›)).1
      · exact (hdrains (by simp [y, hs]) ‹_›).1
    · obtain ⟨hstate, hslot, -, hnewest⟩ := complete_faulted hc hq
      exact ⟨hstate, hslot, hnewest⟩
  · simp +contextual [IssueFlags.fault]
  · and_intros <;> rfl


/-! ## Valve reports -/

/-- The later of two values written for one bay stands. -/
theorem setBay_setBay (s : State) (b : BayId) (y z : Bay) : (s.setBay b y).setBay b z = s.setBay b z := by
  cases b <;> rfl

/-- The oldest yard frame taken leaves the bays. -/
theorem popYard_bay (s : State) (b : BayId) : s.popYard.bay b = s.bay b := rfl

/-- R110: a valve report is taken. -/
theorem valveStatus_taken {s t : State} {b : BayId} {r : ReportedValve} (h : ValveReportAt s b r)
    (ht : s.popYard.takeValve b r = t) : exec .valveStatus s = .next t.settled := by
  obtain ⟨f, hf, hclass, hparse⟩ := h
  simp [exec, execValveStatus, hf, hclass, event_eq, hparse, ht]

/-- R110: what a report makes of a bay that neither completes its issue nor leaves IDLE or DRAINING. -/
def afterReport (r : ReportedValve) (y : Bay) : Bay :=
  if y.state = .closing then y.closingReport r
  else if y.state.valveOpen ∧ r.health = .faulty then y.setValve.toClosing .valve
  else y

theorem afterReport_reported (r : ReportedValve) (y : Bay) : (afterReport r y).reported = y.reported := by
  unfold afterReport Bay.closingReport
  repeat' split
  all_goals rfl

theorem afterReport_open {r : ReportedValve} {y : Bay} (hs : y.state.valveOpen = true) (hr : r.health = .faulty) :
    afterReport r y = y.setValve.toClosing .valve := by
  have : y.state ≠ .closing := by
    intro h
    simp [h, BayState.valveOpen] at hs
  simp [afterReport, this, hs, hr]

theorem afterReport_closing {r : ReportedValve} {y : Bay} (hs : y.state = .closing) :
    afterReport r y = { (if r.health = .faulty then y.setValve else y) with shutSeen := decide (r.position = .shut) } := by
  rw [afterReport, if_pos hs]
  unfold Bay.closingReport
  split <;> rfl

theorem afterReport_still {r : ReportedValve} {y : Bay} (hs : y.state ≠ .closing)
    (ho : y.state.valveOpen = false ∨ r.health = .ok) : afterReport r y = y := by
  obtain ho | ho := ho <;> simp [afterReport, hs, ho]

/-- R80, R110: FAULT in GRANTED completes the issue. -/
theorem takeValve_granted {s : State} {b : BayId} {r : ReportedValve} (hs : (s.bay b).state = .granted)
    (hr : r.health = .faulty) :
    s.takeValve b r =
      (s.setBay b ({ s.bay b with reported := some r } : Bay).setValve).complete b .valve := by
  simp [State.takeValve, State.handValve, hs, hr, setBay_setBay]

/-- R93, R110: FAULT in IDLE or DRAINING faults the bay. -/
theorem takeValve_idle {s : State} {b : BayId} {r : ReportedValve}
    (hs : (s.bay b).state = .idle ∨ (s.bay b).state = .draining) (hr : r.health = .faulty) :
    s.takeValve b r =
      (s.setBay b ({ s.bay b with reported := some r } : Bay).toFaulted).log (.bayFault b .valve) := by
  obtain hs | hs := hs <;> simp [State.takeValve, State.handValve, hs, hr, State.faultIdle, setBay_setBay]

/-- R82, R84, R110: any other report changes the bay alone. -/
theorem takeValve_other {s : State} {b : BayId} {r : ReportedValve}
    (h : r.health = .faulty →
      (s.bay b).state ≠ .granted ∧ (s.bay b).state ≠ .idle ∧ (s.bay b).state ≠ .draining) :
    s.takeValve b r = s.setBay b (afterReport r { s.bay b with reported := some r }) := by
  unfold State.takeValve State.handValve afterReport
  cases hs : (s.bay b).state <;> cases hr : r.health <;>
    simp_all [BayState.valveOpen, setBay_setBay]

/-- Settles O33: each report is written, and acted on by the bay's state (R80, R82, R84, R93, R110). -/
theorem valveReportIsWrittenAndActedOn : Obligations.ValveReportIsWrittenAndActedOn := by
  intro s b r hreport y faulty
  by_cases hg : (s.bay b).state = .granted ∧ r.health = .faulty
  · obtain ⟨hs, hr⟩ := hg
    let u := s.popYard.setBay b faulty
    have hu : u.bay b = faulty := s.popYard.bay_setBay_same b faulty
    have hcompleted : IssueCompleted [] s (u.complete b .valve) b faulty .valve :=
      complete_completed_from (by decide) hu rfl (s.popYard.bay_setBay_other b · faulty) fun _ => rfl
    obtain ⟨q, hq⟩ := fault_of_valve (f := endFlags faulty) rfl
    have hflags : ((u.complete b .valve).bay b).flags = endFlags faulty := complete_flags (by decide) hu
    obtain ⟨hstate, hslot, hcause, hnewest⟩ := complete_faulted (c := .valve) (by decide) (by rw [hflags, hq])
    obtain ⟨i, hi, hicause, -, -, -, -, -, -, -, hvalve, -⟩ := complete_record u b .valve
    refine ⟨u.complete b .valve, valveStatus_taken hreport (takeValve_granted (s := s.popYard) hs hr),
      congrArg Bay.reported (complete_ended (by decide) hu), hcompleted.2.1, complete_changes u b .valve,
      fun h => absurd hs h, fun _ _ => ⟨hstate, hcause, hslot, by rw [hflags]; rfl, ⟨q, by rw [hflags, hq], hnewest⟩,
        ⟨i, hi, hicause, by rw [hvalve, hu]⟩, hcompleted⟩, ?_⟩
    simp [hs, hr, BayState.valveOpen]
  by_cases hi : ((s.bay b).state = .idle ∨ (s.bay b).state = .draining) ∧ r.health = .faulty
  · obtain ⟨hs, hr⟩ := hi
    let t := (s.popYard.setBay b y.toFaulted).log (.bayFault b .valve)
    have hb : t.bay b = y.toFaulted := s.popYard.bay_setBay_same b y.toFaulted
    have hj : t.journal = s.journal.logEvent s.stamp (.bayFault b .valve) := rfl
    refine ⟨t, valveStatus_taken hreport (takeValve_idle (s := s.popYard) hs hr), congrArg Bay.reported hb,
      (s.popYard.bay_setBay_other b · y.toFaulted), rfl, fun _ => ⟨rfl, rfl, rfl⟩, ?_⟩
    obtain hs | hs := hs <;> simp [hs, hr, hb, hj, BayState.valveOpen]
  · have h : r.health = .faulty →
      (s.bay b).state ≠ .granted ∧ (s.bay b).state ≠ .idle ∧ (s.bay b).state ≠ .draining :=
      fun hr => ⟨fun hs => hg ⟨hs, hr⟩, fun hs => hi ⟨.inl hs, hr⟩, fun hs => hi ⟨.inr hs, hr⟩⟩
    let t := s.popYard.setBay b (afterReport r y)
    have hb : t.bay b = afterReport r y := s.popYard.bay_setBay_same b _
    refine ⟨t, valveStatus_taken hreport (takeValve_other (s := s.popYard) h), by rw [hb, afterReport_reported],
      (s.popYard.bay_setBay_other b · (afterReport r y)), rfl, fun _ => ⟨rfl, rfl, rfl⟩,
      fun hs hr => absurd hs (h hr).1, fun hs hr => hb.trans (afterReport_open hs hr),
      fun hs => hb.trans (afterReport_closing hs), fun hs hr => absurd ⟨hs, hr⟩ hi, fun hs => ⟨hb.trans ?_, rfl⟩,
      fun hs hr => ⟨hb.trans (afterReport_still hs (.inr hr)), rfl⟩⟩
    refine afterReport_still (fun hc : (s.bay b).state = .closing => ?_) (.inl (?_ : (s.bay b).state.valveOpen = false)) <;>
      obtain hs | hs := hs <;> simp_all [BayState.valveOpen]

/-! ## Tallies -/

/-- R107, R134: the event of a debit that changes the tank's standing. -/
def standingEvents (t : TankId) (k : Tank) (n : Nat) : List EventKind :=
  if n ≠ 0 ∧ formStanding k.settings (clampBook (k.book - n)) ≠ k.standing then
    [.stockStanding t (formStanding k.settings (clampBook (k.book - n)))]
  else []

theorem setTank_setTank (s : State) (t : TankId) (x y : Tank) : (s.setTank t x).setTank t y = s.setTank t y := by
  cases t <;> rfl

/-- R107, R134: a debit changes the tanks' books and standings, and logs the change of standing. -/
theorem debit_eq (s : State) (t : TankId) (n : Nat) : ∃ tanks : PerTank Tank,
    s.debit t n = { s with tanks := tanks, journal := s.journalAfter (standingEvents t (s.tank t) n) } ∧
      ∀ k, (tanks.get k).settings = (s.tank k).settings := by
  have written : ∀ x : Tank, x.settings = (s.tank t).settings →
      ∀ k, ((s.tanks.set t x).get k).settings = (s.tank k).settings := by
    intro x hx k
    by_cases hk : k = t
    · subst hk
      simpa using hx
    · simp [hk, State.tank]
  let book := clampBook ((s.tank t).book - n)
  by_cases hn : n = 0
  · exact ⟨s.tanks, by simp [State.debit, standingEvents, hn, State.journalAfter], fun _ => rfl⟩
  by_cases hs : formStanding (s.tank t).settings book = (s.tank t).standing
  · refine ⟨s.tanks.set t { s.tank t with book := book }, ?_, written _ rfl⟩
    simp [State.debit, standingEvents, hn, State.reformStanding, State.addToBook, ← Int.sub_eq_add_neg, book, hs]
    rfl
  · refine ⟨s.tanks.set t { s.tank t with book := book, standing := formStanding (s.tank t).settings book },
      ?_, written _ rfl⟩
    simp [State.debit, standingEvents, hn, State.reformStanding, State.addToBook, ← Int.sub_eq_add_neg, book, hs]
    rw [setTank_setTank]
    rfl

/-- R101, R102, R107: the state once a tally at bay b is taken and metered, before it is handed to the Sequencer; `tanks` are
the tanks after the debit. -/
def metered (s : State) (b : BayId) (tl : Tally) (tanks : PerTank Tank) : State :=
  let k := s.tank (s.bay b).settings.tank
  let m := meter (s.bay b) k tl
  { s.popYard with
    bays := s.bays.set b ((s.bay b).addTally m tl.pulses), tanks := tanks
    journal := s.journalAfter (standingEvents (s.bay b).settings.tank k m.net) }

@[simp] theorem metered_bay (s : State) (b : BayId) (tl : Tally) (tanks : PerTank Tank) :
    (metered s b tl tanks).bay b =
      (s.bay b).addTally (meter (s.bay b) (s.tank (s.bay b).settings.tank) tl) tl.pulses := by
  simp [metered, State.bay]

theorem metered_bay_other (s : State) {b k : BayId} (tl : Tally) (tanks : PerTank Tank) (h : k ≠ b) :
    (metered s b tl tanks).bay k = s.bay k := by
  simp [metered, State.bay, h]

/-- Metering leaves the issue ring. -/
theorem metered_issues (s : State) (b : BayId) (tl : Tally) (tanks : PerTank Tank) :
    (metered s b tl tanks).journal.issues = s.journal.issues ∧
      (metered s b tl tanks).journal.reservations = s.journal.reservations := by
  obtain ⟨issues, -, reservations⟩ := s.journalAfter_issues
    (standingEvents (s.bay b).settings.tank (s.tank (s.bay b).settings.tank)
      (meter (s.bay b) (s.tank (s.bay b).settings.tank) tl).net)
  exact ⟨issues, reservations⟩

/-- R101, R108: a tally is taken, metered and handed to the Sequencer. -/
theorem tally_taken {s : State} {b : BayId} {tl : Tally} (h : TallyAt s b tl) :
    ∃ tanks : PerTank Tank, (∀ k, (tanks.get k).settings = (s.tank k).settings) ∧
      exec .tally s = .next ((metered s b tl tanks).handTally b tl
        (meter (s.bay b) (s.tank (s.bay b).settings.tank) tl).sample (s.bay b).state).settled := by
  obtain ⟨f, hf, hclass, hparse⟩ := h
  let m := meter (s.bay b) (s.tank (s.bay b).settings.tank) tl
  obtain ⟨tanks, hdebit, hsettings⟩ :=
    debit_eq (s.popYard.setBay b ((s.bay b).addTally m tl.pulses)) (s.bay b).settings.tank m.net
  have htaken : s.popYard.takeTally b tl = (metered s b tl tanks).handTally b tl m.sample (s.bay b).state :=
    congrArg (State.handTally · b tl m.sample (s.bay b).state) hdebit
  refine ⟨tanks, hsettings, ?_⟩
  simp [exec, execTally, hf, hclass, event_eq, hparse, htaken, m]

/-- R102: what an issue tally leaves of the bay. -/
theorem addTally_keeps (m : Metered) (pulses : Nat) (y : Bay) :
    (y.addTally m pulses).cause = y.cause ∧ (y.addTally m pulses).shutSeen = y.shutSeen ∧
      (y.addTally m pulses).slot = y.slot ∧ (y.addTally m pulses).armTimer = y.armTimer ∧
      (y.addTally m pulses).closeTimer = y.closeTimer ∧
      (y.addTally m pulses).flags.overspeed = y.flags.overspeed ∧ (y.addTally m pulses).flags.meter = y.flags.meter := by
  unfold Bay.addTally
  split <;> and_intros <;> rfl

/-- R79, R80: what a tally in GRANTED comes to once metered. -/
theorem handTally_granted (s : State) (b : BayId) (tl : Tally) (sample : Option Nat) :
    s.handTally b tl sample .granted =
      if tl.status = .faulty then (s.setBay b (s.bay b).setMeter).complete b .meterFault
      else if tl.nozzle = .lifted then s.setBay b (s.bay b).toFlowing
      else s := rfl

/-- Settles O30: FAULT completes a GRANTED issue, LIFTED opens the valve, STOWED stays (R79, R80). -/
theorem tallyInGrantedStartsOrEndsTheIssue : Obligations.TallyInGrantedStartsOrEndsTheIssue := by
  intro s b tl htally hs m y k standing before
  obtain ⟨tanks, hsettings, htaken⟩ := tally_taken htally
  let u := metered s b tl tanks
  have hu : u.bay b = y := metered_bay s b tl tanks
  obtain ⟨hissues, -⟩ := metered_issues s b tl tanks
  obtain ⟨-, -, hslot, harm, -, hover, -⟩ := addTally_keeps m tl.pulses (s.bay b)
  obtain ⟨hset, -, hstate⟩ := addTally_frame m tl.pulses (s.bay b)
  rw [hs, handTally_granted, metered_bay] at htaken
  cases hstatus : tl.status with
  | ok =>
    rw [if_neg (by simp [hstatus])] at htaken
    cases hnozzle : tl.nozzle with
    | lifted =>
      rw [if_pos hnozzle] at htaken
      have hb : (u.setBay b y.toFlowing).bay b = y.toFlowing := u.bay_setBay_same b _
      refine ⟨u.setBay b y.toFlowing, htaken, nofun, fun _ => rfl, nofun, fun _ _ => ?_, nofun⟩
      rw [hb]
      exact ⟨rfl, rfl, rfl, by rw [← hset]; rfl, by rw [← hset]; rfl, rfl, rfl, hissues⟩
    | stowed =>
      rw [if_neg (by simp [hnozzle])] at htaken
      refine ⟨u, htaken, nofun, fun _ => rfl, nofun, nofun, fun _ _ => ?_⟩
      rw [hu]
      exact ⟨hstate.trans hs, harm, hslot, hissues⟩
  | faulty =>
    rw [if_pos hstatus] at htaken
    let z : Bay := { y with flags := { y.flags with meter := true } }
    let v := u.setBay b z
    have hv : v.bay b = z := u.bay_setBay_same b z
    have hcompleted : IssueCompleted before s (v.complete b .meterFault) b z .meterFault :=
      complete_completed_from (by decide) hv rfl
        (fun k hk => (u.bay_setBay_other b k z hk).trans (metered_bay_other s tl tanks hk)) hsettings
    have hfault : (endFlags z).fault = some (if (s.bay b).flags.overspeed then .overspeed else .meterFault) := by
      rw [← hover]
      exact fault_of_meter rfl
    have hflags : ((v.complete b .meterFault).bay b).flags = endFlags z := complete_flags (by decide) hv
    obtain ⟨hfaulted, hshut, hcause, hnewest⟩ := complete_faulted (c := .meterFault) (by decide) (by rw [hflags, hfault])
    obtain ⟨r, hr, hrcause, hrbay, -⟩ := complete_record v b .meterFault
    refine ⟨v.complete b .meterFault, htaken, fun _ => hcompleted, nofun, fun _ => ?_, nofun, nofun⟩
    exact ⟨hfaulted, by rw [hflags]; rfl, hcause, hshut, hnewest, r, by rw [hr, ← hissues]; rfl, hrcause, hrbay⟩

/-- No pulses convert to no volume, whatever the rate. -/
theorem convRound_zero (d : Nat) : convRound 0 d = 0 := by
  unfold convRound
  simp

/-- R81, R106: the sample of a tally is above a bay's max flow. -/
theorem overspeed_iff (x y : Bay) (k : Tank) (tl : Tally) :
    overspeed y (meter x k tl).sample = true ↔ tl.interval ≠ 0 ∧
      y.settings.maxFlow < (convRound (tl.pulses * x.settings.meterFactor : Nat) tl.interval).toNat := by
  by_cases h : tl.interval = 0 <;> simp [overspeed, meter, flowSample, grossIncrement, h]

/-- R84, R96: the flags a tally in CLOSING sets. -/
theorem closingTally_eq (tl : Tally) (sample : Option Nat) (y : Bay) :
    y.closingTally tl sample = { y with flags := { y.flags with
      meter := y.flags.meter || tl.status == .faulty
      overspeed := y.flags.overspeed || (tl.status == .ok && y.justClosed && overspeed y sample) } } := by
  unfold Bay.closingTally
  cases htl : tl.status
  · by_cases h : (y.justClosed && overspeed y sample) = true
    · simp [h, Bay.setOverspeed]
    · have hne : (Health.ok == Health.faulty) = false := rfl
      simp [h, hne]
  · simp [Bay.setMeter]

/-- R84: what a tally in CLOSING comes to once metered. -/
theorem handTally_closing (s : State) (b : BayId) (tl : Tally) (sample : Option Nat) :
    s.handTally b tl sample .closing =
      if tl.pulses = 0 ∧ ((s.bay b).closingTally tl sample).shutSeen then
        (s.setBay b ((s.bay b).closingTally tl sample)).complete b ((s.bay b).closingTally tl sample).recordedCause
      else s.setBay b ((s.bay b).closingTally tl sample) := rfl

/-- Without pulses a tally meters nothing and its sample is above no max flow. -/
theorem meter_still (y : Bay) (k : Tank) {tl : Tally} (h : tl.pulses = 0) :
    (meter y k tl).net = 0 ∧ ∀ z, overspeed z (meter y k tl).sample = false := by
  refine ⟨by simp [meter, grossIncrement, netIncrement, compensate, h, convRound], fun z => ?_⟩
  rw [← Bool.not_eq_true, overspeed_iff]
  simp [h, convRound_zero]

/-- R85 to R87, R99: what a completion leaves of the bay, whatever the cause. -/
theorem complete_keeps (s : State) (b : BayId) (c : CloseCause) :
    ((s.complete b c).bay b).state.active = false ∧ ((s.complete b c).bay b).net = (s.bay b).net ∧
      ((s.complete b c).bay b).gross = (s.bay b).gross ∧
      ((s.complete b c).bay b).flags.meter = (s.bay b).flags.meter ∧
      ((s.complete b c).bay b).flags.overspeed = (s.bay b).flags.overspeed := by
  rw [State.complete_bay_same, movedOn_flags]
  refine ⟨(movedOn_frame c (s.bay b)).1, ?_, ?_, rfl, rfl⟩ <;>
  · unfold Bay.movedOn Bay.toDraining
    repeat' split
    all_goals rfl

/-- Settles O32: a tally in CLOSING completes the issue once the valve was seen shut and no pulses come (R84, R96). -/
theorem tallyInClosingCompletesAfterShut : Obligations.TallyInClosingCompletesAfterShut := by
  intro s b tl c htally hs hcause m y fast
  obtain ⟨tanks, hsettings, htaken⟩ := tally_taken htally
  let u := metered s b tl tanks
  have hu : u.bay b = y := metered_bay s b tl tanks
  obtain ⟨hissues, hreservations⟩ := metered_issues s b tl tanks
  obtain ⟨hycause, hshut, hslot, -, htimer, hover, hmeter⟩ := addTally_keeps m tl.pulses (s.bay b)
  obtain ⟨hset, -, hstate⟩ := addTally_frame m tl.pulses (s.bay b)
  let z := y.closingTally tl m.sample
  have hz := closingTally_eq tl m.sample y
  let v := u.setBay b z
  have hv : v.bay b = z := u.bay_setBay_same b z
  have hzmeter : z.flags.meter = ((s.bay b).flags.meter || tl.status == .faulty) := by
    rw [← hmeter]
    exact congrArg (fun x : Bay => x.flags.meter) hz
  have hzflag : z.flags.overspeed = (y.flags.overspeed || (tl.status == .ok && y.justClosed && overspeed y m.sample)) :=
    congrArg (fun x : Bay => x.flags.overspeed) hz
  have hzover : z.flags.overspeed = true ↔ (s.bay b).flags.overspeed = true ∨
      (tl.status = .ok ∧ (s.bay b).closeTimer = some ((s.bay b).settings.closeTime * 1000) ∧ fast) := by
    have hfast : overspeed y m.sample = true ↔ fast := overspeed_iff (s.bay b) y _ tl
    rw [hzflag, Bool.or_eq_true, Bool.and_eq_true, Bool.and_eq_true, hfast, Bay.justClosed, beq_iff_eq, beq_iff_eq, htimer,
      hset, hover, and_assoc]
    rfl
  have hzstate : z.state = .closing := (congrArg Bay.state hz).trans (hstate.trans hs)
  have hzcause : z.recordedCause = c := by
    rw [Bay.recordedCause, show z.cause = some c from (congrArg Bay.cause hz).trans (hycause.trans hcause)]
    rfl
  have hzshut : z.shutSeen = (s.bay b).shutSeen := (congrArg Bay.shutSeen hz).trans hshut
  rw [hs, handTally_closing, metered_bay, show (y.closingTally tl m.sample).shutSeen = _ from hzshut] at htaken
  by_cases hdone : tl.pulses = 0 ∧ (s.bay b).shutSeen = true
  · obtain ⟨hpulses, hseen⟩ := hdone
    rw [if_pos ⟨hpulses, hseen⟩, show (y.closingTally tl m.sample).recordedCause = _ from hzcause] at htaken
    obtain ⟨hnet, hslow⟩ := meter_still (s.bay b) (s.tank (s.bay b).settings.tank) hpulses
    have hzstill : z = { y with flags := { y.flags with meter := (s.bay b).flags.meter || tl.status == .faulty } } := by
      rw [show z = _ from hz, hslow, ← hmeter]
      simp [y, m]
    have hcompleted : c ≠ .interrupted → IssueCompleted [] s (v.complete b c) b z c := by
      intro hc
      have hquiet : standingEvents (s.bay b).settings.tank (s.tank (s.bay b).settings.tank) m.net = [] := by
        simp [standingEvents, m, hnet]
      rw [← hquiet]
      exact complete_completed_from hc hv rfl
        (fun k hk => (u.bay_setBay_other b k z hk).trans (metered_bay_other s tl tanks hk)) hsettings
    obtain ⟨hinactive, hnets, hgrosses, hmeters, hovers⟩ := complete_keeps v b c
    obtain ⟨r, hr, hrcause, hrbay, hrnet, hrgross, -, -, -, hrover, -⟩ := complete_record v b c
    have hmoves : ¬(0 < tl.pulses ∨ (s.bay b).shutSeen = false) := by simp [hpulses, hseen]
    refine ⟨v.complete b c, htaken, ?_, ?_, fun hc _ _ => hzstill ▸ hcompleted hc,
      fun h => absurd h hmoves, fun _ _ => ?_,
      fun h => absurd h hmoves⟩
    · rw [hmeters, hv, hzmeter]
    · rw [hovers, hv, hzover]
    · refine ⟨hinactive, ?_, ⟨r, ?_, hrcause, hrbay, ?_, ?_, ?_⟩, fun hc hf => ?_, fun q hc hq => ?_⟩
      · rw [(v.complete_issues b c).1]
        exact congrArg (· - 1) hreservations
      · rw [hr]
        exact congrArg (·.records ++ [r]) hissues
      · rw [hrnet, hnets]
      · rw [hrgross, hgrosses]
      · rw [hrover, hv, hzstill]
        exact hover
      · obtain ⟨hsound, hidle, hdrain⟩ := complete_sound hc hv hf
        refine ⟨hsound.trans ((congrArg Bay.slot hz).trans hslot), ?_⟩
        rw [show z.settings = _ from (congrArg Bay.settings hz).trans hset] at hidle hdrain
        exact ⟨fun h => hidle (.inr h), hdrain (by simp [hzstate])⟩
      · obtain ⟨hfaulted, hordered, -, hnewest⟩ := complete_faulted hc hq
        exact ⟨hfaulted, hordered, hnewest⟩
  · rw [if_neg hdone] at htaken
    refine ⟨v, htaken, ?_, ?_, fun _ hp hq => absurd ⟨hp, hq⟩ hdone,
      fun _ => ⟨rfl, ?_⟩, fun hp hq => absurd ⟨hp, hq⟩ hdone,
      fun _ => ?_⟩
    · rw [hv, hzmeter]
    · rw [hv, hzover]
    · rw [hv, hzflag, ← hmeter]
      exact hz
    · rw [hv]
      exact ⟨hzstate, (congrArg Bay.cause hz).trans (hycause.trans hcause), hissues⟩

/-! ## Payloads -/

/-- Bytes that the widths do not fill exactly have no fields. -/
theorem fieldsOf_wrongLength {ws : List Nat} {bs : List Byte} (h : bs.length ≠ ws.sum) : fieldsOf ws bs = none := by
  induction ws generalizing bs with
  | nil =>
    cases bs with
    | nil => exact absurd rfl h
    | cons => rfl
  | cons w ws ih =>
    unfold fieldsOf
    split
    · rfl
    · rw [ih (by simp only [List.length_drop, List.sum_cons] at *; omega)]
      rfl

/-- R170: bytes that spell one member after another are read as a list of members. -/
theorem membersOf_flatMap {α : Type} {ws : List Nat} {bytes : α → List Byte} {fields : α → List Nat}
    (length : ∀ a, (bytes a).length = ws.sum) (read : ∀ a, fieldsOf ws (bytes a) = some (fields a)) (l : List α) :
    membersOf ws l.length (l.flatMap bytes) = some (l.map fields) := by
  induction l with
  | nil => rfl
  | cons a l ih => simp [membersOf, ← length a, read, ih]

/-- Bytes that the members do not fill exactly have no reading. -/
theorem membersOf_wrongLength {ws : List Nat} {n : Nat} {bs : List Byte} (h : bs.length ≠ n * ws.sum) :
    membersOf ws n bs = none := by
  induction n generalizing bs with
  | zero =>
    cases bs with
    | nil => simp at h
    | cons => rfl
  | succ n ih =>
    unfold membersOf
    by_cases hshort : bs.length < ws.sum
    · rw [fieldsOf_wrongLength (by simp; omega)]
    · rw [ih (by simp only [List.length_drop, Nat.succ_mul] at *; omega)]
      split <;> simp_all

/-- A byte is the one it is written as. -/
theorem byte_eq_iff {n : Nat} (b : Byte) (h : n < 256) : b = BitVec.ofNat 8 n ↔ b.toNat = n := by
  rw [← BitVec.toNat_inj, BitVec.toNat_ofNat, Nat.mod_eq_of_lt h]

/-- The bytes that name a code. -/
theorem byte_codes (b : Byte) : (b = 0 ↔ b.toNat = 0) ∧ (b = 1 ↔ b.toNat = 1) ∧ (b = 2 ↔ b.toNat = 2) :=
  ⟨byte_eq_iff b (by decide), byte_eq_iff b (by decide), byte_eq_iff b (by decide)⟩

theorem beNat_two (c1 c0 : Byte) : beNat [c1, c0] = c1.toNat * 256 + c0.toNat := by simp [beNat]

/-- Two bytes spell a word. -/
theorem append_toNat (c1 c0 : Byte) : (c1 ++ c0 : BitVec 16).toNat = c1.toNat * 256 + c0.toNat := by
  rw [BitVec.toNat_append, Nat.shiftLeft_eq, Nat.mul_comm, ← Nat.two_pow_add_eq_or_of_lt c0.isLt]

/-- R100, R170: a temperature of two bytes, 8000 hex for none. -/
theorem tempField_eq (c1 c0 : Byte) :
    tempField (beNat [c1, c0]) = if c1 = 0x80 ∧ c0 = 0 then none else some (c1 ++ c0 : BitVec 16).toInt := by
  have h1 : c1 = 0x80 ↔ c1.toNat = 128 := byte_eq_iff c1 (by decide)
  have h0 : c0 = 0 ↔ c0.toNat = 0 := byte_eq_iff c0 (by decide)
  have lt0 := c0.isLt
  have habsent : (c1 = 0x80 ∧ c0 = 0) ↔ c1.toNat * 256 + c0.toNat = 32768 := by
    rw [h1, h0]
    omega
  rw [beNat_two]
  unfold tempField
  simp only [habsent]
  split
  · rfl
  · rw [BitVec.toInt_eq_toNat_cond, append_toNat]
    unfold signed16
    congr 1
    split <;> split <;> omega

/-- R100: the codes of nozzle and meter status. -/
theorem tallyCodes_eq (n m : Nat) : tallyCodes n m =
    (if n = 1 ∧ (m = 0 ∨ m = 1) then .lifted else .stowed, if m = 0 ∧ (n = 0 ∨ n = 1) then .ok else .faulty) := by
  rcases n with _ | _ | n <;> rcases m with _ | _ | m <;> simp [tallyCodes]

/-- R100: a TALLY payload. -/
theorem parseTally_eq (p1 p0 t1 t0 c1 c0 nz st : Byte) : parseTally [p1, p0, t1, t0, c1, c0, nz, st] =
    (if 4095 < beNat [p1, p0] then none
     else some
      { pulses := beNat [p1, p0], interval := beNat [t1, t0]
        temp := if c1 = 0x80 ∧ c0 = 0 then none else some (c1 ++ c0 : BitVec 16).toInt
        nozzle := if nz = 1 ∧ (st = 0 ∨ st = 1) then .lifted else .stowed
        status := if st = 0 ∧ (nz = 0 ∨ nz = 1) then .ok else .faulty }) := by
  have hf : fieldsOf [2, 2, 2, 1, 1] [p1, p0, t1, t0, c1, c0, nz, st] =
      some [beNat [p1, p0], beNat [t1, t0], beNat [c1, c0], beNat [nz], beNat [st]] := rfl
  simp only [parseTally, hf, tempField_eq, tallyCodes_eq, beNat_one, byte_codes]

/-- R110: a VALVE STATUS payload. -/
theorem parseValveStatus_eq (p h : Byte) : parseValveStatus [p, h] =
    some { position := if p = 0 then .shut else if p = 1 then .slow else if p = 2 then .full else .moving
           health := if h = 0 then .ok else .faulty } := by
  have hf : fieldsOf [1, 1] [p, h] = some [beNat [p], beNat [h]] := rfl
  have position : ∀ n, positionOf n =
      if n = 0 then .shut else if n = 1 then .slow else if n = 2 then .full else .moving := by
    rintro (_ | _ | _ | n) <;> simp [positionOf]
  have health : ∀ n, healthOf n = if n = 0 then .ok else .faulty := by
    rintro (_ | n) <;> simp [healthOf]
  simp only [parseValveStatus, hf, beNat_one, byte_codes, position, health]

/-- R43: a TAG payload with an hours reading. -/
theorem parseTag_hoursField (a b c d e f g h : Byte) : parseTag [a, b, c, d, e, f, g, h] =
    some { tag := beNat [a, b, c, d]
           hours := if 9999999 < beNat [e, f, g, h] then none else some (beNat [e, f, g, h]) } := by
  have hf : fieldsOf [4, 4] [a, b, c, d, e, f, g, h] = some [beNat [a, b, c, d], beNat [e, f, g, h]] := rfl
  have hshort : fieldsOf [4] [a, b, c, d, e, f, g, h] = none := rfl
  simp only [parseTag, hf, hshort, hoursField, Config.hoursMax]

/-- R125: a STRAP SET payload, its point list of any length. -/
theorem parseStrapSet_eq (tk i fin n : Byte) (ps : List (Byte × Byte × Byte × Byte × Byte × Byte))
    (h : n.toNat = ps.length) :
    parseStrapSet ([tk, i, fin, n] ++ ps.flatMap (fun p => [p.1, p.2.1, p.2.2.1, p.2.2.2.1, p.2.2.2.2.1, p.2.2.2.2.2])) =
      some { tank := tk.toNat, first := i.toNat, final := fin.toNat
             points := ps.map (fun p =>
               { level := beNat [p.1, p.2.1], litres := beNat [p.2.2.1, p.2.2.2.1, p.2.2.2.2.1, p.2.2.2.2.2] }) } := by
  have hf : fieldsOf [1, 1, 1, 1] [tk, i, fin, n] = some [beNat [tk], beNat [i], beNat [fin], beNat [n]] := rfl
  have hpoints := membersOf_flatMap (ws := [2, 4])
    (bytes := fun p : Byte × Byte × Byte × Byte × Byte × Byte =>
      [p.1, p.2.1, p.2.2.1, p.2.2.2.1, p.2.2.2.2.1, p.2.2.2.2.2])
    (fields := fun p => [beNat [p.1, p.2.1], beNat [p.2.2.1, p.2.2.2.1, p.2.2.2.2.1, p.2.2.2.2.2]])
    (fun _ => rfl) (fun _ => rfl) ps
  rw [← h] at hpoints
  simp [parseStrapSet, hf, beNat_one, hpoints, List.filterMap_map, Function.comp_def, strapPoint]

/-- R27: a FLEET PUT payload, its counter list of any length; a list that its count does not fill has no reading. -/
theorem parseFleetPut_eq (t3 t2 t1 t0 u1 u0 cls prio st c1 c0 perm a1 a0 keep n : Byte) (rest : List Byte) :
    parseFleetPut ([t3, t2, t1, t0, u1, u0, cls, prio, st, c1, c0, perm, a1, a0, keep, n] ++ rest) =
      (membersOf [1, 1, 4, 4] n.toNat rest).map fun ms =>
        { tag := beNat [t3, t2, t1, t0], unit := beNat [u1, u0], cls := cls.toNat, priority := prio.toNat
          status := st.toNat, fillCeiling := beNat [c1, c0], permitted := perm.toNat, allowance := beNat [a1, a0]
          keep := keep.toNat, counters := ms.filterMap counterReq } := by
  have hf : fieldsOf [4, 2, 1, 1, 1, 2, 1, 2, 1, 1] [t3, t2, t1, t0, u1, u0, cls, prio, st, c1, c0, perm, a1, a0, keep, n] =
      some [beNat [t3, t2, t1, t0], beNat [u1, u0], beNat [cls], beNat [prio], beNat [st], beNat [c1, c0], beNat [perm],
        beNat [a1, a0], beNat [keep], beNat [n]] := rfl
  simp [parseFleetPut, hf, beNat_one]
  cases membersOf [1, 1, 4, 4] n.toNat rest <;> rfl

/-- Settles O28: the payloads are read field by field, the lists member by member (R43, R58, R100, R110, R170, R173). -/
theorem payloadsAreReadAsLaidOut : Obligations.PayloadsAreReadAsLaidOut := by
  refine ⟨parseTally_eq, fun bs h => ?_, parseValveStatus_eq, fun bs h => ?_, fun _ _ _ _ => rfl, parseTag_hoursField,
    fun bs h4 h8 => ?_, fun a1 a0 b1 b0 c1 c0 ys yd ts td => ?_, ?_, ?_, parseStrapSet_eq, ?_, fun bs h => ?_⟩
  · simp [parseTally, fieldsOf_wrongLength (ws := [2, 2, 2, 1, 1]) h]
  · simp [parseValveStatus, fieldsOf_wrongLength (ws := [1, 1]) h]
  · simp [parseTag, fieldsOf_wrongLength (ws := [4]) h4, fieldsOf_wrongLength (ws := [4, 4]) h8]
  · have hf : fieldsOf [2, 2, 2, 1, 1, 1, 1] [a1, a0, b1, b0, c1, c0, ys, yd, ts, td] =
        some [beNat [a1, a0], beNat [b1, b0], beNat [c1, c0], beNat [ys], beNat [yd], beNat [ts], beNat [td]] := rfl
    simp only [parsePodSet, hf, beNat_one]
  · intro bay en tk f3 f2 f1 f0 m1 m0 s1 s0 c1 c0 a1 a0 n1 n0 g1 g0 k1 k0 d1 d0 r1 r0
    have hf : fieldsOf [1, 1, 1, 4, 2, 2, 2, 2, 2, 2, 2, 2, 2]
        [bay, en, tk, f3, f2, f1, f0, m1, m0, s1, s0, c1, c0, a1, a0, n1, n0, g1, g0, k1, k0, d1, d0, r1, r0] =
        some [beNat [bay], beNat [en], beNat [tk], beNat [f3, f2, f1, f0], beNat [m1, m0], beNat [s1, s0], beNat [c1, c0],
          beNat [a1, a0], beNat [n1, n0], beNat [g1, g0], beNat [k1, k0], beNat [d1, d0], beNat [r1, r0]] := rfl
    simp only [parseBaySet, hf, beNat_one]
  · intro tk c3 c2 c1 c0 e1 e0 r3 r2 r1 r0 v3 v2 v1 v0 rp pc t1 t0 he w1 w0 p1 p0 s1 s0
    have hf : fieldsOf [1, 4, 2, 4, 4, 1, 1, 2, 1, 2, 2, 2]
        [tk, c3, c2, c1, c0, e1, e0, r3, r2, r1, r0, v3, v2, v1, v0, rp, pc, t1, t0, he, w1, w0, p1, p0, s1, s0] =
        some [beNat [tk], beNat [c3, c2, c1, c0], beNat [e1, e0], beNat [r3, r2, r1, r0], beNat [v3, v2, v1, v0], beNat [rp],
          beNat [pc], beNat [t1, t0], beNat [he], beNat [w1, w0], beNat [p1, p0], beNat [s1, s0]] := rfl
    simp only [parseTankSet, hf, beNat_one]
  · intro t3 t2 t1 t0 u1 u0 cls prio st c1 c0 perm a1 a0 keep n cs rest head quad
    refine ⟨fun h => ?_, fun h => ?_⟩
    · have hcounters := membersOf_flatMap (ws := [1, 1, 4, 4])
        (bytes := fun c : (Byte × Byte) × (Byte × Byte × Byte × Byte) × (Byte × Byte × Byte × Byte) =>
          [c.1.1, c.1.2] ++ quad c.2.1 ++ quad c.2.2)
        (fields := fun c => [beNat [c.1.1], beNat [c.1.2], beNat (quad c.2.1), beNat (quad c.2.2)])
        (fun _ => rfl) (fun _ => rfl) cs
      rw [parseFleetPut_eq, h, hcounters]
      simp [List.filterMap_map, Function.comp_def, counterReq, beNat_one]
    · rw [parseFleetPut_eq, membersOf_wrongLength (by simpa [Nat.mul_comm] using h)]
      rfl
  · have hshort : fieldsOf [4, 2, 1, 1, 1, 2, 1, 2, 1, 1] (bs.take 16) = none :=
      fieldsOf_wrongLength (by simp; omega)
    simp [parseFleetPut, hshort]

/-! ## Frames passed on and dropped -/

theorem bayOf_eq_some_iff (n : Nat) (b : BayId) : bayOf n = some b ↔ n = bayNumber b := by
  rcases n with _ | _ | _ | _ | _ | n <;> cases b <;> simp [bayOf, bayNumber]

theorem bayOf_isSome_iff (n : Nat) : (bayOf n).isSome = true ↔ 1 ≤ n ∧ n ≤ 4 := by
  rcases n with _ | _ | _ | _ | _ | n <;> simp [bayOf]

theorem bayNumber_range (b : BayId) : 1 ≤ bayNumber b ∧ bayNumber b ≤ 4 := by
  cases b <;> decide

/-- 00, Station numbers: the bay of a station above a base number. -/
theorem stationBay_iff {base : Nat} (h : base < 252) (x : Byte) (b : BayId) :
    bayOf (x.toNat - base) = some b ↔ x = BitVec.ofNat 8 (base + bayNumber b) := by
  have := bayNumber_range b
  rw [bayOf_eq_some_iff, byte_eq_iff x (by omega)]
  omega

theorem readerBay_iff (x : Byte) (b : BayId) : readerBay x = some b ↔ x = BitVec.ofNat 8 (239 + bayNumber b) :=
  stationBay_iff (by decide) x b

theorem meterBay_iff (x : Byte) (b : BayId) : meterBay x = some b ↔ x = BitVec.ofNat 8 (243 + bayNumber b) :=
  stationBay_iff (by decide) x b

theorem valveBay_iff (x : Byte) (b : BayId) : valveBay x = some b ↔ x = BitVec.ofNat 8 (247 + bayNumber b) :=
  stationBay_iff (by decide) x b

/-- 00, Station numbers: the yard stations are the readers, the meter heads and the valve units. -/
theorem yardStation_iff (x : Byte) : 240 ≤ x.toNat ∧ x.toNat ≤ 251 ↔
    ∃ b, x = BitVec.ofNat 8 (239 + bayNumber b) ∨ x = BitVec.ofNat 8 (243 + bayNumber b) ∨
      x = BitVec.ofNat 8 (247 + bayNumber b) := by
  simp only [← readerBay_iff, ← meterBay_iff, ← valveBay_iff, exists_or, ← Option.isSome_iff_exists]
  simp only [readerBay, meterBay, valveBay, bayOf_isSome_iff]
  omega

/-- R166: the bay whose activity keeps frames from a station. -/
theorem guardBay_iff (x : Byte) (b : BayId) : (meterBay x).or (valveBay x) = some b ↔
    x = BitVec.ofNat 8 (243 + bayNumber b) ∨ x = BitVec.ofNat 8 (247 + bayNumber b) := by
  rw [Option.or_eq_some_iff, valveBay_iff, meterBay_iff]
  refine or_congr_right (and_iff_right_of_imp fun h => ?_)
  have := bayNumber_range b
  rw [byte_eq_iff x (by omega)] at h
  rw [← Option.not_isSome_iff_eq_none, meterBay, bayOf_isSome_iff]
  omega

/-- R165: what a yard station may send. -/
theorem maySend_iff (f : Frame) : maySend f = true ↔
    (∃ b, (f.src = BitVec.ofNat 8 (239 + bayNumber b) ∨ f.src = BitVec.ofNat 8 (243 + bayNumber b) ∨
      f.src = BitVec.ofNat 8 (247 + bayNumber b)) ∧ f.kind = 0x13) ∨
    (∃ b, f.src = BitVec.ofNat 8 (239 + bayNumber b) ∧ f.kind = 0x10) ∨
    (∃ b, f.src = BitVec.ofNat 8 (243 + bayNumber b) ∧ f.kind = 0x11) ∨
    (∃ b, f.src = BitVec.ofNat 8 (247 + bayNumber b) ∧ f.kind = 0x12) := by
  simp only [exists_and_right, ← yardStation_iff]
  simp only [← readerBay_iff, ← meterBay_iff, ← valveBay_iff, ← Option.isSome_iff_exists]
  simp only [maySend, Bool.or_eq_true, Bool.and_eq_true, beq_iff_eq, decide_eq_true_eq, or_assoc]
  exact or_congr and_comm (or_congr and_comm (or_congr and_comm and_comm))

/-- R166: a yard frame passed on. -/
theorem forwardToTrunk_eq (s : State) (f : Frame) : s.forwardToTrunk f =
    if s.trunk.tx.length < 6 then s.pushTrunkTx f.forwarded
    else { s with forwardDrops := min (s.forwardDrops + 1) 65535 } := rfl

/-- R166: a trunk frame passed on. -/
theorem forwardToYard_eq (s : State) (f : Frame) : s.forwardToYard f =
    if s.yard.tx.length < 8 then s.pushYardTx f.forwarded
    else { s with forwardDrops := min (s.forwardDrops + 1) 65535 } := rfl

/-- R163, R178: a TAG of wrong length does nothing but wake a pod in WATCH, with RUN mode at once. -/
theorem takeTag_wrongLength {s : State} {b : BayId} {payload : List Byte} (h : parseTag payload = none) :
    s.takeTag b payload = if s.pod = .watch then (s.changePod .inService).runAtOnce else s := by
  unfold State.takeTag
  simp only [h, beq_iff_eq]
  split <;> rfl

/-- Settles O24: frames are classified by the tables, and passed on, refused or dropped (R163 to R167). -/
theorem framesArePassedOnRefusedOrDropped : Obligations.FramesArePassedOnRefusedOrDropped := by
  refine ⟨fun n f h1 h239 => ⟨fun hd => ?_, fun hd => ?_, fun h240 h251 => ?_, fun hn hb hr => ?_⟩,
    fun n f h1 h239 => ?_,
    fun s f hf => ⟨fun hc => ?_, fun hc hd => ?_, fun hc hd => ?_, fun hc => ?_, fun b hc hp => ?_, fun b hc hp => ?_,
      fun b hc hp => ?_⟩,
    fun s f hf => ⟨fun hc => ?_, fun hc => ⟨fun h => ?_, fun h => ?_⟩⟩⟩
  · simp [classifyTrunk, hd, isRequestKind, and_assoc]
  · have hn : f.dst ≠ n := by
      rintro rfl
      exact absurd h239 (by rw [hd]; decide)
    rw [classifyTrunk, if_neg hn, if_pos hd]
    simp
  · have hn : f.dst ≠ n := by
      rintro rfl
      omega
    have hb : f.dst ≠ 255 := fun h => absurd h251 (by rw [h]; decide)
    rw [classifyTrunk, if_neg hn, if_neg hb, if_pos ⟨h240, h251⟩]
  · rw [classifyTrunk, if_neg hn, if_neg hb, if_neg (by omega)]
  · intro reader head unit mayCome
    have hmay : maySend f = true ↔ mayCome := maySend_iff f
    refine ⟨fun h => ?_, fun h => ?_, fun h hdst => ?_⟩
    · rw [← hmay, Bool.not_eq_true] at h
      simp [classifyYard, h]
    · simp [classifyYard, h]
    · have hguard : ¬(!maySend f || decide (252 ≤ f.dst.toNat)) = true := by
        simp [hmay.2 h]
        omega
      refine ⟨fun hk => ?_, fun hk hn => ?_, fun b hn hk hb => ?_, fun b hn hk hb => ?_, fun b hn hk hb => ?_⟩
      · rw [classifyYard, if_neg hguard, if_pos hk]
      · rw [classifyYard, if_neg hguard, if_neg hk, if_neg hn]
      · rw [classifyYard, if_neg hguard, if_neg (by rw [hk]; decide), if_pos hn, if_pos hk, (readerBay_iff f.src b).2 hb]
      · rw [classifyYard, if_neg hguard, if_neg (by rw [hk]; decide), if_pos hn, if_neg (by rw [hk]; decide), if_pos hk,
          (meterBay_iff f.src b).2 hb]
      · rw [classifyYard, if_neg hguard, if_neg (by rw [hk]; decide), if_pos hn, if_neg (by rw [hk]; decide),
          if_neg (by rw [hk]; decide), (valveBay_iff f.src b).2 hb]
  · simp [exec, execPassThrough, hf, hc, event_eq, forwardToTrunk_eq]
  · simp [exec, execStationData, hf, hc, event_eq, forwardToTrunk_eq, hd]
  · simp [exec, execStationData, hf, hc, event_eq, hd]
  · simp [exec, execFrameDrop, hf, hc, event_eq]
  · simp [exec, execTally, hf, hc, event_eq, hp]
  · simp [exec, execValveStatus, hf, hc, event_eq, hp]
  · simp [exec, execTag, hf, hc, event_eq, takeTag_wrongLength hp]
  · simp [exec, execFrameDrop, hf, hc, event_eq]
  · obtain ⟨b, hb, hactive⟩ := h
    have hguard := (guardBay_iff f.dst b).2 hb
    have hrefused : s.popTrunk.passFromTrunk f = s.popTrunk.pushTrunkTx (s.popTrunk.forwardRefused f) := by
      have hbusy : (s.popTrunk.bay b).state.active = true := hactive
      unfold State.passFromTrunk
      rw [hguard]
      exact if_pos hbusy
    simp [exec, execPassThrough, hf, hc, event_eq, hrefused, State.forwardRefused]
  · have hpassed : s.popTrunk.passFromTrunk f = s.popTrunk.forwardToYard f := by
      unfold State.passFromTrunk
      split
      · rename_i b hguard
        have hidle : (s.bay b).state.active = false := h b ((guardBay_iff f.dst b).1 hguard)
        exact if_neg (Bool.not_eq_true _ ▸ hidle)
      · rfl
    simp [exec, execPassThrough, hf, hc, event_eq, hpassed, forwardToYard_eq]

/-! ## Tags -/

/-- R163: a notice, as one change of the yard port: it joins the queue, or when the queue is full a waking one sets RUN mode
at once. -/
theorem notice_eq (s : State) (b : BayId) (kind : Byte) (body : Body) (wake : Bool) : ∃ rate : Rate,
    s.notice b kind body wake = { s with
      yard := { s.yard with
        tx := if s.yard.tx.length < 8 then s.yard.tx ++
            [{ frame := { dst := readerStation b, src := s.station, kind := kind, body := body }, wake := wake }]
          else s.yard.tx
        rate := rate }
      yardMode := if wake = true ∧ 8 ≤ s.yard.tx.length then .run else s.yardMode
      yardTarget := if wake = true ∧ 8 ≤ s.yard.tx.length then .run else s.yardTarget } := by
  by_cases hroom : s.yard.tx.length < 8
  · have hfull : ¬8 ≤ s.yard.tx.length := by omega
    refine ⟨s.yard.rate, ?_⟩
    simp [State.notice, State.pushYardTx, Config.yardTxCap, hroom, hfull]
  · have hfull : 8 ≤ s.yard.tx.length := by omega
    cases wake with
    | false => exact ⟨s.yard.rate, by simp [State.notice, Config.yardTxCap, hroom]⟩
    | true =>
      refine ⟨if s.yard.betweenFrames then s.podSettings.yardRate else s.yard.rate, ?_⟩
      simp [State.notice, Config.yardTxCap, hroom, hfull, State.runAtOnce, State.tryYardRate, State.applyYardRate]
      split <;> rfl

/-- The state in which a TAG at the head of the yard receive queue is decided: the frame taken, a pod in WATCH woken
(R163, R178). -/
def woken (s : State) : State := if s.pod = .watch then s.popYard.changePod .inService else s.popYard

/-- R174: the event of the wake by a TAG. -/
def wakeEvents (s : State) : List EventKind := if s.pod = .watch then [.podState .watch .inService] else []

theorem woken_eq (s : State) : woken s = { s with
    pod := if s.pod = .watch then .inService else s.pod, journal := s.journalAfter (wakeEvents s)
    yard := { s.yard with rx := s.yard.rx.tail } } := by
  unfold woken wakeEvents
  by_cases h : s.pod = .watch
  · rw [if_pos h, if_pos h, if_pos h, State.changePod, show s.popYard.pod = .watch from h]
    rfl
  · rw [if_neg h, if_neg h, if_neg h]
    rfl

/-- R59: a TAG from bay b's reader stands at the head of the yard receive queue, and the vehicle's record passes checks 1
to 6. -/
structure PassesEarly (s : State) (b : BayId) (r : TagRead) (v : Vehicle) : Prop where
  arrived : TagAt s b r
  pod : s.pod = .inService ∨ s.pod = .watch
  idle : (s.bay b).state = .idle
  found : findTag r.tag s.fleet = some v
  active : v.status = .active
  free : v.armedAt = none
  permitted : ∀ p, v.permitted = some p → p.get b = true

/-- R47: the record of a vehicle after the hours of a frame, and the events of the hours. -/
def hoursOf (s : State) (v : Vehicle) (r : TagRead) : Vehicle × List EventKind :=
  v.applyHours s.classes[v.cls].hourCeiling r.hours

/-- R47: the state in which checks 7 to 10 are made. -/
def afterHours (s : State) (v : Vehicle) (r : TagRead) : State :=
  { woken s with
    fleet := setVehicle (hoursOf s v r).1 s.fleet, journal := (woken s).journalAfter (hoursOf s v r).2 }

theorem hoursStep_woken (s : State) (v : Vehicle) (r : TagRead) :
    (woken s).hoursStep v r.hours = (afterHours s v r, (hoursOf s v r).1) := by
  have hc : (woken s).classOf v = s.classes[v.cls] := by
    rw [woken_eq]
    rfl
  have hfleet : (woken s).fleet = s.fleet := by rw [woken_eq]
  simp only [State.hoursStep, hc, hfleet, State.logAll_eq]
  rfl

/-- R59: a TAG is decided in the state after the wake. -/
theorem tag_taken {s : State} {b : BayId} {r : TagRead} (h : TagAt s b r) :
    exec .tag s = .next ((woken s).decideTag b r (s.pod == .watch)).settled := by
  obtain ⟨f, hf, hclass, hparse⟩ := h
  have htake : s.popYard.takeTag b f.payload = (woken s).decideTag b r (s.pod == .watch) := by
    simp only [State.takeTag, hparse, woken, beq_iff_eq]
    rfl
  simp [exec, execTag, hf, hclass, event_eq, htake]

/-- R59: checks 1 to 6 let the vehicle through. -/
theorem PassesEarly.checks {s : State} {b : BayId} {r : TagRead} {v : Vehicle} (h : PassesEarly s b r v) :
    earlyChecks b r.tag (woken s) = .allow v := by
  have hpod : (woken s).pod = .inService := by
    rw [woken_eq]
    obtain hp | hp := h.pod <;> simp [hp]
  have hbay : ((woken s).bay b).state = .idle := by
    rw [woken_eq]
    exact h.idle
  have hfound : findTag r.tag (woken s).fleet = some v := by
    rw [woken_eq]
    exact h.found
  have hmay : v.mayUse b = true := by
    unfold Vehicle.mayUse
    split
    · rfl
    · exact h.permitted _ ‹_›
  simp [earlyChecks, recordChecks, hpod, hbay, hfound, h.active, h.free, hmay]

/-- R59, R68: a late check that fails refuses the frame. -/
theorem PassesEarly.refused {s : State} {b : BayId} {r : TagRead} {v : Vehicle} {c : RefusalCode} (h : PassesEarly s b r v)
    (hc : lateChecks b (hoursOf s v r).1 (afterHours s v r) = some c) :
    exec .tag s = .next ((afterHours s v r).refuseTag b r.tag c (s.pod == .watch)).settled := by
  rw [tag_taken h.arrived]
  simp only [State.decideTag, h.checks, hoursStep_woken, hc]

/-- R59, R66: a frame that passes every check is granted. -/
theorem PassesEarly.granted {s : State} {b : BayId} {r : TagRead} {v : Vehicle} (h : PassesEarly s b r v)
    (hc : lateChecks b (hoursOf s v r).1 (afterHours s v r) = none) :
    exec .tag s = .next ((afterHours s v r).grantAt b (hoursOf s v r).1 r.hours (s.pod == .watch)).settled := by
  rw [tag_taken h.arrived]
  simp only [State.decideTag, h.checks, hoursStep_woken, hc]

/-- R47: the events of the hours follow that of the wake. -/
theorem afterHours_journal (s : State) (v : Vehicle) (r : TagRead) :
    (afterHours s v r).journal = s.journalAfter (wakeEvents s ++ (hoursOf s v r).2) := by
  rw [State.journalAfter_append, afterHours, woken_eq]
  rfl

/-- R47: the hours step leaves bays, tanks, classes and the issue ring. -/
theorem afterHours_frame (s : State) (v : Vehicle) (r : TagRead) :
    (∀ b, (afterHours s v r).bay b = s.bay b) ∧ (∀ k, (afterHours s v r).tank k = s.tank k) ∧
      (∀ w, (afterHours s v r).classOf w = s.classOf w) ∧ (afterHours s v r).stamp = s.stamp ∧
      (afterHours s v r).yard = { s.yard with rx := s.yard.rx.tail } ∧ (afterHours s v r).station = s.station ∧
      (afterHours s v r).yardMode = s.yardMode ∧ (afterHours s v r).yardTarget = s.yardTarget := by
  rw [afterHours, woken_eq]
  exact ⟨fun _ => rfl, fun _ => rfl, fun _ => rfl, rfl, rfl, rfl, rfl, rfl⟩

/-- R47: the hours step leaves the issue ring. -/
theorem afterHours_issues (s : State) (v : Vehicle) (r : TagRead) :
    (afterHours s v r).journal.issues = s.journal.issues ∧
      (afterHours s v r).journal.issueSpan = s.journal.issueSpan ∧
      (afterHours s v r).journal.reservations = s.journal.reservations := by
  rw [afterHours_journal]
  exact s.journalAfter_issues _

/-! ## The late checks -/

section
variable {b : BayId} {v : Vehicle} {s : State}

theorem lateChecks_locked (h : v.standing = .locked) : lateChecks b v s = some .serviceLock := by
  simp [lateChecks, h]

theorem lateChecks_tank {c : RefusalCode} (h : v.standing ≠ .locked)
    (ht : tankCheck (s.tank (s.bay b).settings.tank) v.priority = some c) : lateChecks b v s = some c := by
  simp [lateChecks, h, ht]

theorem lateChecks_full (h : v.standing ≠ .locked)
    (ht : tankCheck (s.tank (s.bay b).settings.tank) v.priority = none)
    (hr : s.journal.issueSpan ≤ s.journal.issues.records.length + s.journal.reservations) :
    lateChecks b v s = some .journalFull := by
  simp [lateChecks, h, ht, Journal.hasRoom, hr]

/-- R62 to R64: with room in the journal the grant limit decides. -/
theorem lateChecks_limit (h : v.standing ≠ .locked)
    (ht : tankCheck (s.tank (s.bay b).settings.tank) v.priority = none)
    (hr : s.journal.issues.records.length + s.journal.reservations < s.journal.issueSpan) :
    lateChecks b v s =
      if (grantLimit v (s.classOf v) (s.tank (s.bay b).settings.tank)).2 < 5 then
        some (.limitTooLow (grantLimit v (s.classOf v) (s.tank (s.bay b).settings.tank)).1)
      else none := by
  simp [lateChecks, h, ht, Journal.hasRoom, hr, Config.minGrant]

end

/-- R63: the least candidate stands in the list, greater ones before it and none less behind it. -/
theorem leastCandidate_split (first : LimitReason × Nat) (rest : List (LimitReason × Nat)) :
    ∃ before behind, first :: rest = before ++ leastCandidate first rest :: behind ∧
      (∀ d ∈ before, (leastCandidate first rest).2 < d.2) ∧
      ∀ d ∈ behind, (leastCandidate first rest).2 ≤ d.2 := by
  induction rest using List.reverseRecOn with
  | nil => exact ⟨[], [], rfl, by simp, by simp⟩
  | append_singleton rest c ih =>
    obtain ⟨before, behind, hsplit, hbefore, hbehind⟩ := ih
    have hstep : leastCandidate first (rest ++ [c]) =
        if c.2 < (leastCandidate first rest).2 then c else leastCandidate first rest := by
      rw [leastCandidate, List.foldl_append]
      rfl
    rw [hstep, ← List.cons_append]
    split
    · rename_i hless
      have hleast : ∀ d ∈ first :: rest, (leastCandidate first rest).2 ≤ d.2 := by
        rw [hsplit]
        intro d hd
        obtain hd | rfl | hd := List.mem_append.1 hd |>.imp_right List.mem_cons.1
        · exact (hbefore d hd).le
        · exact le_rfl
        · exact hbehind d hd
      exact ⟨first :: rest, [], rfl, fun d hd => hless.trans_le (hleast d hd), by simp⟩
    · rename_i hle
      refine ⟨before, behind ++ [c], by simp [hsplit], hbefore, fun d hd => ?_⟩
      obtain hd | hd := List.mem_append.1 hd
      · exact hbehind d hd
      · rw [List.mem_singleton.1 hd]
        exact Nat.le_of_not_lt hle

/-- R63: the first candidate that no other is less than is the least candidate. -/
theorem leastCandidate_find (first : LimitReason × Nat) (rest : List (LimitReason × Nat)) :
    (first :: rest).find? (fun c => (first :: rest).all (fun d => decide (c.2 ≤ d.2))) =
      some (leastCandidate first rest) := by
  obtain ⟨before, behind, hsplit, hbefore, hbehind⟩ := leastCandidate_split first rest
  rw [List.find?_eq_some_iff_append]
  refine ⟨?_, before, behind, hsplit, fun d hd => ?_⟩
  · rw [hsplit]
    simp only [List.all_append, List.all_cons, Bool.and_eq_true, List.all_eq_true, decide_eq_true_eq]
    exact ⟨fun d hd => (hbefore d hd).le, le_rfl, hbehind⟩
  · simp only [Bool.not_eq_true', List.all_eq_false, decide_eq_true_eq]
    exact ⟨leastCandidate first rest, by simp [hsplit], Nat.not_le.2 (hbefore d hd)⟩

/-- R66: a grant, in full: the bay takes it, the journal a reservation, the record its arming, and the notice is sent. -/
theorem grantAt_eq (s : State) (b : BayId) (w : Vehicle) (hours : Option Nat) (wake : Bool) : ∃ rate : Rate,
    s.grantAt b w hours wake = { s with
      bays := s.bays.set b ((s.bay b).takeGrant (grantCopy b w hours s))
      journal := s.journal.reserve
      fleet := setVehicle { w with armedAt := some b } s.fleet
      yard := { s.yard with
        tx := if s.yard.tx.length < 8 then s.yard.tx ++
            [{ frame := { dst := readerStation b, src := s.station, kind := kindGrantNotice
                          body := (grantCopy b w hours s).noticeBody }, wake := wake }]
          else s.yard.tx
        rate := rate }
      yardMode := if wake = true ∧ 8 ≤ s.yard.tx.length then .run else s.yardMode
      yardTarget := if wake = true ∧ 8 ≤ s.yard.tx.length then .run else s.yardTarget } :=
  notice_eq ..

/-- R68, R69: a refusal leaves the fleet, and logs at most its own event. -/
theorem refuseTag_events (s : State) (b : BayId) (tag : Nat) (c : RefusalCode) (wake : Bool) :
    (s.refuseTag b tag c wake).fleet = s.fleet ∧
      ((s.refuseTag b tag c wake).journal = s.journal ∨
        (s.refuseTag b tag c wake).journal = s.journalAfter [.refusal b tag c]) := by
  unfold State.refuseTag
  dsimp only
  split
  · exact ⟨by simp, .inl (by simp)⟩
  · refine ⟨by simp, .inr ?_⟩
    simp [State.log, State.stamp, State.journalAfter]

/-- R47: the hours step changes a record's counters, limp used and last hours alone. -/
theorem hoursOf_shape (s : State) (v : Vehicle) (r : TagRead) :
    (hoursOf s v r).1 = { v with
      counters := (hoursOf s v r).1.counters, limpUsed := (hoursOf s v r).1.limpUsed
      lastHours := (hoursOf s v r).1.lastHours } := by
  obtain ⟨cs, l, h, hshape⟩ := v.applyHours_shape s.classes[v.cls].hourCeiling r.hours
  rw [hoursOf, hshape]

/-- R59, check 8: the tests of the tank, each when the ones before it pass. -/
theorem tankCheck_receiving {k : Tank} (p : Fin 4) (h : k.delivery ≠ none) : tankCheck k p = some .tankReceiving := by
  simp [tankCheck, Tank.receiving, Option.isSome_iff_ne_none, h]

theorem tankCheck_hold {k : Tank} (p : Fin 4) (hd : k.delivery = none) (h : k.varianceHold = true ∨ k.waterHold = true) :
    tankCheck k p = some .tankHold := by
  simp [tankCheck, Tank.receiving, hd, h]

/-- R64: the tests of the standing. -/
theorem tankCheck_standing {k : Tank} (p : Fin 4) (hd : k.delivery = none) (hv : k.varianceHold = false)
    (hw : k.waterHold = false) :
    tankCheck k p =
      if k.standing = .empty then some .tankEmpty
      else if k.standing = .reserve ∧ p < k.settings.reservePriority then some .reserveOnly
      else none := by
  simp [tankCheck, Tank.receiving, hd, hv, hw]

/-- R63: the candidates, with what the hours leave read off the record as it was. -/
theorem candidates_hoursOf (s : State) (v : Vehicle) (r : TagRead) (k : Tank) :
    let w := (hoursOf s v r).1
    ceilingCandidate w k :: (allowanceCandidate w ++ limpCandidate w (s.classOf w) ++ [(.stock, bookLitres k.book)]) =
      ceilingCandidate v k :: (allowanceCandidate v ++
        (if w.standing = .overdue then [(.limp, s.classes[v.cls].limpAllotment)] else []) ++
        [(.stock, bookLitres k.book)]) := by
  intro w
  have hshape : w = _ := hoursOf_shape s v r
  have hpriority : w.priority = v.priority := by rw [hshape]
  have hceiling : w.fillCeiling = v.fillCeiling := by rw [hshape]
  have hallowance : w.allowance = v.allowance := by rw [hshape]
  have hclass : s.classOf w = s.classes[v.cls] := by
    rw [hshape]
    rfl
  simp only [ceilingCandidate, allowanceCandidate, limpCandidate, hpriority, hceiling, hallowance, hclass]

/-- R66: the grant copy taken after the hours: only the limit, the limp mark and the notice depend on the hours. -/
theorem grantCopy_afterHours (s : State) (b : BayId) (v : Vehicle) (r : TagRead) :
    let w := (hoursOf s v r).1
    let limit := grantLimit w (s.classOf w) (s.tank (s.bay b).settings.tank)
    grantCopy b w r.hours (afterHours s v r) =
      { tag := v.tag, unit := v.unit, limit := limit.2, reason := limit.1
        limp := decide (w.standing = .overdue), notice := w.standing.notice, hours := r.hours
        tank := (s.bay b).settings.tank, start := { time := s.clock, unset := !s.clockSet } } := by
  intro w limit
  obtain ⟨hbay, htank, hclass, hstamp, -⟩ := afterHours_frame s v r
  have htag : w.tag = v.tag := by rw [show w = _ from hoursOf_shape s v r]
  have hunit : w.unit = v.unit := by rw [show w = _ from hoursOf_shape s v r]
  simp only [grantCopy, htag, hunit, hclass, hbay, htank, hstamp]
  rfl

/-- Settles O37: checks 7 to 10 refuse in order, else the grant takes the least candidate (R59 to R67). -/
theorem tagLateChecksRefuseInOrderElseGrant : Obligations.TagLateChecksRefuseInOrderElseGrant := by
  intro s b r v harrived hpod hidle hfound hactive hfree hpermitted u k
  have early : PassesEarly s b r v := ⟨harrived, hpod, hidle, hfound, hactive, hfree, hpermitted⟩
  have hshape := hoursOf_shape s v r
  obtain ⟨hbay, htank, hclass, -, hyard, hstation, hmode, htarget⟩ := afterHours_frame s v r
  obtain ⟨hissues, hspan, hreservations⟩ := afterHours_issues s v r
  refine ⟨(hoursOf s v r).1, (hoursOf s v r).2, hshape, fun hr => ?_, ?_⟩
  · simp [hoursOf, Vehicle.applyHours, hr]
  intro h refusedWith
  have hk : (afterHours s v r).tank ((afterHours s v r).bay b).settings.tank = k := by rw [hbay, htank]
  have hpriority : (hoursOf s v r).1.priority = v.priority := by rw [hshape]
  refine ⟨fun hl => early.refused (lateChecks_locked hl),
    fun hl hd => early.refused (lateChecks_tank hl (hk ▸ tankCheck_receiving _ hd)),
    fun hl hd hh => early.refused (lateChecks_tank hl (hk ▸ tankCheck_hold _ hd hh)),
    fun hl hd hv hw => ?_⟩
  have hstanding := tankCheck_standing (k := k) (hoursOf s v r).1.priority hd hv hw
  rw [hpriority] at hstanding
  refine ⟨fun he => early.refused (lateChecks_tank hl ?_), fun hr hp => early.refused (lateChecks_tank hl ?_),
    fun he hr => ?_⟩
  · rw [hk, hpriority, hstanding, if_pos he]
  · rw [hk, hpriority, hstanding, if_neg (by rw [hr]; decide), if_pos ⟨hr, hp⟩]
  have hpasses : tankCheck ((afterHours s v r).tank ((afterHours s v r).bay b).settings.tank) (hoursOf s v r).1.priority =
      none := by
    rw [hk, hpriority, hstanding, if_neg he, if_neg fun h => absurd h.2 (Fin.not_lt.2 (hr h.1))]
  refine ⟨fun hfull => early.refused (lateChecks_full hl hpasses (by rw [hissues, hspan, hreservations]; exact hfull)),
    fun hroom => ?_⟩
  intro candidates
  have hlimit := lateChecks_limit hl hpasses (by rw [hissues, hspan, hreservations]; exact hroom)
  rw [hk, hclass] at hlimit
  have hcandidates : candidates = ceilingCandidate v k :: (allowanceCandidate v ++
      (if (hoursOf s v r).1.standing = .overdue then [(.limp, s.classes[v.cls].limpAllotment)] else []) ++
      [(.stock, bookLitres k.book)]) := by
    simp only [candidates, ceilingCandidate, allowanceCandidate, bookLitres]
    cases v.allowance <;> rfl
  refine ⟨_, _, ?_, fun hlow => early.refused (hlimit.trans (if_pos hlow)), fun henough => ?_⟩
  · rw [hcandidates, ← candidates_hoursOf]
    exact leastCandidate_find _ _
  intro notice
  have hnotice : (hoursOf s v r).1.standing.notice = notice := by
    simp only [notice]
    cases (hoursOf s v r).1.standing <;> rfl
  have hgranted := early.granted (hlimit.trans (if_neg (Nat.not_lt.2 henough)))
  obtain ⟨rate, hgrant⟩ := grantAt_eq (afterHours s v r) b (hoursOf s v r).1 r.hours (s.pod == .watch)
  have htx : (afterHours s v r).yard.tx = s.yard.tx := by rw [hyard]
  simp only [grantCopy_afterHours, hnotice, hbay, htx, hmode, htarget, hstation, beq_iff_eq] at hgrant
  refine ⟨_, hgranted, ?_⟩
  rw [hgrant]
  refine ⟨?_, fun c hc => ?_, ?_, ?_, rfl, ?_⟩
  · show ((afterHours s v r).bays.set b _).get b = _
    rw [PerBay.get_set_same]
    rfl
  · show ((afterHours s v r).bays.set b _).get c = _
    rw [PerBay.get_set_other _ _ _ _ hc]
    exact hbay c
  · show (afterHours s v r).journal.reserve = _
    rw [Journal.reserve, hreservations]
    rfl
  · exact setVehicle_setVehicle (u := (hoursOf s v r).1) (v := { (hoursOf s v r).1 with armedAt := some b }) rfl s.fleet
  · intro missed
    rw [show h.station = s.station from hstation]
    rfl

/-! ## Hours and standings -/

/-- R44 to R46: the hours a reading applies. -/
def hoursApplied (ceiling h : Nat) (v : Vehicle) : Nat :=
  match v.lastHours with
  | none => 0
  | some old => if h < old then 0 else min (h - old) ceiling

/-- R45, R46: the event of a reading that is lower than the last, or that the ceiling cuts. -/
def hoursNote (ceiling h : Nat) (v : Vehicle) : List EventKind :=
  match v.lastHours with
  | none => []
  | some old =>
    if h < old then [.hoursRebased v.tag old h] else if ceiling < h - old then [.hoursJump v.tag ceiling] else []

/-- R40: a counter above the floor is not changed by a decrease of 0. -/
theorem lowered_zero (basis : Basis) {c : Counter} (h : -99999999 ≤ c.remaining) : c.lowered basis 0 = c := by
  have : max c.remaining (-99999999) = c.remaining := max_eq_left h
  simp [Counter.lowered, this]

/-- R40, R42: a decrease of 0 lowers nothing, raises no standing and begins no overdue episode. -/
theorem rises_zero (basis : Basis) {v : Vehicle} (h : ∀ c ∈ v.counters, -99999999 ≤ c.remaining) :
    v.counters.map (Counter.lowered basis 0) = v.counters ∧ v.rises basis 0 = [] ∧ ¬v.episodeBegins basis 0 := by
  refine ⟨?_, ?_, ?_⟩
  · exact (List.map_congr_left fun c hc => lowered_zero basis (h c hc)).trans (List.map_id' _)
  · refine List.flatMap_eq_nil_iff.2 fun c hc => ?_
    rw [lowered_zero basis (h c hc)]
    simp
  · rintro ⟨hnone, c, hc, ho⟩
    rw [lowered_zero basis (h c hc)] at ho
    exact hnone c hc ho

/-- R44 to R47: a record after a frame's hours. -/
theorem applyHours_spec (ceiling h : Nat) {v : Vehicle} (hv : v.lawful) : ∃ limp : Bool,
    v.applyHours ceiling (some h) =
      ({ v with
          counters := v.counters.map (Counter.lowered .hours (hoursApplied ceiling h v)), limpUsed := limp
          lastHours := some h },
        hoursNote ceiling h v ++ v.rises .hours (hoursApplied ceiling h v)) ∧
    (v.episodeBegins .hours (hoursApplied ceiling h v) → limp = false) ∧
    (¬v.episodeBegins .hours (hoursApplied ceiling h v) → limp = v.limpUsed) := by
  have floor : ∀ c ∈ v.counters, -99999999 ≤ c.remaining := by
    obtain ⟨-, -, -, -, -, hcounters, -⟩ := hv
    intro c hc
    obtain ⟨-, -, -, -, hfloor, -⟩ := hcounters c hc
    exact hfloor
  obtain ⟨hsame, hsilent, hno⟩ := rises_zero .hours floor
  unfold Vehicle.applyHours hoursApplied hoursNote
  cases hl : v.lastHours with
  | none => exact ⟨v.limpUsed, by simp [hsame, hsilent], fun he => absurd he hno, fun _ => rfl⟩
  | some old =>
    by_cases hlower : h < old
    · simp only [hlower, if_true]
      exact ⟨v.limpUsed, by simp [hsame, hsilent], fun he => absurd he hno, fun _ => rfl⟩
    · obtain ⟨limp, hrecord, hevents, hbegins, hkeeps⟩ :=
        ({ v with lastHours := some h } : Vehicle).decrement_spec .hours (min (h - old) ceiling) floor
      simp only [hlower, if_false]
      refine ⟨limp, ?_, hbegins, hkeeps⟩
      rw [hrecord, hevents]
      by_cases hjump : ceiling < h - old
      · rw [if_pos hjump, if_pos hjump, min_eq_right hjump.le]
        rfl
      · rw [if_neg hjump, if_neg hjump]
        rfl

/-- R39: the standing of a counter, by its remaining and its grace. -/
theorem counterStanding_table (c : Counter) :
    (0 < c.remaining → c.standing = .clear) ∧
    (c.remaining ≤ 0 → -(c.grace : Int) < c.remaining → c.standing = .due) ∧
    (c.remaining ≤ -(c.grace : Int) → c.standing = .overdue) := by
  unfold Counter.standing
  refine ⟨fun h => if_pos h, fun h0 hg => ?_, fun h => ?_⟩
  · rw [if_neg (by omega), if_pos hg]
  · rw [if_neg (by omega), if_neg (by omega)]

/-- R41: the standing of a vehicle, by its counters and its limp used. -/
theorem vehicleStanding_table (v : Vehicle) :
    ((∀ c ∈ v.counters, c.standing = .clear) → v.standing = .clear) ∧
    ((∃ c ∈ v.counters, c.standing = .due) → (∀ c ∈ v.counters, c.standing ≠ .overdue) → v.standing = .due) ∧
    ((∃ c ∈ v.counters, c.standing = .overdue) → v.standing = if v.limpUsed then .locked else .overdue) := by
  have hdue : v.counters.any Counter.isDue = true ↔ ∃ c ∈ v.counters, c.standing = .due := by simp [Counter.isDue]
  unfold Vehicle.standing
  simp only [anyOverdue_iff, hdue]
  refine ⟨fun h => ?_, fun hd h => ?_, fun h => if_pos h⟩
  · rw [if_neg, if_neg] <;> rintro ⟨c, hc, hs⟩ <;> simp [h c hc] at hs
  · rw [if_neg, if_pos hd]
    rintro ⟨c, hc, hs⟩
    exact h c hc hs

/-- Events logged after the hours follow theirs. -/
theorem afterHours_journalAfter (s : State) (v : Vehicle) (r : TagRead) (ks : List EventKind) :
    (afterHours s v r).journalAfter ks = s.journalAfter (wakeEvents s ++ (hoursOf s v r).2 ++ ks) := by
  obtain ⟨-, -, -, hstamp, -⟩ := afterHours_frame s v r
  rw [State.journalAfter_append, ← afterHours_journal, ← hstamp]
  rfl

/-- R60: a TAG of the vehicle that a GRANTED bay serves has its notice queued again, and no more. -/
theorem tag_repeated {s : State} {b : BayId} {r : TagRead} {g : GrantCopy} (h : TagAt s b r) (hpod : s.pod = .inService)
    (hs : (s.bay b).state = .granted) (hg : (s.bay b).grant = some g) (htag : g.tag = r.tag) :
    exec .tag s = .next (s.popYard.notice b kindGrantNotice g.noticeBody false).settled := by
  have hwake : woken s = s.popYard := if_neg (by simp [hpod])
  have hwatch : (s.pod == .watch) = false := by
    rw [hpod]
    rfl
  have hchecks : earlyChecks b r.tag s.popYard = .repeatGrant := by
    simp [earlyChecks, hpod, popYard_bay, hs, Bay.holdsTag, hg, htag]
  rw [tag_taken h, hwake, hwatch]
  simp [State.decideTag, hchecks, State.repeatGrant, popYard_bay, Bay.serving, hg]

/-- R59, R68: a frame that passes checks 1 to 6 has its hours written, whether it is refused or granted; a refusal logs at
most its own event after those of the hours. -/
theorem PassesEarly.decided {s : State} {b : BayId} {r : TagRead} {v : Vehicle} (h : PassesEarly s b r v) :
    ∃ (t : State) (w : Vehicle) (ref : List EventKind), exec .tag s = .next t ∧ t.fleet = setVehicle w s.fleet ∧
      (w = (hoursOf s v r).1 ∨ w = { (hoursOf s v r).1 with armedAt := some b }) ∧
      t.journal.events = (s.journalAfter (wakeEvents s ++ (hoursOf s v r).2 ++ ref)).events ∧
      ref.length ≤ 1 ∧ ∀ k ∈ ref, ∃ c, k = .refusal b r.tag c := by
  cases hlate : lateChecks b (hoursOf s v r).1 (afterHours s v r) with
  | some c =>
    obtain ⟨hfleet, hjournal⟩ := refuseTag_events (afterHours s v r) b r.tag c (s.pod == .watch)
    have hwritten : ((afterHours s v r).refuseTag b r.tag c (s.pod == .watch)).settled.fleet =
        setVehicle (hoursOf s v r).1 s.fleet := by
      simp only [State.settled_frame, hfleet]
      rfl
    obtain hjournal | hjournal := hjournal
    · refine ⟨_, _, [], h.refused hlate, hwritten, .inl rfl, ?_, by simp, by simp⟩
      simp [hjournal, afterHours_journal]
    · refine ⟨_, _, [.refusal b r.tag c], h.refused hlate, hwritten, .inl rfl, ?_, by simp, by simp⟩
      simp only [State.settled_frame, hjournal, afterHours_journalAfter]
  | none =>
    obtain ⟨rate, hgrant⟩ := grantAt_eq (afterHours s v r) b (hoursOf s v r).1 r.hours (s.pod == .watch)
    refine ⟨_, { (hoursOf s v r).1 with armedAt := some b }, [], h.granted hlate, ?_, .inr rfl, ?_, by simp, by simp⟩
    · simp only [State.settled_frame, hgrant]
      exact setVehicle_setVehicle (u := (hoursOf s v r).1) (v := { (hoursOf s v r).1 with armedAt := some b }) rfl s.fleet
    · simp only [State.settled_frame, hgrant, List.append_nil, ← afterHours_journal]
      rfl

/-- Settles O38: the hours of a frame are applied once checks 1 to 6 pass; a repeated grant applies none; and the tables of
standing (R39 to R47, R60). -/
theorem hoursAreAppliedOnceADecisionReachesService : Obligations.HoursAreAppliedOnceADecisionReachesService := by
  refine ⟨fun s b v h harrived hrecords hpod hidle hfound hactive hfree hpermitted => ?_,
    fun s b r g harrived hpod hs hg htag => ?_, counterStanding_table, vehicleStanding_table⟩
  · intro ceiling applied note
    have early : PassesEarly s b { tag := v.tag, hours := some h } v :=
      ⟨harrived, hpod, hidle, hfound, hactive, hfree, hpermitted⟩
    obtain ⟨t, w, ref, hexec, hfleet, hw, hevents, hlength, hrefusal⟩ := early.decided
    obtain ⟨limp, hours, hbegins, hkeeps⟩ := applyHours_spec ceiling h (hrecords v (findTag_some hfound).1)
    have happlied : applied = hoursApplied ceiling h v := rfl
    have hnote : note = hoursNote ceiling h v := rfl
    rw [← happlied] at hours hbegins hkeeps
    have hours : hoursOf s v { tag := v.tag, hours := some h } = _ := hours
    rw [hours] at hw hevents
    have hfields : w.tag = v.tag ∧ w.lastHours = some h ∧
        w.counters = v.counters.map (Counter.lowered .hours applied) ∧
        w.limpUsed = limp ∧ w.allowance = v.allowance ∧ w.lastIssue = v.lastIssue := by
      obtain rfl | rfl := hw <;> exact ⟨rfl, rfl, rfl, rfl, rfl, rfl⟩
    obtain ⟨htag, hlast, hcounters, hlimp, hallowance, hissue⟩ := hfields
    refine ⟨t, w, ref, hexec, ?_, hlast, hcounters, fun he => hlimp.trans (hbegins he), fun he => hlimp.trans (hkeeps he),
      ?_, hlength, hrefusal, hallowance, hissue, fun u hu hne => ?_⟩
    · rw [hfleet, ← htag]
      exact findTag_setVehicle hfound htag
    · rw [hevents, hnote, ← List.append_assoc]
      rfl
    · rw [hfleet]
      exact mem_setVehicle_other hu (htag ▸ hne)
  · rw [tag_repeated harrived hpod hs hg htag]
    rfl
end Sys2Proof.ServiceIntervals
end

section
/-! PROOFS of the family of chapter 04. What a notice, a refusal and a grant change; the early checks, read before the
wake; then what a decision to grant says of the vehicle, the tank and the limit. -/

namespace Sys2Proof.Authorising

open Sys2Proof Sys2Proof.Machine Sys2Proof.FleetRegister Sys2Proof.ServiceIntervals

/-! ## Notices and refusals -/

/-- R163: only a waking notice that finds no room can change the yard port's rate. -/
theorem notice_keeps_rate {s : State} {wake : Bool} (b : BayId) (kind : Byte) (body : Body)
    (h : s.yard.tx.length < 8 ∨ wake = false) : (s.notice b kind body wake).yard.rate = s.yard.rate := by
  unfold State.notice
  split
  · rfl
  · rename_i hfull
    obtain hroom | rfl := h
    · exact absurd hroom hfull
    · rfl

/-- R69: a refusal is coalesced when the newest event is the same refusal, younger than 60 s. -/
theorem coalesced_iff (b : BayId) (tag : Nat) (c : RefusalCode) (s : State) : coalesced b tag c s = true ↔
    ∃ e, s.journal.events.records.getLast? = some e ∧ e.kind = .refusal b tag c ∧ e.time.time ≤ s.clock ∧
      s.clock - e.time.time < 60 := by
  unfold coalesced
  split
  · rename_i hnone
    simp [hnone]
  · rename_i e hnewest
    simp [hnewest, Config.coalesceSeconds, and_assoc]

/-- R68, R69: a refusal is its notice, and its event in the journal unless it is coalesced. -/
theorem refuseTag_eq (s : State) (b : BayId) (tag : Nat) (c : RefusalCode) (wake : Bool) :
    s.refuseTag b tag c wake = { s.notice b kindRefusalNotice (.refusalNotice tag c) wake with
      journal := if coalesced b tag c s then s.journal else s.journal.logEvent s.stamp (.refusal b tag c) } := by
  have hsame : coalesced b tag c (s.notice b kindRefusalNotice (.refusalNotice tag c) wake) = coalesced b tag c s := by
    simp [coalesced]
  have hjournal : (s.notice b kindRefusalNotice (.refusalNotice tag c) wake).journal = s.journal := by simp
  simp only [State.refuseTag, hsame]
  split
  · rw [← hjournal]
  · simp [State.log, State.setJournal, State.stamp]

/-- R68: a refusal leaves the bays. -/
theorem refuseTag_bays (s : State) (b : BayId) (tag : Nat) (c : RefusalCode) (wake : Bool) :
    (s.refuseTag b tag c wake).bays = s.bays := by
  simp [refuseTag_eq]

/-- R68, R69, R163: the whole effect of a refusal on the yard port and the journal. -/
theorem refuseTag_effect (u : State) (b : BayId) (tag : Nat) (c : RefusalCode) (wake : Bool) :
    let t := u.refuseTag b tag c wake
    (u.yard.tx.length < 8 → t.yard = { u.yard with tx := u.yard.tx ++
        [{ frame := { dst := BitVec.ofNat 8 (239 + bayNumber b), src := u.station, kind := 0x1A,
                      body := .refusalNotice tag c }, wake := wake }] } ∧
      t.yardMode = u.yardMode ∧ t.yardTarget = u.yardTarget) ∧
    (8 ≤ u.yard.tx.length → t.yard.tx = u.yard.tx ∧
      (wake = false → t.yard = u.yard ∧ t.yardMode = u.yardMode ∧ t.yardTarget = u.yardTarget) ∧
      (wake = true → t.yardTarget = .run ∧ t.yardMode = .run ∧ t.yard = { u.yard with rate := t.yard.rate })) ∧
    t = { u with yard := t.yard, yardMode := t.yardMode, yardTarget := t.yardTarget, journal := t.journal } := by
  intro t
  obtain ⟨rate, hnotice⟩ := notice_eq u b kindRefusalNotice (.refusalNotice tag c) wake
  have hrate : u.yard.tx.length < 8 ∨ wake = false → rate = u.yard.rate := fun h => by
    simpa only [hnotice] using notice_keeps_rate b kindRefusalNotice (.refusalNotice tag c) h
  have ht : t = _ := refuseTag_eq u b tag c wake
  rw [hnotice] at ht
  refine ⟨fun hroom => ?_, fun hfull => ⟨?_, fun hwake => ?_, fun hwake => ?_⟩, ?_⟩
  · simp [ht, hroom, Nat.not_le.2 hroom, hrate (.inl hroom), readerStation, kindRefusalNotice]
  · simp [ht, Nat.not_lt.2 hfull]
  · simp [ht, hwake, Nat.not_lt.2 hfull, hrate (.inr hwake)]
  · simp [ht, hwake, hfull, Nat.not_lt.2 hfull]
  · rw [ht]

/-! ## Grants -/

/-- R66: the bay that takes a grant. -/
theorem grantAt_bay_same (u : State) (b : BayId) (w : Vehicle) (hours : Option Nat) (wake : Bool) :
    (u.grantAt b w hours wake).bay b = (u.bay b).takeGrant (grantCopy b w hours u) := by
  obtain ⟨rate, hgrant⟩ := grantAt_eq u b w hours wake
  rw [hgrant]
  exact PerBay.get_set_same ..

/-- R66: a grant leaves the other bays. -/
theorem grantAt_bay_other (u : State) {b c : BayId} (w : Vehicle) (hours : Option Nat) (wake : Bool) (h : c ≠ b) :
    (u.grantAt b w hours wake).bay c = u.bay c := by
  obtain ⟨rate, hgrant⟩ := grantAt_eq u b w hours wake
  rw [hgrant]
  exact PerBay.get_set_other _ _ _ _ h

/-- R66: a grant takes a reservation and writes the record with its arming. -/
theorem grantAt_reserves_arms (u : State) (b : BayId) (w : Vehicle) (hours : Option Nat) (wake : Bool) :
    (u.grantAt b w hours wake).journal = u.journal.reserve ∧
      (u.grantAt b w hours wake).fleet = setVehicle { w with armedAt := some b } u.fleet := by
  obtain ⟨rate, hgrant⟩ := grantAt_eq u b w hours wake
  rw [hgrant]
  exact ⟨rfl, rfl⟩

/-- R66, R163: the effect of a grant on the yard port, and what it leaves. -/
theorem grantAt_effect (u : State) (b : BayId) (w : Vehicle) (hours : Option Nat) (wake : Bool) :
    let t := u.grantAt b w hours wake
    (u.yard.tx.length < 8 → t.yard = { u.yard with tx := u.yard.tx ++
        [{ frame := { dst := BitVec.ofNat 8 (239 + bayNumber b), src := u.station, kind := 0x19
                      body := (grantCopy b w hours u).noticeBody }, wake := wake }] } ∧
      t = { u with bays := t.bays, fleet := t.fleet, journal := t.journal, yard := t.yard }) ∧
    (8 ≤ u.yard.tx.length → t.yard = { u.yard with rate := t.yard.rate } ∧
      t = { u with
        bays := t.bays, fleet := t.fleet, journal := t.journal, yard := t.yard
        yardMode := if wake then .run else u.yardMode, yardTarget := if wake then .run else u.yardTarget }) := by
  intro t
  obtain ⟨rate, ht⟩ := grantAt_eq u b w hours wake
  have hrate : u.yard.tx.length < 8 → rate = u.yard.rate := fun h => by
    have hkept : t.yard.rate = u.yard.rate := notice_keeps_rate _ _ _ (.inl h)
    rwa [show t = _ from ht] at hkept
  rw [show t = _ from ht]
  refine ⟨fun hroom => ?_, fun hfull => ?_⟩
  · simp [hroom, Nat.not_le.2 hroom, hrate hroom, readerStation, kindGrantNotice]
  · simp [hfull, Nat.not_lt.2 hfull]

/-! ## The early checks -/

section
variable {s : State} {b : BayId} {r : TagRead}

/-- R73: checks 1 to 6 give after the wake what they give before it. -/
theorem earlyChecks_woken (s : State) (b : BayId) (tag : Nat) : earlyChecks b tag (woken s) = earlyChecks b tag s := by
  have hpod : ((woken s).pod ≠ .inService ∧ (woken s).pod ≠ .watch) ↔
      (s.pod ≠ .inService ∧ s.pod ≠ .watch) := by
    rw [woken_eq]
    by_cases h : s.pod = .watch <;> simp [h]
  have hbay : (woken s).bay b = s.bay b := by rw [woken_eq]; rfl
  have hrecord : recordChecks b tag (woken s) = recordChecks b tag s := by rw [woken_eq]; rfl
  simp only [earlyChecks, hpod, hbay, hrecord]

/-- R59, check 1. -/
theorem earlyChecks_closed (tag : Nat) (h : s.pod = .blank ∨ s.pod = .suspended) :
    earlyChecks b tag s = .refuse .podClosed := by
  obtain h | h := h <;> simp [earlyChecks, h]

/-- R59: in service or in WATCH check 1 passes. -/
theorem pod_open (h : s.pod = .inService ∨ s.pod = .watch) : ¬(s.pod ≠ .inService ∧ s.pod ≠ .watch) := by
  rintro ⟨hservice, hwatch⟩
  exact h.elim hservice hwatch

/-- R59: at an IDLE bay of an open pod the record decides. -/
theorem earlyChecks_idle (tag : Nat) (hpod : s.pod = .inService ∨ s.pod = .watch) (hs : (s.bay b).state = .idle) :
    earlyChecks b tag s = recordChecks b tag s := by
  rw [earlyChecks, if_neg (pod_open hpod), hs]

/-- R59, check 6: permission denied, read off the record. -/
theorem mayUse_false_iff {v : Vehicle} : v.mayUse b = false ↔ ∃ p, v.permitted = some p ∧ p.get b = false := by
  unfold Vehicle.mayUse
  split <;> simp_all

/-- R59, check 6: permission given, read off the record. -/
theorem mayUse_iff {v : Vehicle} : v.mayUse b = true ↔ ∀ p, v.permitted = some p → p.get b = true := by
  unfold Vehicle.mayUse
  split <;> simp_all

/-- R60: a bay that serves another tag does not hold this one. -/
theorem holdsTag_false {y : Bay} {tag : Nat} (h : y.grantTag ≠ some tag) : y.holdsTag tag = false := by
  unfold Bay.holdsTag
  split
  · rfl
  · rename_i g hg
    simpa [Bay.grantTag, hg] using h

/-- R68: a check that fails before the hours refuses the frame in the state after the wake. -/
theorem tag_refused {c : RefusalCode} (h : TagAt s b r) (hc : earlyChecks b r.tag s = .refuse c) :
    exec .tag s = .next ((woken s).refuseTag b r.tag c (s.pod == .watch)).settled := by
  rw [tag_taken h]
  simp only [State.decideTag, earlyChecks_woken, hc]

/-- R59: what checks 1 to 6 have found when they let a vehicle through. -/
theorem passesEarly_of_allow {v : Vehicle} (h : TagAt s b r) (hc : earlyChecks b r.tag s = .allow v) :
    PassesEarly s b r v := by
  obtain ⟨hfound, hfree, hidle⟩ := earlyChecks_allow hc
  have hpod : s.pod = .inService ∨ s.pod = .watch := by
    by_contra hclosed
    rw [earlyChecks, if_pos (not_or.1 hclosed)] at hc
    cases hc
  rw [earlyChecks_idle _ hpod hidle] at hc
  have hrecord : v.status ≠ .barred ∧ v.mayUse b = true := by
    simp only [recordChecks, hfound, hfree] at hc
    split at hc
    · cases hc
    · rename_i hbarred
      refine ⟨hbarred, ?_⟩
      by_contra hdenied
      simp [hdenied] at hc
  obtain ⟨hbarred, hmay⟩ := hrecord
  have hactive : v.status = .active := by
    cases hv : v.status with
    | active => rfl
    | barred => exact absurd hv hbarred
  exact ⟨h, hpod, hidle, hfound, hactive, hfree, mayUse_iff.1 hmay⟩

end

/-- Settles O34: the first of checks 1 to 6 that fails decides the refusal; what a refusal changes (R59, R68, R69, R163). -/
theorem earlyChecksRefuseInOrder : Obligations.EarlyChecksRefuseInOrder := by
  refine ⟨fun s b r harrived => ?_, fun u b tag c wake => ?_⟩
  · intro u refusedWith
    refine ⟨fun hpod => tag_refused harrived (earlyChecks_closed r.tag hpod), fun hpod => ?_⟩
    have hopen := pod_open hpod
    refine ⟨fun hs => tag_refused harrived ?_, fun hs => tag_refused harrived ?_, fun hs => tag_refused harrived ?_,
      fun hs htag => tag_refused harrived ?_, fun hs => ?_⟩
    · rw [earlyChecks, if_neg hopen, hs]
    · rw [earlyChecks, if_neg hopen, hs]
    · rw [earlyChecks, if_neg hopen]
      obtain hs | hs | hs | hs := hs <;> rw [hs]
    · rw [earlyChecks, if_neg hopen, hs]
      simp [holdsTag_false htag]
    · have hrecord := earlyChecks_idle r.tag hpod hs
      refine ⟨fun hunknown => tag_refused harrived (hrecord.trans ?_), fun v hfound =>
        ⟨fun hbarred => tag_refused harrived (hrecord.trans ?_),
          fun hactive harmed => tag_refused harrived (hrecord.trans ?_),
          fun hactive hfree hdenied => tag_refused harrived (hrecord.trans ?_)⟩⟩
      · simp [recordChecks, hunknown]
      · simp [recordChecks, hfound, hbarred]
      · simp [recordChecks, hfound, hactive, Option.isSome_iff_ne_none, harmed]
      · simp [recordChecks, hfound, hactive, hfree, mayUse_false_iff.2 hdenied]
  · intro t
    obtain ⟨hroom, hfull, hframe⟩ := refuseTag_effect u b tag c wake
    have hjournal : t.journal = if coalesced b tag c u then u.journal else u.journal.logEvent u.stamp (.refusal b tag c) :=
      congrArg State.journal (refuseTag_eq u b tag c wake)
    refine ⟨hroom, hfull, fun hsame => ?_, fun hold => ?_, hframe⟩
    · rw [hjournal, if_pos ((coalesced_iff b tag c u).2 hsame)]
    · rw [hjournal, if_neg]
      intro hcoalesced
      obtain ⟨e, hnewest, hkind, hpast, hyoung⟩ := (coalesced_iff b tag c u).1 hcoalesced
      exact absurd (hold e hnewest hkind hpast) (Nat.not_le.2 hyoung)

/-! ## A frame without hours that is granted -/

/-- R47: the fields of a record that the late checks read and the hours leave. -/
theorem hoursOf_keeps (s : State) (v : Vehicle) (r : TagRead) :
    (hoursOf s v r).1.tag = v.tag ∧ (hoursOf s v r).1.priority = v.priority ∧
      (hoursOf s v r).1.fillCeiling = v.fillCeiling ∧ (hoursOf s v r).1.allowance = v.allowance ∧
      s.classOf (hoursOf s v r).1 = s.classes[v.cls] := by
  rw [hoursOf_shape]
  exact ⟨rfl, rfl, rfl, rfl, rfl⟩

/-- R47: a write of the same vehicle after the hours' stands alone. -/
theorem setVehicle_afterHours (s : State) {v w : Vehicle} (r : TagRead) (h : w.tag = v.tag) :
    setVehicle w (afterHours s v r).fleet = setVehicle w s.fleet :=
  setVehicle_setVehicle (h.trans (hoursOf_keeps s v r).1.symm) s.fleet

/-- R63: no candidate is less than the grant limit. -/
theorem grantLimit_le {v : Vehicle} {e : ClassEntry} {k : Tank} {c : LimitReason × Nat}
    (h : c ∈ ceilingCandidate v k :: (allowanceCandidate v ++ limpCandidate v e ++ [(.stock, bookLitres k.book)])) :
    (grantLimit v e k).2 ≤ c.2 := by
  obtain ⟨before, behind, hsplit, hbefore, hbehind⟩ := leastCandidate_split (ceilingCandidate v k)
    (allowanceCandidate v ++ limpCandidate v e ++ [(.stock, bookLitres k.book)])
  rw [hsplit] at h
  obtain h | rfl | h := List.mem_append.1 h |>.imp_right List.mem_cons.1
  · exact (hbefore c h).le
  · exact le_rfl
  · exact hbehind c h

/-- R63: the book covers a positive number of litres exactly when its whole litres do. -/
theorem le_bookLitres_iff {n : Nat} {book : Int} (h : 0 < n) : n ≤ bookLitres book ↔ (n : Int) * 1000000 ≤ book := by
  unfold bookLitres
  split <;> omega

/-- R63: with no allowance, no limp and stock enough, the fill ceiling is the limit. -/
theorem grantLimit_ceiling {v : Vehicle} (e : ClassEntry) {k : Tank} (hration : k.standing ≠ .ration)
    (hallowance : v.allowance = none) (hlimp : v.standing ≠ .overdue) (hstock : v.fillCeiling ≤ bookLitres k.book) :
    grantLimit v e k = (.fillCeiling, v.fillCeiling) := by
  simp [grantLimit, ceilingCandidate, allowanceCandidate, limpCandidate, leastCandidate, hration, hallowance, hlimp,
    Nat.not_lt.2 hstock]

/-- R59, check 8: a tank that is not RECEIVING, held or EMPTY, nor in RESERVE for a lower priority, passes its tests. -/
theorem tankCheck_fit {k : Tank} {p : Fin 4} (hd : k.delivery = none) (hv : k.varianceHold = false)
    (hw : k.waterHold = false) (he : k.standing ≠ .empty)
    (hr : k.standing = .reserve → k.settings.reservePriority ≤ p) : tankCheck k p = none := by
  rw [tankCheck_standing p hd hv hw, if_neg he, if_neg fun h => absurd h.2 (Fin.not_lt.2 (hr h.1))]

/-- R47: a frame without hours leaves the record and logs nothing. -/
theorem hoursOf_none (s : State) (v : Vehicle) (tag : Nat) : hoursOf s v { tag := tag, hours := none } = (v, []) := rfl

/-- Settles O35: a frame without hours that passes every check is granted its fill ceiling (R59, R63, R66, R67, R73). -/
theorem frameThatPassesEveryCheckIsGranted : Obligations.FrameThatPassesEveryCheckIsGranted := by
  intro s b v tag harrived hpod hidle hfound hactive hfree hpermitted hstanding k u hdelivery hvariance hwater hk hreserve
    hroom hceiling hallowance hstock
  let r : TagRead := { tag := tag, hours := none }
  have early : PassesEarly s b r v :=
    ⟨harrived, hpod, hidle, hfound, hactive, hfree, fun p hp => by simp [hpermitted] at hp⟩
  obtain ⟨hbay, htank, -, -, hyard, hstation, hmode, htarget⟩ := afterHours_frame s v r
  obtain ⟨hissues, hspan, hreservations⟩ := afterHours_issues s v r
  have hnotLocked : v.standing ≠ .locked := by obtain h | h := hstanding <;> rw [h] <;> decide
  have hnotOverdue : v.standing ≠ .overdue := by obtain h | h := hstanding <;> rw [h] <;> decide
  have hration : k.standing ≠ .ration := by obtain h | h := hk <;> rw [h] <;> decide
  have hempty : k.standing ≠ .empty := by obtain h | h := hk <;> rw [h] <;> decide
  have hlimit (e : ClassEntry) : grantLimit v e k = (.fillCeiling, v.fillCeiling) :=
    grantLimit_ceiling e hration hallowance hnotOverdue ((le_bookLitres_iff (by omega)).2 hstock)
  have htankPasses : tankCheck k v.priority = none := tankCheck_fit hdelivery hvariance hwater hempty hreserve
  have hsame : (afterHours s v r).tank ((afterHours s v r).bay b).settings.tank = k := by rw [hbay, htank]
  have hlate : lateChecks b v (afterHours s v r) = none := by
    rw [lateChecks_limit hnotLocked (hsame ▸ htankPasses) (by rw [hissues, hspan, hreservations]; exact hroom), hsame,
      hlimit, if_neg (Nat.not_lt.2 hceiling)]
  have hcopy : grantCopy b v none (afterHours s v r) =
      { tag := v.tag, unit := v.unit, limit := v.fillCeiling, reason := .fillCeiling, limp := false
        notice := if v.standing = .due then .due else .noNotice, hours := none, tank := (s.bay b).settings.tank
        start := { time := s.clock, unset := !s.clockSet } } := by
    have hnotice : v.standing.notice = if v.standing = .due then .due else .noNotice := by
      obtain h | h := hstanding <;> rw [h] <;> rfl
    have hcopy := grantCopy_afterHours s b v r
    simpa only [r, hoursOf_none, show s.tank (s.bay b).settings.tank = k from rfl, hlimit, hnotOverdue, hnotice,
      decide_false] using hcopy
  obtain ⟨hjournal, hfleet⟩ := grantAt_reserves_arms (afterHours s v r) b v none (s.pod == .watch)
  obtain ⟨hsent, hmissed⟩ := grantAt_effect (afterHours s v r) b v none (s.pod == .watch)
  have huTx : u.yard.tx = s.yard.tx := by rw [show u.yard = _ from hyard]
  have huStation : u.station = s.station := hstation
  have huMode : u.yardMode = s.yardMode := hmode
  have huTarget : u.yardTarget = s.yardTarget := htarget
  simp only [hcopy, beq_iff_eq] at hsent hmissed
  rw [← huTx, ← huStation, ← huMode, ← huTarget]
  refine ⟨(afterHours s v r).grantAt b v none (s.pod == .watch), early.granted hlate, ?_, fun c hc => ?_, ?_, ?_,
    hsent, hmissed⟩
  · rw [grantAt_bay_same, hcopy, hbay]
    rfl
  · rw [grantAt_bay_other _ _ _ _ hc, hbay]
  · rw [hjournal, Journal.reserve, hreservations]
    rfl
  · rw [hfleet, setVehicle_afterHours s r (by rfl)]

/-! ## What every grant rests on -/

/-- R59, check 8: what a tank that passes its tests is. -/
theorem tankCheck_none {k : Tank} {p : Fin 4} (h : tankCheck k p = none) :
    k.receiving = false ∧ k.varianceHold = false ∧ k.waterHold = false ∧ k.standing ≠ .empty ∧
      (k.standing = .reserve → k.settings.reservePriority ≤ p) := by
  have hdelivery : k.delivery = none := by
    by_contra hd
    rw [tankCheck_receiving p hd] at h
    cases h
  have hholds : ¬(k.varianceHold = true ∨ k.waterHold = true) := fun hh => by
    rw [tankCheck_hold p hdelivery hh] at h
    cases h
  obtain ⟨hvariance, hwater⟩ := not_or.1 hholds
  rw [Bool.not_eq_true] at hvariance hwater
  rw [tankCheck_standing p hdelivery hvariance hwater] at h
  have hempty : k.standing ≠ .empty := fun he => by
    rw [if_pos he] at h
    cases h
  refine ⟨by simp [Tank.receiving, hdelivery], hvariance, hwater, hempty, fun hr => Fin.not_lt.1 fun hp => ?_⟩
  rw [if_neg hempty, if_pos ⟨hr, hp⟩] at h
  cases h

/-- R59: what checks 7 to 10 have found when they let a vehicle through. -/
theorem lateChecks_none {b : BayId} {v : Vehicle} {s : State} (h : lateChecks b v s = none) :
    v.standing ≠ .locked ∧ tankCheck (s.tank (s.bay b).settings.tank) v.priority = none ∧
      s.journal.issues.records.length + s.journal.reservations < s.journal.issueSpan ∧
      5 ≤ (grantLimit v (s.classOf v) (s.tank (s.bay b).settings.tank)).2 := by
  have hlocked : v.standing ≠ .locked := fun hl => by
    rw [lateChecks_locked hl] at h
    cases h
  have htank : tankCheck (s.tank (s.bay b).settings.tank) v.priority = none := by
    cases ht : tankCheck (s.tank (s.bay b).settings.tank) v.priority with
    | none => rfl
    | some c =>
      rw [lateChecks_tank hlocked ht] at h
      cases h
  have hroom : s.journal.issues.records.length + s.journal.reservations < s.journal.issueSpan := by
    by_contra hfull
    rw [lateChecks_full hlocked htank (Nat.not_lt.1 hfull)] at h
    cases h
  refine ⟨hlocked, htank, hroom, Nat.not_lt.1 fun hlow => ?_⟩
  rw [lateChecks_limit hlocked htank hroom, if_pos hlow] at h
  cases h

/-- R47, R59: what checks 7 to 10 have found after the hours, on the state before the frame. -/
theorem lateChecks_afterHours_none {s : State} {b : BayId} {v : Vehicle} {r : TagRead}
    (h : lateChecks b (hoursOf s v r).1 (afterHours s v r) = none) :
    (hoursOf s v r).1.standing ≠ .locked ∧ tankCheck (s.tank (s.bay b).settings.tank) v.priority = none ∧
      s.journal.issues.records.length + s.journal.reservations < s.journal.issueSpan ∧
      5 ≤ (grantLimit (hoursOf s v r).1 (s.classOf (hoursOf s v r).1) (s.tank (s.bay b).settings.tank)).2 := by
  obtain ⟨hbay, htank, hclass, -⟩ := afterHours_frame s v r
  obtain ⟨hissues, hspan, hreservations⟩ := afterHours_issues s v r
  obtain ⟨-, hpriority, -⟩ := hoursOf_keeps s v r
  have hfound := lateChecks_none h
  rwa [hbay, htank, hclass, hpriority, hissues, hspan, hreservations] at hfound

/-- R63, R64: the ceiling, rationed where it is. -/
theorem grantLimit_le_ceiling {v : Vehicle} (e : ClassEntry) {k : Tank} (hpercent : k.settings.rationPercent ≤ 100) :
    (grantLimit v e k).2 ≤ v.fillCeiling ∧
      (k.standing = .ration → v.priority < 3 →
        (grantLimit v e k).2 ≤ v.fillCeiling * k.settings.rationPercent / 100) := by
  have hle : (grantLimit v e k).2 ≤ (ceilingCandidate v k).2 := grantLimit_le List.mem_cons_self
  have hrationed : v.fillCeiling * k.settings.rationPercent / 100 ≤ v.fillCeiling :=
    Nat.div_le_of_le_mul (by rw [Nat.mul_comm 100]; exact Nat.mul_le_mul_left _ hpercent)
  refine ⟨hle.trans ?_, fun hr hp => ?_⟩
  · unfold ceilingCandidate
    split
    · exact hrationed
    · exact le_rfl
  · rwa [ceilingCandidate, if_pos ⟨hr, hp⟩] at hle

/-- R22, R63: the remaining allowance. -/
theorem grantLimit_le_allowance {v : Vehicle} (e : ClassEntry) (k : Tank) {a : Allowance} (h : v.allowance = some a) :
    (grantLimit v e k).2 ≤ a.litres - a.usedCl / 100 :=
  grantLimit_le (c := (.allowance, a.litres - a.usedCl / 100)) (by simp [allowanceCandidate, h])

/-- R51, R63: the limp allotment of the class. -/
theorem grantLimit_le_limp {v : Vehicle} (e : ClassEntry) (k : Tank) (h : v.standing = .overdue) :
    (grantLimit v e k).2 ≤ e.limpAllotment :=
  grantLimit_le (c := (.limp, e.limpAllotment)) (by simp [limpCandidate, h])

/-- R63: a limit that can be granted is covered by the book. -/
theorem grantLimit_le_book {v : Vehicle} (e : ClassEntry) {k : Tank} (h : 5 ≤ (grantLimit v e k).2) :
    ((grantLimit v e k).2 : Int) * 1000000 ≤ k.book :=
  (le_bookLitres_iff (by omega)).1 (grantLimit_le (c := (.stock, bookLitres k.book)) (by simp))

/-- What ends an event leaves the bays. -/
theorem settled_bay (s : State) (b : BayId) : s.settled.bay b = s.bay b := State.bay_congr (by simp) b

/-- A TAG has its occasion, or leaves the state. -/
theorem tag_unmet_or_head {s t : State} (h : exec .tag s = .next t) :
    t = s ∨ ∃ f b, s.yardHead = some f ∧ classifyYard s.station f = .tag b := by
  simp only [exec, execTag] at h
  split at h
  · split at h
    · exact .inr ⟨_, _, ‹_›, ‹_›⟩
    · cases h
      exact .inl rfl
  · cases h
    exact .inl rfl

/-- R59, R66: a TAG leaves the bays, or it grants a frame that passed every check. -/
theorem tag_bays_or_grant {s t : State} (h : exec .tag s = .next t) : t.bays = s.bays ∨
    ∃ b r v, PassesEarly s b r v ∧ lateChecks b (hoursOf s v r).1 (afterHours s v r) = none ∧
      t = ((afterHours s v r).grantAt b (hoursOf s v r).1 r.hours (s.pod == .watch)).settled := by
  have hwoken : (woken s).bays = s.bays := by rw [woken_eq]
  have hhours (v : Vehicle) (r : TagRead) : (afterHours s v r).bays = s.bays := by rw [afterHours, woken_eq]
  obtain rfl | ⟨f, b, hhead, hclass⟩ := tag_unmet_or_head h
  · exact .inl rfl
  cases hparse : parseTag f.payload with
  | none =>
    simp only [exec, execTag, hhead, hclass, event_eq, takeTag_wrongLength hparse, if_true] at h
    cases h
    left
    simp only [State.settled_frame]
    split <;> simp [State.popYard, State.changePod]
  | some r =>
    have arrived : TagAt s b r := ⟨f, hhead, hclass, hparse⟩
    rw [tag_taken arrived] at h
    cases h
    cases hearly : earlyChecks b r.tag s with
    | refuse c => simp [State.decideTag, earlyChecks_woken, hearly, refuseTag_bays, hwoken]
    | repeatGrant => simp [State.decideTag, earlyChecks_woken, hearly, State.repeatGrant, hwoken]
    | allow v =>
      have early := passesEarly_of_allow arrived hearly
      cases hlate : lateChecks b (hoursOf s v r).1 (afterHours s v r) with
      | some c =>
        simp [State.decideTag, early.checks, hoursStep_woken, hlate, refuseTag_bays, hhours]
      | none =>
        refine .inr ⟨b, r, v, early, hlate, ?_⟩
        simp only [State.decideTag, early.checks, hoursStep_woken, hlate]

/-- Settles O36: a grant is made in service, to a vehicle and at a tank that may, with a limit within every bound (R59 to
R65). -/
theorem everyGrantIsAllowedAndBounded : Obligations.EveryGrantIsAllowedAndBounded := by
  intro s t b htanks hexec hbefore hgranted
  obtain hbays | ⟨k, r, v, early, hlate, rfl⟩ := tag_bays_or_grant hexec
  · exact absurd (State.bay_congr hbays b ▸ hgranted) hbefore
  obtain rfl : b = k := by
    by_contra hne
    rw [settled_bay, grantAt_bay_other _ _ _ _ hne, (afterHours_frame s v r).1] at hgranted
    exact hbefore hgranted
  obtain ⟨htag, hpriority, hceiling, hallowance, hclass⟩ := hoursOf_keeps s v r
  obtain ⟨hlocked, hpasses, hroom, henough⟩ := lateChecks_afterHours_none hlate
  obtain ⟨hmember, hfoundTag⟩ := findTag_some early.found
  obtain ⟨hreceiving, hvariance, hwater, hempty, hreserve⟩ := tankCheck_none hpasses
  obtain ⟨⟨-, -, -, -, -, -, hpercent, -⟩, -⟩ := htanks (s.bay b).settings.tank
  obtain ⟨hmax, hrationed⟩ := grantLimit_le_ceiling (v := (hoursOf s v r).1) (s.classOf (hoursOf s v r).1) hpercent
  refine ⟨early.pod, early.idle, hroom, grantCopy b (hoursOf s v r).1 r.hours (afterHours s v r), v,
    { (hoursOf s v r).1 with armedAt := some b }, ?_, hmember, ?_, ?_⟩
  · rw [settled_bay, grantAt_bay_same]
    rfl
  · obtain ⟨-, hfleet⟩ := grantAt_reserves_arms (afterHours s v r) b (hoursOf s v r).1 r.hours (s.pod == .watch)
    simp only [State.settled_frame, hfleet]
    rw [setVehicle_afterHours s r (by exact htag)]
    exact mem_setVehicle_self (hfoundTag ▸ early.found) htag
  rw [grantCopy_afterHours]
  rw [hceiling] at hmax hrationed
  rw [hpriority] at hrationed
  exact ⟨rfl, htag, early.active, early.free, early.permitted, rfl, hlocked, decide_eq_true_iff, rfl, hreceiving,
    hvariance, hwater, hempty, hreserve, henough, hmax, hrationed,
    fun a ha => grantLimit_le_allowance _ _ (hallowance.trans ha), grantLimit_le_book _ henough,
    fun ho => hclass ▸ grantLimit_le_limp _ _ ho⟩

end Sys2Proof.Authorising
end

section
/-! PROOFS of the family of chapter 05. What a command can do to a bay while the part runs; what a run of completions in bay
order leaves; then the family's statements. -/

namespace Sys2Proof.BaySequencing

open Sys2Proof Sys2Proof.Machine Sys2Proof.FleetRegister Sys2Proof.ServiceIntervals Sys2Proof.Authorising

/-! ## What a command does to a bay -/

/-- What the laws of R77 and R94 read of a bay: its state, its order, and which timers run. -/
structure Stance where
  state : BayState
  order : ValveOrder
  arm : Bool
  noFlow : Bool
  gap : Bool
  close : Bool
  drain : Bool

/-- The stance of a bay. -/
def stance (y : Bay) : Stance :=
  { state := y.state, order := y.slot.order, arm := y.armTimer.isSome, noFlow := y.noFlowTimer.isSome
    gap := y.gapTimer.isSome, close := y.closeTimer.isSome, drain := y.drainTimer.isSome }

/-- R94, for one bay: its order is that of its state. -/
def Ordered (y : Bay) : Prop := y.slot.order = orderFor y.state

theorem ordered_congr {y z : Bay} (h : stance z = stance y) : Ordered z ↔ Ordered y := by
  simp only [stance, Stance.mk.injEq] at h
  obtain ⟨hstate, horder, -⟩ := h
  simp [Ordered, hstate, horder]

theorem timersLawful_congr {y z : Bay} (h : stance z = stance y) : z.timersLawful ↔ y.timersLawful := by
  simp only [stance, Stance.mk.injEq] at h
  obtain ⟨hstate, -, harm, hnoFlow, hgap, hclose, hdrain⟩ := h
  simp only [Bay.timersLawful, hstate, harm, hnoFlow, hgap, hclose, hdrain]

/-- What the commands make of a bay while the part runs, one change after another (05). -/
inductive Turn : Bay → Bay → Prop
  | data {y z : Bay} (h : stance z = stance y) : Turn y z
  /-- R78: a grant, which writes no order. -/
  | grant {y : Bay} (g : GrantCopy) (idle : y.state = .idle) : Turn y (y.takeGrant g)
  /-- R79. -/
  | flowing (y : Bay) : Turn y y.toFlowing
  /-- R81. -/
  | trimming {y : Bay} (flowing : y.state = .flowing) : Turn y y.toTrimming
  /-- R81: a tally that leaves the valve open. -/
  | restart {y : Bay} (pulses : Nat) (isOpen : y.state.valveOpen = true) : Turn y (y.restartFlowTimers pulses)
  /-- R83. -/
  | closing (y : Bay) (c : CloseCause) : Turn y (y.toClosing c)
  /-- R80, R87, R88: entry to IDLE from a state whose order is SHUT. -/
  | idle {y : Bay} (shut : orderFor y.state = .shut) : Turn y (y.enter .idle)
  /-- R87, R99: entry to DRAINING from such a state. -/
  | draining {y : Bay} (shut : orderFor y.state = .shut) : Turn y y.toDraining
  /-- R76, R87, R89, R92, R93: entry to a state without timers, with SHUT ordered. -/
  | shut {y : Bay} {st : BayState} (still : st = .idle ∨ st = .disabled ∨ st = .faulted) : Turn y ((y.enter st).order .shut)
  | trans {x y z : Bay} (first : Turn x y) (second : Turn y z) : Turn x z

theorem Turn.refl (y : Bay) : Turn y y := .data rfl

/-- R94: every such change leaves the bay the order of its state. -/
theorem Turn.keeps_order {y z : Bay} (h : Turn y z) (hy : Ordered y) : Ordered z := by
  induction h with
  | data h => exact (ordered_congr h).2 hy
  | grant g idle => exact hy.trans (by rw [idle]; rfl)
  | flowing | trimming | closing => rfl
  | restart => exact hy
  | idle shut => exact hy.trans shut
  | @draining y shut =>
    unfold Bay.toDraining
    split <;> exact hy.trans shut
  | shut still => rcases still with rfl | rfl | rfl <;> rfl
  | trans _ _ ih1 ih2 => exact ih2 (ih1 hy)

/-- R77, R99: a bay that leaves an issue or a drain runs no timer but the drain timer of DRAINING. -/
theorem toDraining_timers (y : Bay) : y.toDraining.timersLawful := by
  unfold Bay.toDraining
  split <;> simp [Bay.timersLawful, Bay.enter, keepTimer, BayState.valveOpen]

/-- R77: every such change leaves the bay the timers of its state. -/
theorem Turn.keeps_timers {y z : Bay} (h : Turn y z) (hy : y.timersLawful) : z.timersLawful := by
  induction h with
  | data h => exact (timersLawful_congr h).2 hy
  | grant | flowing | closing | idle =>
    simp [Bay.timersLawful, Bay.takeGrant, Bay.toFlowing, Bay.toClosing, Bay.enter, Bay.order, keepTimer, BayState.valveOpen]
  | trimming flowing =>
    obtain ⟨-, hnoFlow, hgap, -⟩ := hy
    simpa [Bay.timersLawful, Bay.toTrimming, Bay.enter, Bay.order, keepTimer, BayState.valveOpen, flowing] using
      And.intro hnoFlow hgap
  | restart pulses isOpen =>
    obtain ⟨harm, hnoFlow, -, hclose, hdrain⟩ := hy
    refine ⟨harm, ?_, ?_, hclose, hdrain⟩
    · unfold Bay.restartFlowTimers
      dsimp only
      split
      · simp [isOpen]
      · exact hnoFlow
    · simp [Bay.restartFlowTimers, isOpen]
  | draining => exact toDraining_timers _
  | shut still =>
    rcases still with rfl | rfl | rfl <;>
      simp [Bay.timersLawful, Bay.enter, Bay.order, keepTimer, BayState.valveOpen]
  | trans _ _ ih1 ih2 => exact ih2 (ih1 hy)

/-! ## What a command does to the bays -/

/-- Every bay makes such changes, or none. -/
structure Turns (s t : State) : Prop where
  bay : ∀ b, Turn (s.bay b) (t.bay b)

theorem Turns.of_bays {s t : State} (h : t.bays = s.bays) : Turns s t := ⟨fun b => .data (by rw [State.bay_congr h])⟩

theorem Turns.refl (s : State) : Turns s s := .of_bays rfl

theorem Turns.trans {s u t : State} (h1 : Turns s u) (h2 : Turns u t) : Turns s t :=
  ⟨fun b => (h1.bay b).trans (h2.bay b)⟩

/-- A change of one bay. -/
theorem turns_setBay {s : State} {b : BayId} {y : Bay} (h : Turn (s.bay b) y) : Turns s (s.setBay b y) := by
  refine ⟨fun k => ?_⟩
  by_cases hk : k = b
  · subst hk
    simpa using h
  · simpa [hk] using Turn.refl (s.bay k)

/-- Changes made one after another. -/
theorem Turns.foldl {α : Type} {f : State → α → State} (hf : ∀ s a, Turns s (f s a)) (l : List α) (s : State) :
    Turns s (l.foldl f s) := by
  induction l generalizing s with
  | nil => exact .refl s
  | cons a l ih => exact (hf s a).trans (ih _)

/-- R87, R99: an issue ends from GRANTED or CLOSING, with SHUT ordered. -/
theorem turn_movedOn (c : CloseCause) {y : Bay} (h : y.state = .granted ∨ y.state = .closing) :
    Turn y ((y.ended c).movedOn c) := by
  have hshut : orderFor (y.ended c).state = .shut := by
    show orderFor y.state = .shut
    rcases h with h | h <;> rw [h] <;> rfl
  refine .trans (.data rfl : Turn y (y.ended c)) ?_
  unfold Bay.movedOn
  split
  · exact .draining hshut
  split
  · exact .shut (.inr (.inr rfl))
  split
  · exact .idle hshut
  · exact .draining hshut

theorem turns_complete {s : State} {b : BayId} (c : CloseCause)
    (h : (s.bay b).state = .granted ∨ (s.bay b).state = .closing) : Turns s (s.complete b c) := by
  refine ⟨fun k => ?_⟩
  by_cases hk : k = b
  · subst hk
    rw [State.complete_bay_same]
    exact turn_movedOn c h
  · rw [State.complete_bay_other _ _ _ _ hk]
    exact .refl _

/-- A change of a bay's data within its issue, and then its completion. -/
theorem turns_setBay_complete {s : State} {b : BayId} (c : CloseCause) {y : Bay} (hy : stance y = stance (s.bay b))
    (h : y.state = .granted ∨ y.state = .closing) : Turns s ((s.setBay b y).complete b c) :=
  (turns_setBay (.data hy)).trans (turns_complete c (by simpa using h))

/-- R80, R82, R90: an issue ended from outside the bay. -/
theorem turns_endIssue (s : State) (c : CloseCause) (b : BayId) : Turns s (s.endIssue c b) := by
  unfold State.endIssue
  split
  · exact turns_complete c (.inl ‹_›)
  · exact turns_setBay (.closing ..)
  · exact turns_setBay (.closing ..)
  · exact .refl s

/-! ## Yard frames -/

/-- R66: a TAG that is granted is granted at an IDLE bay. -/
theorem tag_turns {s t : State} (h : exec .tag s = .next t) : Turns s t := by
  rcases tag_bays_or_grant h with h | ⟨b, r, v, early, -, rfl⟩
  · exact .of_bays h
  have hbay : ∀ k, (afterHours s v r).bay k = s.bay k := fun k => by
    rw [afterHours, woken_eq]
    rfl
  refine ⟨fun k => ?_⟩
  rw [settled_bay]
  by_cases hk : k = b
  · subst hk
    rw [grantAt_bay_same, hbay]
    exact .grant _ early.idle
  · rw [grantAt_bay_other _ _ _ _ hk, hbay]
    exact .refl _

/-- R102: a tally metered leaves the bay's stance. -/
theorem addTally_stance (m : Metered) (pulses : Nat) (y : Bay) : stance (y.addTally m pulses) = stance y := by
  unfold Bay.addTally
  split <;> rfl

/-- R81: the five tests of a tally at an open valve. -/
theorem turn_tallyFlowing (t : Tally) (sample : Option Nat) {y : Bay} (h : y.state.valveOpen = true) :
    Turn y (tallyFlowing t sample y) := by
  unfold tallyFlowing
  split
  · exact .trans (.data rfl : Turn y y.setMeter) (.closing ..)
  split
  · exact .trans (.data rfl : Turn y y.setOverspeed) (.closing ..)
  split
  · exact .closing ..
  split
  · rename_i htrim
    obtain ⟨hflowing, -⟩ := htrim
    exact .trans (.trimming hflowing) (.restart _ rfl)
  split
  · exact .closing ..
  · exact .restart _ h

/-- R84: a tally leaves the stance of a CLOSING bay. -/
theorem closingTally_stance (t : Tally) (sample : Option Nat) (y : Bay) : stance (y.closingTally t sample) = stance y := by
  unfold Bay.closingTally
  repeat' split
  all_goals rfl

/-- R93: a fault at a bay. -/
theorem turns_faultIdle (s : State) (b : BayId) (cause : BayFaultCause) : Turns s (s.faultIdle b cause) :=
  (turns_setBay (b := b) (.shut (.inr (.inr rfl)))).trans (.of_bays rfl)

/-- R92: unassigned flow. -/
theorem turns_unaccounted (s : State) (b : BayId) : Turns s (s.unaccounted b) := by
  unfold State.unaccounted
  dsimp only
  split
  · refine .trans (.of_bays (by simp) : Turns s (s.log _)) (turns_setBay ?_)
    have hdata : Turn (s.bay b) { s.bay b with unassigned := 0 } := .data rfl
    split
    · exact hdata.trans (.shut (.inr (.inr rfl)))
    · exact hdata
  · exact .refl s

theorem turns_tallyGranted {s : State} {b : BayId} (t : Tally) (h : (s.bay b).state = .granted) :
    Turns s (s.tallyGranted b t) := by
  unfold State.tallyGranted
  split
  · exact turns_setBay_complete _ rfl (.inl h)
  · split
    · exact turns_setBay (.flowing _)
    · exact .refl s

theorem turns_tallyClosing {s : State} {b : BayId} (t : Tally) (sample : Option Nat) (h : (s.bay b).state = .closing) :
    Turns s (s.tallyClosing b t sample) := by
  have hstance := closingTally_stance t sample (s.bay b)
  unfold State.tallyClosing
  dsimp only
  split
  · exact turns_setBay_complete _ hstance (.inr ((congrArg Stance.state hstance).trans h))
  · exact turns_setBay (.data hstance)

theorem turns_tallyInactive (s : State) (b : BayId) (t : Tally) (taken : BayState) : Turns s (s.tallyInactive b t taken) := by
  unfold State.tallyInactive
  dsimp only
  split
  · exact (turns_unaccounted ..).trans (turns_faultIdle ..)
  · exact turns_unaccounted ..

/-- R108: a tally handed over to a bay in the state it was taken in. -/
theorem turns_handTally (s : State) (b : BayId) (t : Tally) (sample : Option Nat) :
    Turns s (s.handTally b t sample (s.bay b).state) := by
  unfold State.handTally
  split
  · exact turns_tallyGranted t ‹_›
  · exact turns_setBay (turn_tallyFlowing t sample (by rw [‹(s.bay b).state = _›]; rfl))
  · exact turns_setBay (turn_tallyFlowing t sample (by rw [‹(s.bay b).state = _›]; rfl))
  · exact turns_tallyClosing t sample ‹_›
  · exact turns_tallyInactive ..

/-- R101: the work done for one tally. -/
theorem turns_takeTally (s : State) (b : BayId) (t : Tally) : Turns s (s.takeTally b t) := by
  unfold State.takeTally
  dsimp only
  generalize hm : meter (s.bay b) (s.tank (s.bay b).settings.tank) t = m
  let u := (s.setBay b ((s.bay b).addTally m t.pulses)).debit (s.bay b).settings.tank m.net
  have hmetered : Turns s u := 
    (turns_setBay (.data (addTally_stance m t.pulses (s.bay b)))).trans (.of_bays (by simp [u]))
  have hstate : (u.bay b).state = (s.bay b).state := by
    obtain ⟨-, -, h⟩ := addTally_frame m t.pulses (s.bay b)
    simpa [u, State.bay] using h
  have hhanded := turns_handTally u b t m.sample
  rw [hstate] at hhanded
  exact hmetered.trans hhanded

/-- R84: a valve report leaves the stance of a CLOSING bay. -/
theorem closingReport_stance (r : ReportedValve) (y : Bay) : stance (y.closingReport r) = stance y := by
  unfold Bay.closingReport
  dsimp only
  split <;> rfl

/-- R110: a valve report taken. -/
theorem turns_takeValve (s : State) (b : BayId) (r : ReportedValve) : Turns s (s.takeValve b r) := by
  unfold State.takeValve
  refine .trans (turns_setBay (y := { s.bay b with reported := some r }) (.data rfl)) ?_
  generalize s.setBay b { s.bay b with reported := some r } = u
  have hfaulty : ∀ x : State, Turns u x → Turns u (if r.health = .faulty then x else u) := by
    intro x hx
    split
    · exact hx
    · exact .refl u
  have hclosing : Turns u (u.setBay b ((u.bay b).setValve.toClosing .valve)) :=
    turns_setBay (.trans (.data rfl : Turn (u.bay b) (u.bay b).setValve) (.closing ..))
  unfold State.handValve
  split
  · exact hfaulty _ (turns_setBay_complete _ rfl (.inl ‹_›))
  · exact hfaulty _ hclosing
  · exact hfaulty _ hclosing
  · exact turns_setBay (.data (closingReport_stance ..))
  · exact hfaulty _ (turns_faultIdle ..)
  · exact hfaulty _ (turns_faultIdle ..)
  · exact .refl u
  · exact .refl u

/-! ## Censuses, time and the ports -/

/-- R137: the water test ends issues at the tank. -/
theorem turns_censusTests (s : State) (r : CensusResult) : Turns s (s.censusTests r) := by
  have hwater : ∀ t level, Turns s (s.waterTest t level) := by
    intro t level
    unfold State.waterTest
    split
    · refine .trans (.of_bays (by simp) : Turns s ((s.setTank _ _).log _)) (.foldl (fun u b => ?_) _ _)
      split
      · exact turns_endIssue ..
      · exact .refl u
    · exact .refl s
  have hvariance : ∀ (u : State) t net, Turns u (u.varianceTest t net) := by
    intro u t net
    unfold State.varianceTest
    dsimp only
    refine .of_bays ?_
    repeat' split
    all_goals simp
  unfold State.censusTests
  split
  · dsimp only
    split
    · exact (hwater ..).trans (hvariance ..)
    · exact hwater ..
  · exact .refl s

/-- R122: the hand-off of a census result. -/
theorem turns_handOff (s : State) (c : CensusInFlight) (outcome : CensusOutcome) (reading : Option Reading) :
    Turns s (s.handOff c outcome reading) := by
  have hown : ∀ (u : State) t own net, (u.applyOwn t own net).bays = u.bays := by
    intro u t own net
    unfold State.applyOwn State.completeDelivery State.recordPre
    repeat' split
    all_goals simp
  have hgauge : ∀ t failed, (s.gaugeStep t failed).bays = s.bays := by
    intro t failed
    simp [State.gaugeStep]
  unfold State.handOff State.takeResult
  dsimp only
  refine .trans (.trans (.of_bays ?_) (turns_censusTests _ _)) (.of_bays (State.endCensus_frame ..).2.2.2.2.2.2.2.2.2.2.2.2.2.2.2.1)
  simp [hown, hgauge]

theorem turns_ackFails (s : State) (c : CensusInFlight) (phase : AckPhase) : Turns s (s.ackFails c phase) := by
  unfold State.ackFails
  dsimp only
  split
  · exact .of_bays (by simp)
  · exact .trans (.of_bays (by simp)) (turns_handOff ..)

/-- R77: time that passes stops no timer and starts none. -/
theorem turns_elapse (s : State) (ms : Nat) : Turns s (s.elapse ms) := by
  refine ⟨fun b => ?_⟩
  have hbay : (s.elapse ms).bay b = (s.bay b).elapse ms := by simp [State.elapse, State.bay]
  rw [hbay]
  exact .data (by simp [stance, Bay.elapse, Timer.after])

theorem turns_idleStep (s : State) : Turns s s.idleStep := by
  unfold State.idleStep
  split
  · dsimp only
    split
    · exact (turns_elapse s 1).trans (.of_bays (by simp))
    · exact (turns_elapse ..).trans (.of_bays rfl)
  · exact .refl s

/-- R95: a slot taken keeps its order. -/
theorem turns_takeNext (s : State) (p : PortId) : Turns s (s.takeNext p) := by
  unfold State.takeNext
  split
  · rename_i b _
    exact (turns_setBay (b := b) (y := { s.bay b with slot := { (s.bay b).slot with pending := false } }) (.data rfl)).trans
      (.of_bays rfl)
  · split
    · exact .refl s
    · cases p <;> exact .of_bays rfl

/-! ## Requests -/

/-- R76: the state table of BAY SET. -/
theorem turn_configure (k : BaySettings) {y : Bay} : Turn y (y.configure k) := by
  have hdata : Turn y { y with settings := k } := .data rfl
  unfold Bay.configure
  dsimp only
  split
  · split
    · exact hdata
    · exact hdata.trans (.shut (.inr (.inl rfl)))
  · split
    · exact hdata
    · exact hdata.trans (.shut (.inr (.inl rfl)))
  · split
    · exact hdata.trans (.idle (by simp [*, orderFor]))
    · exact hdata
  · exact hdata

theorem turns_baySet (r : BaySetReq) (s : State) : Turns s (baySet r s).1 := by
  unfold baySet
  split
  · split
    · exact .refl s
    · exact turns_setBay (turn_configure _)
  · exact .refl s

theorem turns_bayStop (n : Nat) (s : State) : Turns s (bayStop n s).1 := by
  unfold bayStop
  split
  · exact .refl s
  · exact turns_endIssue ..

theorem turns_bayRelease (n : Nat) (s : State) : Turns s (bayRelease n s).1 := by
  unfold bayRelease
  split
  · exact .refl s
  · split
    · exact turns_setBay (.shut (.inl rfl))
    · exact .refl s

/-- R176: a halt ends issues. -/
theorem turns_podSuspend (n : Nat) (s : State) : Turns s (podSuspend n s).1 := by
  unfold podSuspend
  split
  · exact .refl s
  · split
    · exact .refl s
    · have hpod : Turns s (if s.pod = .suspended then s else s.changePod .suspended) := .of_bays (by split <;> simp)
      dsimp only
      split
      · exact hpod.trans (.foldl (fun u b => turns_endIssue u .site b) _ _)
      · exact hpod

/-! ## Every command but a start -/

/-- An event, whatever its occasion. -/
theorem event_turns {o : Bool} {e : State → State} {s t : State} (h : event o e s = .next t)
    (he : o = true → Turns s (e s)) : Turns s t := by
  rw [event_eq] at h
  cases h
  split
  · exact (he ‹_›).trans (.of_bays (by simp))
  · exact .refl s

/-- A request, whatever its fields. -/
theorem request_turns {α : Type} {kind : Byte} {parse : List Byte → Option α} {bad : State → ReplyFields}
    {serve : α → State → State × Reply} (hserve : ∀ a s, Turns s (serve a s).1) {s t : State}
    (h : request kind parse bad serve s = .next t) : Turns s t := by
  have hanswer : ∀ (f : Frame) (u : State) (r : Reply), Turns s.taken u → answered f u r = .next t → Turns s t := by
    intro f u r hu ha
    cases ha
    refine .trans (.of_bays (by simp)) (hu.trans (.of_bays ?_))
    split <;> simp
  rcases request_cases kind parse bad serve s with h' | ⟨f, -, ⟨a, -, h'⟩ | ⟨-, h'⟩⟩
  · rw [h'] at h
    cases h
    exact .refl s
  · rw [h'] at h
    exact hanswer f _ _ (hserve ..) h
  · rw [h'] at h
    exact hanswer f _ _ (.refl _) h


/-- R101: a TALLY frame taken. -/
theorem tally_turns {s t : State} (h : execTally s = .next t) : Turns s t := by
  unfold execTally at h
  split at h
  · split at h
    · refine event_turns h fun _ => .trans (.of_bays (by simp) : Turns s s.popYard) ?_
      split
      · exact turns_takeTally ..
      · exact .refl _
    · cases h; exact .refl s
  · cases h; exact .refl s

/-- R110: a VALVE STATUS frame taken. -/
theorem valveStatus_turns {s t : State} (h : execValveStatus s = .next t) : Turns s t := by
  unfold execValveStatus at h
  split at h
  · split at h
    · refine event_turns h fun _ => .trans (.of_bays (by simp) : Turns s s.popYard) ?_
      split
      · exact turns_takeValve ..
      · exact .refl _
    · cases h; exact .refl s
  · cases h; exact .refl s

/-- R80, R84: the arm and the close timer's expiry complete the issue. -/
theorem armTimer_turns {b : BayId} {s t : State} (h : execArmTimerExpiry b s = .next t) : Turns s t := by
  refine event_turns h fun ho => turns_complete _ (.inl ?_)
  simp only [Bool.and_eq_true, beq_iff_eq] at ho
  exact ho.1.2

theorem closeTimer_turns {b : BayId} {s t : State} (h : execCloseTimerExpiry b s = .next t) : Turns s t := by
  refine event_turns h fun ho => ?_
  simp only [Bool.and_eq_true, beq_iff_eq] at ho
  obtain ⟨⟨-, hclosing⟩, -⟩ := ho
  unfold State.closeExpires
  have hstance : stance (if (s.bay b).shutSeen then s.bay b else (s.bay b).setValve) = stance (s.bay b) := by
    split <;> rfl
  exact turns_setBay_complete _ hstance (.inr ((congrArg Stance.state hstance).trans hclosing))

/-- R88: the drain timer's expiry. -/
theorem drainTimer_turns {b : BayId} {s t : State} (h : execDrainTimerExpiry b s = .next t) : Turns s t := by
  refine event_turns h fun ho => turns_setBay (.idle ?_)
  simp only [Bool.and_eq_true, beq_iff_eq] at ho
  rw [ho.1.2]
  rfl

/-- R165, R166: frames passed on or dropped leave the bays. -/
theorem forward_bays (s : State) (f : Frame) :
    (s.popYard.forwardToTrunk f).bays = s.bays ∧ (s.popTrunk.passFromTrunk f).bays = s.bays := by
  refine ⟨by simp, ?_⟩
  unfold State.passFromTrunk
  repeat' split
  all_goals simp

theorem stationData_turns {s t : State} (h : execStationData s = .next t) : Turns s t := by
  unfold execStationData at h
  split at h
  · exact event_turns h fun _ => .of_bays (by split <;> simp)
  · cases h; exact .refl s

theorem passThrough_turns {p : PortId} {s t : State} (h : execPassThrough p s = .next t) : Turns s t := by
  unfold execPassThrough at h
  repeat' split at h
  · exact event_turns h fun _ => .of_bays (forward_bays s _).1
  · cases h; exact .refl s
  · exact event_turns h fun _ => .of_bays (forward_bays s _).2
  · cases h; exact .refl s

theorem frameDrop_turns {p : PortId} {s t : State} (h : execFrameDrop p s = .next t) : Turns s t := by
  unfold execFrameDrop at h
  repeat' split at h
  · exact event_turns h fun _ => .of_bays (by simp)
  · cases h; exact .refl s
  · exact event_turns h fun _ => .of_bays (by simp)
  · cases h; exact .refl s

/-- A port is no bay. -/
theorem setPort_bays (s : State) (p : PortId) (x : Port) : (s.setPort p x).bays = s.bays := by cases p <;> rfl

/-- R161: what a receiver does leaves the bays. -/
theorem frameEnds_bays (s : State) (p : PortId) (e : RxEnd) : (s.frameEnds p e).bays = s.bays := by
  unfold State.frameEnds State.placeFrame
  repeat' split
  all_goals simp [setPort_bays]

theorem receiveChar_bays (p : PortId) (s : State) (c : RxChar) : (State.receiveChar p s c).bays = s.bays := by
  unfold State.receiveChar
  dsimp only
  split <;> simp [frameEnds_bays, setPort_bays]

/-- R162: the last character of a frame leaves the bays. -/
theorem lastCharacter_bays (s : State) (p : PortId) : (s.lastCharacter p).bays = s.bays := by
  unfold State.lastCharacter
  repeat' (first | split | dsimp only)
  all_goals simp [setPort_bays]

theorem transmitFrame_turns {p : PortId} {part : SendPart} {s t : State} (h : execTransmitFrame p part s = .next t) :
    Turns s t := by
  unfold execTransmitFrame at h
  cases part with
  | take => exact event_turns h fun _ => turns_takeNext ..
  | last => exact event_turns h fun _ => .of_bays (lastCharacter_bays ..)

/-- R117, R122: the events of the probe bus. -/
theorem ackError_turns {phase : AckPhase} {s t : State} (h : execAckError phase s = .next t) : Turns s t := by
  unfold execAckError at h
  split at h
  · exact event_turns h fun _ => turns_ackFails ..
  · cases h; exact .refl s

theorem retryWait_turns {s t : State} (h : execRetryWaitExpiry s = .next t) : Turns s t := by
  unfold execRetryWaitExpiry at h
  split at h
  · exact event_turns h fun _ => .of_bays (by simp [State.beginRetry])
  · cases h; exact .refl s

theorem censusTransaction_turns {d : ReadingBlock} {s t : State} (h : execCensusTransaction d s = .next t) : Turns s t := by
  unfold execCensusTransaction at h
  split at h
  · exact event_turns h fun _ => .trans (.of_bays (by simp)) (turns_handOff (s.drive (completionActs _)) _ _ _)
  · cases h; exact .refl s

theorem windowExpires_bays (s : State) (t : TankId) : (s.windowExpires t).bays = s.bays := by
  unfold State.windowExpires State.closeDelivery
  split <;> simp

theorem powerLoss_turns {s t : State} (h : execMainPowerLoss s = .next t ∨ execBackupSupplyLoss s = .next t) : Turns s t := by
  unfold execMainPowerLoss execBackupSupplyLoss at h
  rcases h with h | h <;> split at h <;> cases h <;> exact .of_bays rfl

/-- R82: the no-flow and the gap timer's expiry close an open bay. -/
theorem openTimer_turns {b : BayId} {s t : State}
    (h : execNoFlowTimerExpiry b s = .next t ∨ execGapTimerExpiry b s = .next t) : Turns s t := by
  rcases h with h | h <;> exact event_turns h fun _ => turns_setBay (.closing ..)

/-- R161: the events of a receiver. -/
theorem frameReceive_turns {p : PortId} {cs : List RxChar} {s t : State} (h : execFrameReceive p cs s = .next t) :
    Turns s t :=
  event_turns h fun _ => .foldl (fun u c => .of_bays (receiveChar_bays p u c)) cs s

theorem startCharacter_turns {p : PortId} {e : Bool} {s t : State} (h : execStartCharacter p e s = .next t) :
    Turns s t :=
  event_turns h fun _ => .of_bays (receiveChar_bays ..)

theorem gapTimeout_turns {p : PortId} {s t : State} (h : execCharacterGapTimeout p s = .next t) : Turns s t :=
  event_turns h fun _ => .of_bays ((frameEnds_bays ..).trans (setPort_bays ..))

theorem rateSettingApplied_turns {p : PortId} {s t : State} (h : execRateSettingApplied p s = .next t) : Turns s t :=
  event_turns h fun _ => .of_bays (by cases p <;> rfl)

/-- R123, R144: the timers of a tank. -/
theorem tankTimer_turns {k : TankId} {s t : State}
    (h : execSettleTimerExpiry k s = .next t ∨ execWindowTimerExpiry k s = .next t) : Turns s t := by
  rcases h with h | h
  · exact event_turns h fun _ => .of_bays rfl
  · exact event_turns h fun _ => .of_bays (windowExpires_bays ..)

/-- A request whose owner leaves the bays. -/
theorem request_keeps_bays {α : Type} {kind : Byte} {parse : List Byte → Option α} {bad : State → ReplyFields}
    {serve : α → State → State × Reply} (hserve : ∀ a s, (serve a s).1.bays = s.bays) {s t : State}
    (h : request kind parse bad serve s = .next t) : Turns s t :=
  request_turns (fun a s => .of_bays (hserve a s)) h

/-- R125: a piece of a strapping table is the tank's. -/
theorem strapSet_bays (r : StrapSetReq) (s : State) : (strapSet r s).1.bays = s.bays := by
  unfold strapSet State.loadStrap
  split
  · dsimp only
    split
    · rfl
    split
    · rfl
    · split <;> rfl
  all_goals rfl

/-- Every command but a start makes such changes. -/
theorem exec_turns {c : Instr} {s t : State} (cold : ∀ x, c ≠ .coldStart x) (warm : ∀ w, c ≠ .warmStart w)
    (h : exec c s = .next t) : Turns s t := by
  cases c with
  | coldStart straps => exact absurd rfl (cold straps)
  | warmStart start => exact absurd rfl (warm start)
  | mainPowerLoss => exact powerLoss_turns (.inl h)
  | podClockTick => exact event_turns h fun _ => (turns_elapse ..).trans (.of_bays rfl)
  | frameReceive port chars => exact frameReceive_turns h
  | characterGapTimeout port => exact gapTimeout_turns h
  | rateSettingApplied port => exact rateSettingApplied_turns h
  | transmitFrame port part => exact transmitFrame_turns h
  | tag => exact tag_turns h
  | tally => exact tally_turns h
  | valveStatus => exact valveStatus_turns h
  | stationData => exact stationData_turns h
  | passThrough port => exact passThrough_turns h
  | frameDrop port => exact frameDrop_turns h
  | armTimerExpiry bay => exact armTimer_turns h
  | noFlowTimerExpiry bay => exact openTimer_turns (.inl h)
  | gapTimerExpiry bay => exact openTimer_turns (.inr h)
  | closeTimerExpiry bay => exact closeTimer_turns h
  | drainTimerExpiry bay => exact drainTimer_turns h
  | censusTimerExpiry => exact event_turns h fun _ => .of_bays (by simp [State.censusTimerExpires])
  | settleTimerExpiry tank => exact tankTimer_turns (.inl h)
  | windowTimerExpiry tank => exact tankTimer_turns (.inr h)
  | watchDelayTimerExpiry => exact event_turns h fun _ => .of_bays (by simp [State.enterWatch])
  | retryWaitExpiry => exact retryWait_turns h
  | ackError phase => exact ackError_turns h
  | censusTransaction data => exact censusTransaction_turns h
  | fleetPut => exact request_keeps_bays (fun r u => by unfold fleetPut; (repeat' split) <;> simp) h
  | fleetDelete => exact request_keeps_bays (fun r u => by unfold fleetDelete; (repeat' split) <;> simp) h
  | classSet => exact request_keeps_bays (fun r u => by unfold classSet; split <;> rfl) h
  | baySet => exact request_turns turns_baySet h
  | tankSet => exact request_keeps_bays (fun r u => by unfold tankSet; (repeat' split) <;> simp) h
  | strapSet => exact request_keeps_bays strapSet_bays h
  | podSet => exact request_keeps_bays (fun r u => by simp [podSet, State.applyPodSettings]) h
  | podStart => exact request_keeps_bays (fun r u => by unfold podStart; (repeat' split) <;> simp) h
  | podSuspend => exact request_turns turns_podSuspend h
  | podResume => exact request_keeps_bays (fun r u => by unfold podResume; split <;> simp) h
  | podReset => exact request_keeps_bays (fun _ _ => rfl) h
  | timeSet => exact request_keeps_bays (fun _ _ => rfl) h
  | shiftRoll => exact request_keeps_bays (fun _ _ => rfl) h
  | bayStop => exact request_turns turns_bayStop h
  | bayRelease => exact request_turns turns_bayRelease h
  | serviceDone => exact request_keeps_bays (fun r u => by unfold serviceDone; (repeat' split) <;> simp) h
  | tankClear => exact request_keeps_bays (fun r u => by unfold tankClear; split <;> simp) h
  | stockSet => exact request_keeps_bays (fun r u => by unfold stockSet State.setStock; (repeat' split) <;> simp) h
  | deliveryOpen => exact request_keeps_bays (fun r u => by unfold deliveryOpen; (repeat' split) <;> simp) h
  | deliveryClose => exact request_keeps_bays (fun r u => by unfold deliveryClose State.closeDelivery; (repeat' split) <;> simp) h
  | deliveryAbort => exact request_keeps_bays (fun r u => by unfold deliveryAbort; (repeat' split) <;> simp) h
  | censusNow => exact request_keeps_bays (fun r u => by unfold censusNow; split <;> simp) h
  | journalLayout => exact request_keeps_bays (fun r u => by unfold journalLayout; split <;> simp) h
  | journalRelease => exact request_keeps_bays (fun r u => by unfold journalRelease; split <;> simp) h
  | linkClear => exact request_keeps_bays (fun _ _ => rfl) h
  | podStatus => exact request_keeps_bays (fun _ _ => rfl) h
  | bayStatus => exact request_keeps_bays (fun r u => by unfold bayStatus; split <;> rfl) h
  | tankStatus => exact request_keeps_bays (fun r u => by unfold tankStatus; split <;> rfl) h
  | fleetGet => exact request_keeps_bays (fun _ _ => rfl) h
  | fleetNext => exact request_keeps_bays (fun _ _ => rfl) h
  | journalRead => exact request_keeps_bays (fun r u => by unfold journalRead; split <;> rfl) h
  | linkStatus => exact request_keeps_bays (fun _ _ => rfl) h
  | backupSupplyLoss => exact powerLoss_turns (.inr h)
  | startCharacter port parityError => exact startCharacter_turns h

/-! ## Bays treated one after another -/

/-- One bay treated: its issue completed with a cause, where it is one of those to end, or the bay changed. -/
def treat (c : CloseCause) (ends : Bay → Bool) (other : Bay → Bay) (s : State) (b : BayId) : State :=
  if ends (s.bay b) then s.complete b c else s.setBay b (other (s.bay b))

/-- What such a treatment makes of the bay. -/
def treated (c : CloseCause) (ends : Bay → Bool) (other : Bay → Bay) (y : Bay) : Bay :=
  if ends y then (y.ended c).movedOn c else other y

theorem setBay_self (s : State) (b : BayId) : s.setBay b (s.bay b) = s := by cases b <;> rfl

/-- What a warm start makes of a bay that ends no issue (R99). -/
def redrained (y : Bay) : Bay := if y.state = .draining then y.toDraining else y

/-- R99: a warm start treats the bays. -/
theorem restartBay_eq (s : State) (b : BayId) :
    s.restartBay b = treat .interrupted (·.state.active) redrained s b := by
  unfold State.restartBay treat redrained
  dsimp only
  split
  · rfl
  · split
    · rfl
    · rw [setBay_self]

/-- What ending an issue from outside makes of a bay that is not GRANTED (R82). -/
def closedIfOpen (c : CloseCause) (y : Bay) : Bay := if y.state.valveOpen then y.toClosing c else y

/-- R80, R82, R176: ending issues from outside treats the bays. -/
theorem endIssue_eq (s : State) (c : CloseCause) (b : BayId) :
    s.endIssue c b = treat c (·.state == .granted) (closedIfOpen c) s b := by
  unfold treat closedIfOpen
  by_cases hg : (s.bay b).state = .granted
  · simp [hg, endIssue_granted c hg]
  · by_cases ho : (s.bay b).state.valveOpen = true
    · simp [hg, ho, endIssue_open c ho]
    · rw [endIssue_other c hg (Bool.eq_false_iff.2 ho)]
      simp [hg, ho, setBay_self]

section
variable (c : CloseCause) (ends : Bay → Bool) (other : Bay → Bay)

theorem treat_bay_same (s : State) (b : BayId) : (treat c ends other s b).bay b = treated c ends other (s.bay b) := by
  unfold treat treated
  split
  · rw [State.complete_bay_same]
  · rw [State.bay_setBay_same]

theorem treat_bay_other (s : State) {b k : BayId} (h : k ≠ b) : (treat c ends other s b).bay k = s.bay k := by
  unfold treat
  split
  · rw [State.complete_bay_other _ _ _ _ h]
  · rw [State.bay_setBay_other _ _ _ _ h]

/-- Each bay of the list is treated once, as it stood; the others stay. -/
theorem foldl_treat_bay {l : List BayId} (hl : l.Nodup) (s : State) (b : BayId) :
    (l.foldl (treat c ends other) s).bay b = if b ∈ l then treated c ends other (s.bay b) else s.bay b := by
  induction l generalizing s with
  | nil => rfl
  | cons a l ih =>
    obtain ⟨ha, hl⟩ := List.nodup_cons.1 hl
    rw [List.foldl_cons, ih hl]
    by_cases hb : b = a
    · subst hb
      simp [ha, treat_bay_same]
    · simp [hb, treat_bay_other]

/-- The state s with all that completions change as t has it. -/
def issueParts (s t : State) : State :=
  { s with
    bays := t.bays, fleet := t.fleet, journal := t.journal, probe := { s.probe with tanks := t.probe.tanks }
    yard := { s.yard with tx := t.yard.tx } }

theorem treat_changes (s : State) (b : BayId) : treat c ends other s b = issueParts s (treat c ends other s b) := by
  unfold treat
  split
  · exact complete_changes s b c
  · rfl

theorem foldl_treat_changes (l : List BayId) (s : State) :
    l.foldl (treat c ends other) s = issueParts s (l.foldl (treat c ends other) s) := by
  induction l generalizing s with
  | nil => rfl
  | cons a l ih =>
    rw [List.foldl_cons]
    generalize ht : l.foldl (treat c ends other) (treat c ends other s a) = t
    have hrest : t = issueParts (treat c ends other s a) t := ht ▸ ih _
    have hfirst := congrArg (issueParts · t) (treat_changes c ends other s a)
    exact hrest.trans hfirst

/-- R86, R99: completions with INTERRUPTED send no notice. -/
theorem foldl_treat_interrupted (l : List BayId) (s : State) :
    (l.foldl (treat .interrupted ends other) s).yard = s.yard := by
  induction l generalizing s with
  | nil => rfl
  | cons a l ih =>
    rw [List.foldl_cons, ih]
    unfold treat
    split
    · obtain ⟨-, -, hyard⟩ := State.complete_yard s a .interrupted
      simp [hyard]
    · rfl

/-- The SERVICE events of a charge are the vehicle's (R40, R49). -/
theorem chargeIssue_services {limp : Bool} {net : Nat} {finish : Stamp} {v : Vehicle} {e : EventKind}
    (h : e ∈ (v.chargeIssue limp net finish).2) : ∃ code st, e = .service v.tag code st := by
  let v1 : Vehicle := { v with limpUsed := v.limpUsed || (limp && Config.limpUseCl ≤ net) }
  have hevents := (decrementCounters_counters .fuel net v1.tag [] v1.limpUsed v1.counters).2
  have h : e ∈ (decrementCounters .fuel net v1.tag [] v1.limpUsed v1.counters).2.2 := h
  rw [hevents] at h
  obtain ⟨k, -, hk⟩ := List.mem_flatMap.1 h
  split at hk
  · exact ⟨_, _, List.mem_singleton.1 hk⟩
  · cases hk

/-- What completions at the bays of a list, of issues as state s has them, make of its journal: t's. `new` are their
records, `ks` their events, both in the list's order. -/
structure Recorded (l : List BayId) (s t : State) (new : List IssueRecord) (ks : List EventKind) : Prop where
  span : t.journal.issueSpan = s.journal.issueSpan
  reservations : t.journal.reservations = s.journal.reservations - new.length
  records : t.journal.issues.records = s.journal.issues.records ++ new
  bays : new.map (·.bay) = l.filter (fun b => ends (s.bay b))
  each : ∀ r ∈ new, r = { issueRecord r.bay c ((s.bay r.bay).finish c) s.stamp with seq := r.seq }
  events : t.journal.events = (s.journalAfter ks).events
  overwrites : t.journal.overwrites = (s.journalAfter ks).overwrites
  kinds : ∀ e ∈ ks, ∃ b ∈ l, ends (s.bay b) = true ∧
    ((∃ code st, e = .service (s.bay b).serving.tag code st) ∨ (c ≠ .interrupted ∧ ∃ q, e = .bayFault b q))

/-- R85, R153: what such a record carries of the issue. -/
theorem Recorded.fields {c : CloseCause} {ends : Bay → Bool} {l : List BayId} {s t : State} {new : List IssueRecord}
    {ks : List EventKind} (h : Recorded c ends l s t new ks) : ∀ r ∈ new, r.cause = c ∧ r.finish = s.clock ∧
      r.tag = (s.bay r.bay).serving.tag ∧ r.grossCl = clOf (s.bay r.bay).gross ∧ r.netCl = clOf (s.bay r.bay).net ∧
      r.afterRun = ((s.bay r.bay).finish c).flags.afterRun := by
  intro r hr
  have hr := h.each r hr
  have hgross : ∀ y : Bay, (y.finish c).gross = y.gross ∧ (y.finish c).net = y.net := fun _ => ⟨rfl, rfl⟩
  refine ⟨congrArg IssueRecord.cause hr, congrArg IssueRecord.finish hr, congrArg IssueRecord.tag hr, ?_, ?_,
    congrArg IssueRecord.afterRun hr⟩
  · simpa only [issueRecord, hgross] using congrArg IssueRecord.grossCl hr
  · simpa only [issueRecord, hgross] using congrArg IssueRecord.netCl hr

/-- The events of one completion (R40, R87). -/
theorem complete_logs (s : State) (b : BayId) : ∃ ks, (s.complete b c).journal.events = (s.journalAfter ks).events ∧
    (s.complete b c).journal.overwrites = (s.journalAfter ks).overwrites ∧
    ∀ e ∈ ks, (∃ code st, e = .service (s.bay b).serving.tag code st) ∨ (c ≠ .interrupted ∧ ∃ q, e = .bayFault b q) := by
  obtain ⟨hevents, hoverwrites⟩ := s.complete_events b c
  refine ⟨_, hevents, hoverwrites, fun e he => ?_⟩
  rcases List.mem_append.1 he with he | he
  · left
    split at he
    · cases he
    · rename_i v hv
      obtain ⟨-, htag⟩ := findTag_some hv
      exact htag ▸ chargeIssue_services he
  · right
    unfold Bay.faultEvents at he
    split at he
    · cases he
    · rename_i hc
      split at he
      · exact ⟨hc, _, List.mem_singleton.1 he⟩
      · cases he

theorem complete_span (s : State) (b : BayId) : (s.complete b c).journal.issueSpan = s.journal.issueSpan := by
  unfold State.complete State.chargeVehicle
  simp only [State.moveOn_journal, State.journalAfter_issues, State.startSettle_frame, State.closeNotice_frame]
  split <;> simp [Journal.writeIssue]

/-- Events logged after others, seen from the state before all of them. -/
theorem journalAfter_from {s u : State} {ks : List EventKind} (ls : List EventKind) (hs : u.stamp = s.stamp)
    (he : u.journal.events = (s.journalAfter ks).events) (ho : u.journal.overwrites = (s.journalAfter ks).overwrites)
    (hspan : u.journal.issueSpan = s.journal.issueSpan) :
    (u.journalAfter ls).events = (s.journalAfter (ks ++ ls)).events ∧
      (u.journalAfter ls).overwrites = (s.journalAfter (ks ++ ls)).overwrites := by
  rw [State.journalAfter_append, State.journalAfter, hs]
  exact Journal.logEvents_congr _ ls he ho (hspan.trans (s.journalAfter_issues ks).2.1.symm)

theorem foldl_treat_stamp (l : List BayId) (s : State) : (l.foldl (treat c ends other) s).stamp = s.stamp := by
  rw [foldl_treat_changes]
  rfl

/-- R85, R86: each completion writes its record and logs its events, in the list's order. -/
theorem foldl_treat_recorded {l : List BayId} (hl : l.Nodup) (s : State) :
    ∃ new ks, Recorded c ends l s (l.foldl (treat c ends other) s) new ks := by
  induction l using List.reverseRecOn with
  | nil =>
    exact ⟨[], [], rfl, rfl, by simp, rfl, by simp, rfl, rfl, by simp⟩
  | append_singleton l a ih =>
    have ha : a ∉ l := fun h => (List.nodup_append.1 hl).2.2 a h a (by simp) rfl
    obtain ⟨new, ks, h⟩ := ih (List.nodup_append.1 hl).1
    have hbay : (l.foldl (treat c ends other) s).bay a = s.bay a := by simp [foldl_treat_bay c ends other (List.nodup_append.1 hl).1, ha]
    have hstamp := foldl_treat_stamp c ends other l s
    rw [List.foldl_append, List.foldl_cons, List.foldl_nil]
    generalize l.foldl (treat c ends other) s = u at *
    obtain ⟨span, reservations, records, bays, each, events, overwrites, kinds⟩ := h
    have hkinds : ∀ e ∈ ks, ∃ b ∈ l ++ [a], ends (s.bay b) = true ∧
        ((∃ code st, e = .service (s.bay b).serving.tag code st) ∨ (c ≠ .interrupted ∧ ∃ q, e = .bayFault b q)) := by
      intro e he
      obtain ⟨b, hb, h⟩ := kinds e he
      exact ⟨b, List.mem_append_left _ hb, h⟩
    unfold treat
    rw [hbay]
    split
    · rename_i hends
      obtain ⟨hres, hrec⟩ := u.complete_issues a c
      obtain ⟨ls, hev, hov, hls⟩ := complete_logs c u a
      obtain ⟨hev', hov'⟩ := journalAfter_from ls hstamp events overwrites span
      rw [hbay] at hrec hls
      rw [hstamp] at hrec
      refine ⟨new ++ [_], ks ++ ls, (complete_span c u a).trans span, ?_, by rw [hrec, records, List.append_assoc], ?_, ?_,
        hev.trans hev', hov.trans hov', ?_⟩
      · rw [hres, reservations, List.length_append, List.length_singleton, Nat.sub_sub]
      · simp [bays, hends, issueRecord]
      · intro r hr
        rcases List.mem_append.1 hr with hr | hr
        · exact each r hr
        · rw [List.mem_singleton.1 hr]
          rfl
      · intro e he
        rcases List.mem_append.1 he with he | he
        · exact hkinds e he
        · exact ⟨a, by simp, hends, hls e he⟩
    · rename_i hends
      exact ⟨new, ks, span, reservations, records, by simp [bays, hends], each, events, overwrites, hkinds⟩

end

/-! ## The parts of a warm start -/

/-- R181: the parts of a warm start before the bays are reached. -/
def openingParts (straps : Byte) : List (State → State) :=
  [State.rebuild straps, fun s => s.log .warmStart, State.leaveWatch]

/-- R181: the state once so many of those parts are made. -/
def opening (straps : Byte) (n : Nat) (s : State) : State := s.makeParts ((openingParts straps).take n)

/-- R99, R181: the state once the bays of a list are treated. -/
def restarting (l : List BayId) (s : State) : State := l.foldl (treat .interrupted (·.state.active) redrained) s

/-- R181: the bays that the first n parts of a warm start reach. -/
def reached (n : Nat) : List BayId := bayList.take (n - 3)

theorem mem_reached (n : Nat) (b : BayId) : b ∈ reached n ↔ bayNumber b + 3 ≤ n := by
  unfold reached
  rcases n with _ | _ | _ | _ | _ | _ | _ | n
  all_goals cases b <;> simp [bayList, bayNumber]

theorem reached_nodup (n : Nat) : (reached n).Nodup := by
  unfold reached
  exact (by decide : bayList.Nodup).sublist (List.take_sublist ..)

/-- R181: the parts of a warm start, so many of them made. -/
theorem makeParts_warm (straps : Byte) (n : Nat) (s : State) :
    s.makeParts ((warmParts straps).take n) =
      if 8 ≤ n then (restarting (reached n) (opening straps n s)).mapBays (Bay.order .shut)
      else restarting (reached n) (opening straps n s) := by
  have hbays : ∀ (l : List BayId) (u : State), u.makeParts (l.map fun b s => s.restartBay b) = restarting l u := by
    intro l u
    simp only [State.makeParts, List.foldl_map, restartBay_eq]
    rfl
  have hparts : warmParts straps = openingParts straps ++ (bayList.map fun b s => s.restartBay b) ++
      [fun s => s.mapBays (Bay.order .shut)] := rfl
  rw [hparts, List.take_append, List.take_append, State.makeParts_append, State.makeParts_append, ← List.map_take, hbays]
  show (restarting (reached n) (opening straps n s)).makeParts (List.take (n - 7) _) = _
  split
  · rw [List.take_of_length_le (by simp; omega)]
    rfl
  · rw [show n - 7 = 0 by omega]
    rfl

/-- R181: what those parts leave of the state. -/
theorem opening_keeps (straps : Byte) (n : Nat) (s : State) :
    (opening straps n s).bays = s.bays ∧ (opening straps n s).fleet = s.fleet ∧ (opening straps n s).tanks = s.tanks ∧
    (opening straps n s).pending = s.pending ∧ (opening straps n s).clock = s.clock ∧
    (opening straps n s).clockSet = s.clockSet ∧ (opening straps n s).podSettings = s.podSettings ∧
    (opening straps n s).classes = s.classes ∧ (opening straps n s).retentionMark = s.retentionMark := by
  unfold opening openingParts State.leaveWatch
  rcases n with _ | _ | _ | n
  · simp [State.makeParts]
  · simp [State.makeParts, State.rebuild]
  · simp [State.makeParts, State.rebuild]
  · simp only [List.take_succ_cons, List.take_nil, State.makeParts, List.foldl_cons, List.foldl_nil]
    split <;> simp [State.rebuild]

theorem opening_bay (straps : Byte) (n : Nat) (s : State) (b : BayId) : (opening straps n s).bay b = s.bay b :=
  State.bay_congr (opening_keeps straps n s).1 b

/-- R99: a bay as a warm start leaves it when it reaches it. -/
def restarted (y : Bay) : Bay := treated .interrupted (·.state.active) redrained y

/-- R99: a bay that was active or drained goes to DRAINING, or to IDLE with a drain time of 0; another stays. -/
theorem restarted_state (y : Bay) : (restarted y).state =
    if y.state.active = true ∨ y.state = .draining then (if y.settings.drainTime = 0 then .idle else .draining)
    else y.state := by
  unfold restarted treated redrained
  by_cases ha : y.state.active = true
  · simp only [ha, if_true, true_or]
    exact Bay.toDraining_state _
  · by_cases hd : y.state = .draining
    · simp [hd, BayState.active, Bay.toDraining_state]
    · simp [ha, hd]

/-- R77, R99: a bay that is reached keeps the timers of its state. -/
theorem restarted_timers {y : Bay} (h : y.timersLawful) : (restarted y).timersLawful := by
  unfold restarted treated redrained
  split
  · exact toDraining_timers _
  · split
    · exact toDraining_timers _
    · exact h

/-- R99: a bay that is reached stands in DRAINING or IDLE, or it was not active and stays as it was. -/
theorem restarted_cases (y : Bay) : (restarted y).state = .draining ∨ (restarted y).state = .idle ∨
    (restarted y = y ∧ y.state.active = false) := by
  by_cases hends : y.state.active = true ∨ y.state = .draining
  · rw [restarted_state, if_pos hends]
    split <;> simp
  · obtain ⟨ha, hd⟩ := not_or.1 hends
    exact .inr (.inr ⟨by simp [restarted, treated, redrained, ha, hd], Bool.eq_false_iff.2 ha⟩)

/-- R94: SHUT is the order of every state that is not active. -/
theorem orderFor_inactive {st : BayState} (h : st.active = false) : orderFor st = .shut := by
  cases st <;> simp_all [BayState.active, orderFor]

/-- R94, R99: the order of the state of a bay that is reached is SHUT. -/
theorem restarted_shut (y : Bay) : orderFor (restarted y).state = .shut := by
  rcases restarted_cases y with h | h | ⟨h, hinactive⟩
  · rw [h]; rfl
  · rw [h]; rfl
  · rw [h, orderFor_inactive hinactive]

/-- The bays once so many parts of a warm start are made. -/
theorem warm_bay (straps : Byte) (n : Nat) (s : State) (b : BayId) :
    (s.makeParts ((warmParts straps).take n)).bay b =
      if 8 ≤ n then (restarted (s.bay b)).order .shut
      else if bayNumber b + 3 ≤ n then restarted (s.bay b) else s.bay b := by
  have hbay : (restarting (reached n) (opening straps n s)).bay b =
      if bayNumber b + 3 ≤ n then restarted (s.bay b) else s.bay b := by
    unfold restarting
    rw [foldl_treat_bay _ _ _ (reached_nodup n), opening_bay]
    simp only [mem_reached]
    rfl
  rw [makeParts_warm]
  split
  · have := bayNumber_range b
    rw [if_pos (by omega)] at hbay
    simpa [State.mapBays, State.bay] using congrArg (Bay.order .shut) hbay
  · exact hbay

/-- R129: the Probe Bus Controller's part leaves the bays. -/
theorem restartProbe_bays (s : State) : s.restartProbe.bays = s.bays := by
  unfold State.restartProbe State.abandonCensus State.restartSettle
  repeat' (first | split | dsimp only)
  all_goals simp

theorem warmStart_bay (straps : Byte) (s : State) (b : BayId) :
    (s.warmStart straps).bay b = (restarted (s.bay b)).order .shut := by
  unfold State.warmStart
  rw [State.bay_congr (restartProbe_bays _), ← List.take_of_length_le (l := warmParts straps) (i := 8) (by simp [warmParts, bayList]),
    warm_bay]
  rfl

/-! ## Orders and timers by state -/

/-- R94, R99: a warm start leaves each bay the order of its state, unless main power is lost before the slots are reached. -/
theorem warmStart_keeps_valveLaw {w : StartRun} {s t : State} (hs : ValveLaw s) (h : execWarmStart w s = .next t) :
    ValveLaw t := by
  unfold execWarmStart at h
  split at h
  · rw [event_eq] at h
    cases h
    split
    · intro b
      rw [settled_bay, warmStart_bay]
      exact .inl (restarted_shut _).symm
    · exact hs
  · rename_i n _
    cases h
    split
    · intro b
      have hbay : (s.warmStartCut w.straps n).bay b = (s.makeParts ((warmParts w.straps).take n)).bay b := rfl
      have hsame := (hs b).imp_right fun (h : _ ∧ _) => And.intro (rfl : (s.warmStartCut w.straps n).powered = false) h.2
      rw [hbay, warm_bay]
      split
      · exact .inl (restarted_shut _).symm
      split
      · rcases restarted_cases (s.bay b) with h | h | ⟨h, -⟩
        · exact .inr ⟨rfl, .inl h⟩
        · exact .inr ⟨rfl, .inr h⟩
        · rw [h]
          exact hsame
      · exact hsame
    · exact hs

/-- R77, R99: a warm start leaves each bay the timers of its state. -/
theorem warmStart_keeps_timersLaw {w : StartRun} {s t : State} (hs : TimersLaw s) (h : execWarmStart w s = .next t) :
    TimersLaw t := by
  unfold execWarmStart at h
  split at h
  · rw [event_eq] at h
    cases h
    split
    · intro b
      rw [settled_bay, warmStart_bay]
      exact restarted_timers (hs b)
    · exact hs
  · rename_i n _
    cases h
    split
    · intro b
      have hbay : (s.warmStartCut w.straps n).bay b = (s.makeParts ((warmParts w.straps).take n)).bay b := rfl
      rw [hbay, warm_bay]
      split
      · exact restarted_timers (hs b)
      split
      · exact restarted_timers (hs b)
      · exact hs b
    · exact hs

/-- R98: a cold start leaves each bay SHUT and without a timer. -/
theorem coldStart_laws {x : Byte} {s t : State} (h : execColdStart x s = .next t) :
    (ValveLaw s → ValveLaw t) ∧ (TimersLaw s → TimersLaw t) := by
  obtain ⟨valve, timers⟩ := reset_valve_timers
  unfold execColdStart at h
  rw [event_eq, coldStart_settled] at h
  cases h
  split
  · refine ⟨fun _ b => ?_, fun _ => timers⟩
    exact (valve b).imp_right fun h => absurd h.1 (by decide)
  · exact ⟨id, id⟩

/-- R180, R182: no frame may be taken while main power is absent. -/
theorem heads_unpowered {s : State} (h : s.powered = false) :
    s.yardHead = none ∧ s.trunkHead = none ∧ ∀ kind, s.requestAt kind = none := by
  have htrunk : s.trunkHead = none := by simp [State.trunkHead, h]
  exact ⟨by simp [State.yardHead, h], htrunk, fun kind => by simp [State.requestAt, htrunk]⟩

/-- R180: while main power is absent no command but a start and the loss of the backup supply does anything. -/
theorem exec_unpowered {c : Instr} {s : State} (h : s.powered = false) (cold : ∀ x, c ≠ .coldStart x)
    (warm : ∀ w, c ≠ .warmStart w) (backup : c ≠ .backupSupplyLoss) : exec c s = .next s := by
  obtain ⟨hyard, htrunk, hrequest⟩ := heads_unpowered h
  cases c with
  | coldStart straps => exact absurd rfl (cold straps)
  | warmStart start => exact absurd rfl (warm start)
  | backupSupplyLoss => exact absurd rfl backup
  | mainPowerLoss => simp [exec, execMainPowerLoss, h]
  | podClockTick => simp [exec, execPodClockTick, event, h]
  | frameReceive => simp [exec, execFrameReceive, event, h]
  | startCharacter => simp [exec, execStartCharacter, event, h]
  | characterGapTimeout => simp [exec, execCharacterGapTimeout, event, h]
  | rateSettingApplied => simp [exec, execRateSettingApplied, event, h]
  | transmitFrame port part => cases part <;> simp [exec, execTransmitFrame, event, h]
  | tag => simp [exec, execTag, hyard]
  | tally => simp [exec, execTally, hyard]
  | valveStatus => simp [exec, execValveStatus, hyard]
  | stationData => simp [exec, execStationData, hyard]
  | passThrough port => cases port <;> simp [exec, execPassThrough, hyard, htrunk]
  | frameDrop port => cases port <;> simp [exec, execFrameDrop, hyard, htrunk]
  | armTimerExpiry => simp [exec, execArmTimerExpiry, event, h]
  | noFlowTimerExpiry => simp [exec, execNoFlowTimerExpiry, event, h]
  | gapTimerExpiry => simp [exec, execGapTimerExpiry, event, h]
  | closeTimerExpiry => simp [exec, execCloseTimerExpiry, event, h]
  | drainTimerExpiry => simp [exec, execDrainTimerExpiry, event, h]
  | censusTimerExpiry => simp [exec, execCensusTimerExpiry, event, h]
  | settleTimerExpiry => simp [exec, execSettleTimerExpiry, event, h]
  | windowTimerExpiry => simp [exec, execWindowTimerExpiry, event, h]
  | watchDelayTimerExpiry => simp [exec, execWatchDelayTimerExpiry, event, h]
  | retryWaitExpiry =>
    simp only [exec, execRetryWaitExpiry]
    split <;> simp [event, h]
  | ackError =>
    simp only [exec, execAckError]
    split <;> simp [event, h]
  | censusTransaction =>
    simp only [exec, execCensusTransaction]
    split <;> simp [event, h]
  | _ => exact request_absent (hrequest _)

/-- R94: every command keeps the orders of the bays. -/
theorem exec_keeps_valveLaw (c : Instr) {s t : State} (hs : ValveLaw s) (h : exec c s = .next t) : ValveLaw t := by
  by_cases cold : ∃ x, c = .coldStart x
  · obtain ⟨x, rfl⟩ := cold
    exact (coldStart_laws h).1 hs
  by_cases warm : ∃ w, c = .warmStart w
  · obtain ⟨w, rfl⟩ := warm
    exact warmStart_keeps_valveLaw hs h
  cases hpower : s.powered with
  | true =>
    have hordered : ∀ b, Ordered (s.bay b) := fun b => (hs b).resolve_right fun h => by simp [hpower] at h
    exact fun b => .inl (((exec_turns (not_exists.1 cold) (not_exists.1 warm) h).bay b).keeps_order (hordered b))
  | false =>
    by_cases backup : c = .backupSupplyLoss
    · subst backup
      simp only [exec, execBackupSupplyLoss, hpower] at h
      cases h
      exact fun b => (hs b).imp_right fun ⟨_, hstate⟩ => ⟨rfl, hstate⟩
    · rw [exec_unpowered hpower (not_exists.1 cold) (not_exists.1 warm) backup] at h
      cases h
      exact hs

/-- R77: every command keeps the timers of the bays. -/
theorem exec_keeps_timersLaw (c : Instr) {s t : State} (hs : TimersLaw s) (h : exec c s = .next t) : TimersLaw t := by
  by_cases cold : ∃ x, c = .coldStart x
  · obtain ⟨x, rfl⟩ := cold
    exact (coldStart_laws h).2 hs
  by_cases warm : ∃ w, c = .warmStart w
  · obtain ⟨w, rfl⟩ := warm
    exact warmStart_keeps_timersLaw hs h
  exact fun b => ((exec_turns (not_exists.1 cold) (not_exists.1 warm) h).bay b).keeps_timers (hs b)

/-- A millisecond that passes keeps the orders, which the part without power leaves as they are. -/
theorem idleStep_keeps_valveLaw {s : State} (hs : ValveLaw s) : ValveLaw s.idleStep := by
  cases hpower : s.powered with
  | true =>
    have hordered : ∀ b, Ordered (s.bay b) := fun b => (hs b).resolve_right fun h => by simp [hpower] at h
    exact fun b => .inl (((turns_idleStep s).bay b).keeps_order (hordered b))
  | false => simpa [State.idleStep, hpower] using hs

/-- Settles O11: every change of a bay orders what its new state asks for, or keeps SHUT between two states that ask for it;
and each timer starts as its state is entered and stops as it is left (R77, R94, R181). -/
theorem valveOrderAndTimersFollowBayState : Obligations.ValveOrderAndTimersFollowBayState := by
  refine ⟨fun s t hs h => ?_, fun s t hs h => ?_⟩
  · unfold step at h
    split at h
    · refine exec_keeps_valveLaw _ ?_ h
      exact hs
    · cases h
      exact idleStep_keeps_valveLaw hs
  · unfold step at h
    split at h
    · refine exec_keeps_timersLaw _ ?_ h
      exact hs
    · cases h
      exact fun b => ((turns_idleStep s).bay b).keeps_timers (hs b)

/-! ## BAY SET -/

theorem outsideNat_iff (lo hi n : Nat) : outsideNat lo hi n = true ↔ n < lo ∨ hi < n := by simp [outsideNat]

/-- R75, R76: CLAMPED goes by the ranges. -/
theorem baySet_clamps_iff (r : BaySetReq) : r.clamps = true ↔
    r.meterFactor < 1000 ∨ 1000000 < r.meterFactor ∨ r.maxFlow < 10 ∨ 1500 < r.maxFlow ∨ 500 < r.slowBand ∨
      2000 < r.closeLead ∨ r.armTime < 10 ∨ 300 < r.armTime ∨ r.noFlowTime < 2 ∨ 60 < r.noFlowTime ∨ r.gapTime < 1 ∨
      10 < r.gapTime ∨ r.closeTime < 2 ∨ 30 < r.closeTime ∨ 60 < r.drainTime ∨ r.afterRunLimit < 1 ∨
      200 < r.afterRunLimit := by
  simp only [BaySetReq.clamps, Bool.or_eq_true, outsideNat_iff, Nat.not_lt_zero, false_or, or_assoc]

/-- R76: the state table, and what entry to DISABLED orders. -/
theorem configure_table (k : BaySettings) {y : Bay} (hactive : y.state.active = false) (hdraining : y.state ≠ .draining) :
    (y.configure k).settings = k ∧
    (y.configure k).state = (if k.enabled then (if y.state = .faulted then .faulted else .idle) else .disabled) ∧
    (y.configure k).slot = (if !k.enabled ∧ y.state ≠ .disabled then { order := .shut, pending := true } else y.slot) ∧
    y.configure k = { y with
      settings := (y.configure k).settings, state := (y.configure k).state, slot := (y.configure k).slot
      armTimer := (y.configure k).armTimer, noFlowTimer := (y.configure k).noFlowTimer
      gapTimer := (y.configure k).gapTimer, closeTimer := (y.configure k).closeTimer
      drainTimer := (y.configure k).drainTimer } := by
  unfold Bay.configure
  cases hs : y.state with
  | granted | flowing | trimming | closing => simp [hs, BayState.active] at hactive
  | draining => exact absurd hs hdraining
  | disabled | idle | faulted => cases k.enabled <;> simp [Bay.enter, Bay.order]

/-- R76: a BAY SET whose fields name a bay, a tank and an enabled setting is refused with BUSY or stored. -/
theorem baySet_eq {r : BaySetReq} {b : BayId} {k : TankId} (hb : bayOf r.bay = some b) (hk : tankOf r.tank = some k)
    (he : r.enabled ≤ 1) (s : State) : baySet r s =
      if (s.bay b).state.active = true ∨ (s.bay b).state = .draining then (s, .refuse .busy)
      else
        let y := (s.bay b).configure (r.settings (decide (r.enabled = 1)) k)
        (s.setBay b y, .okClamped r.clamps (.baySettings b y.settings y.state)) := by
  simp [baySet, hb, hk, yesNo_eq, he, BayState.refusesSet]

/-- Settles O41: BAY SET is refused by its fields, then by the bay's state, and is stored otherwise (R75, R76). -/
theorem baySetReplacesSettingsByState : Obligations.BaySetReplacesSettingsByState := by
  intro s f r hf hr
  have hanswer : exec .baySet s = answered f (baySet r s.taken).1 (baySet r s.taken).2 := request_served hf hr
  rw [hanswer]
  refine ⟨fun hbad => ?_, fun b k hb hk he => ?_⟩
  · have hinvalid : baySet r s.taken = (s.taken, .refuse .invalid) := by
      unfold baySet
      rcases hbad with h | h | h
      · simp [h]
      · simp [h]
      · simp [yesNo_eq, Nat.not_le.2 h]
    rw [hinvalid]
    rfl
  rw [baySet_eq hb hk he, taken_bay]
  refine ⟨fun hbusy => ?_, fun hactive hdraining => ?_⟩
  · rw [if_pos hbusy]
    rfl
  rw [if_neg (by simp [hactive, hdraining])]
  obtain ⟨hsettings, hstate, hslot, hrest⟩ :=
    configure_table (r.settings (decide (r.enabled = 1)) k) hactive hdraining
  refine ⟨_, r.clamps, rfl, baySet_clamps_iff r, hsettings, hstate.trans ?_, hslot.trans ?_, hrest⟩
  all_goals
    rcases Nat.le_one_iff_eq_zero_or_eq_one.1 he with h | h <;> simp [BaySetReq.settings, h]

/-! ## Status -/

theorem taken_tank (s : State) (t : TankId) : s.taken.tank t = s.tank t := State.tank_congr (by simp) t

theorem taken_probeTank (s : State) (t : TankId) : s.taken.probeTank t = s.probeTank t := State.probeTank_congr (by simp) t

/-- R171, R178: the wake logs at most an event, which leaves the reservations. -/
theorem taken_reservations (s : State) : s.taken.journal.reservations = s.journal.reservations := by
  unfold State.taken State.wakeByRequest
  split <;> simp [State.changePod]

/-- R12, R97: the remaining volume is shown of an active bay. -/
theorem report_remaining (y : Bay) : (y.state.active = false → y.report.remainingCl = none) ∧
    ∀ g, y.state.active = true → y.grant = some g →
      y.report.remainingCl = some (convRound ((g.limit : Int) * 1000000 - y.net) 10000) := by
  refine ⟨fun h => by simp [Bay.report, h], fun g h hg => ?_⟩
  simp [Bay.report, h, toCl, Bay.remaining, Bay.serving, hg, remainingVolume]

/-- R147: the census in flight is shown at its own tank. -/
theorem censusOf_iff (s : State) (t : TankId) : s.censusOf t = true ↔ ∃ c, s.probe.inFlight = some c ∧ c.tank = t := by
  unfold State.censusOf
  cases s.probe.inFlight <;> simp

/-- R147: the ullage is the capacity less the book's whole litres, and the capacity where the book is not above 0. -/
theorem ullage_eq (k : Tank) : (k.book ≤ 0 → k.ullage = k.settings.capacity) ∧
    (0 < k.book → k.ullage = k.settings.capacity - (k.book / 1000000).toNat) := by
  refine ⟨fun h => by simp [Tank.ullage, bookLitres, h], fun h => ?_⟩
  simp [Tank.ullage, bookLitres, Int.not_le.2 h]

/-- R147: the tank's report rests on its account and on what the Probe Bus Controller holds. -/
theorem tankReport_taken (s : State) (t : TankId) : s.taken.tankReport t = s.tankReport t := by
  simp [State.tankReport, taken_tank, taken_probeTank, State.censusOf]

/-- Settles O56: the three status requests answer from the state as taken, and change no more of it (R97, R147, R179). -/
theorem statusRequestsReportTheState : Obligations.StatusRequestsReportTheState := by
  refine ⟨fun s f ref n hf hp => ?_, fun s f ref n hf hp => ?_, fun s f ref hf hp => ?_⟩
  · have hanswer : exec .bayStatus s = answered f (bayStatus n.toNat s.taken).1 (bayStatus n.toNat s.taken).2 :=
      request_served hf (by rw [hp]; exact parseOne_byte n)
    rw [hanswer]
    refine ⟨fun hb => by simp [bayStatus, hb, refused], fun b hb => ?_⟩
    obtain ⟨hnone, hsome⟩ := report_remaining (s.bay b)
    refine ⟨(s.bay b).report, by simp [bayStatus, hb, taken_bay], ?_⟩
    refine ⟨rfl, rfl, rfl, rfl, rfl, rfl, rfl, rfl, ?_, ?_, ?_, hnone, hsome, rfl, rfl, rfl, rfl, rfl, rfl, ?_, rfl, rfl⟩
    all_goals simp only [Bay.report]
  · have hanswer : exec .tankStatus s = answered f (tankStatus n.toNat s.taken).1 (tankStatus n.toNat s.taken).2 :=
      request_served hf (by rw [hp]; exact parseOne_byte n)
    rw [hanswer]
    refine ⟨fun ht => by simp [tankStatus, ht, refused], fun t ht => ?_⟩
    obtain ⟨hempty, hheld⟩ := ullage_eq (s.tank t)
    refine ⟨s.tankReport t, by simp [tankStatus, ht, tankReport_taken], ?_⟩
    refine ⟨rfl, rfl, rfl, rfl, rfl, rfl, rfl, rfl, rfl, rfl, rfl, rfl, rfl, rfl, rfl, censusOf_iff s t, fun h => ?_,
      fun h => ?_, fun q h => ?_, fun d h => ?_, hempty, hheld⟩
    · simp [State.tankReport, h]
    · simp [State.tankReport, h]
    · simp [State.tankReport, h, CensusResult.report, toCl]
    · simp [State.tankReport, h, Delivery.report]
      rfl
  · have hanswer : exec .podStatus s = answered f s.taken (.okWith (.podReport s.taken.podReport)) :=
      request_served hf (a := ()) (by rw [hp]; rfl)
    rw [hanswer]
    simp [State.podReport, State.tankSummary, taken_tank, taken_probeTank, taken_issues, taken_reservations, PerBay.map]
    rfl

/-! ## Transmitters -/

/-- R95: the pending slot taken is that of the lowest-numbered bay. -/
theorem pendingSlot_first {s : State} {b : BayId} (h : (s.bay b).slot.pending = true)
    (hlow : ∀ c, bayNumber c < bayNumber b → (s.bay c).slot.pending = false) : s.pendingSlot = some b := by
  unfold State.pendingSlot bayList
  cases b with
  | b1 => simp [h]
  | b2 => simp [h, hlow .b1 (by decide)]
  | b3 => simp [h, hlow .b1 (by decide), hlow .b2 (by decide)]
  | b4 => simp [h, hlow .b1 (by decide), hlow .b2 (by decide), hlow .b3 (by decide)]

theorem pendingSlot_none {s : State} (h : ∀ b, (s.bay b).slot.pending = false) : s.pendingSlot = none := by
  simp [State.pendingSlot, h]

/-- R162: a port with no slot to send takes the oldest frame of its queue, if it has one. -/
theorem takeNext_queue {s : State} {p : PortId} (h : p = .trunk ∨ ∀ b, (s.bay b).slot.pending = false) :
    s.takeNext p = if (s.port p).tx.isEmpty then s else s.setPort p { s.port p with sending := some .queueHead } := by
  have hslot : (if p = .yard then s.pendingSlot else none) = none := by
    rcases h with rfl | h
    · rfl
    · simp [pendingSlot_none h]
  unfold State.takeNext
  rw [hslot]

/-- R160: a reply to a POD SET waits in the trunk transmit queue. -/
theorem podSetReplyWaits_iff (p : Port) : p.podSetReplyWaits = true ↔
    ∃ e ∈ p.tx, ∃ ref r q y t, e.frame.body = .reply ref r ∧ r.fields = .podSettings q y t := by
  unfold Port.podSetReplyWaits
  rw [List.any_eq_true]
  refine exists_congr fun e => and_congr_right fun _ => ⟨fun h => ?_, ?_⟩
  · split at h
    · rename_i ref r hbody
      split at h
      · rename_i q y t hfields
        exact ⟨ref, r, q, y, t, hbody, hfields⟩
      · cases h
    · cases h
  · rintro ⟨ref, r, q, y, t, hbody, hfields⟩
    simp [hbody, hfields]

theorem betweenFrames_iff (p : Port) : p.betweenFrames = true ↔ p.receiver = .hunting ∧ p.sending = none := by
  simp [Port.betweenFrames]

/-- R160, R163: the yard port put in a mode, and in RUN mode at once. -/
theorem yardMode_eq (s : State) (m : RateMode) :
    s.setYardMode m = (if s.yard.betweenFrames then
      { s with yardTarget := m, yardMode := m, yard := { s.yard with rate := s.podSettings.yardRate } }
      else { s with yardTarget := m }) ∧
    s.runAtOnce = (if s.yard.betweenFrames then
      { s with yardTarget := .run, yardMode := .run, yard := { s.yard with rate := s.podSettings.yardRate } }
      else { s with yardTarget := .run, yardMode := .run }) := ⟨rfl, rfl⟩

/-- R162: the last character of a frame of the queue. -/
theorem lastCharacter_queue {s : State} {p : PortId} {e : TxEntry} {rest : List TxEntry}
    (hs : (s.port p).sending = some .queueHead) (ht : (s.port p).tx = e :: rest) :
    s.lastCharacter p =
      if e.wake then (s.setPort p { s.port p with sending := none, tx := rest }).setYardMode .run
      else s.setPort p { s.port p with sending := none, tx := rest } := by
  unfold State.lastCharacter
  simp only [hs, ht, List.head?_cons, List.tail_cons]

/-- Settles O23: what a transmitter takes and what its last character leaves, and when a port takes its rate (R95, R160, R162,
R163). -/
theorem transmitterTakesAndSendsFrames : Obligations.TransmitterTakesAndSendsFrames := by
  refine ⟨fun s b hpower hfree hpending hlow => ?_, fun s p e rest hpower hfree hslots hqueue => ?_,
    fun s p hpower hfree hslots hqueue => ?_, fun s p e rest hpower hsending hqueue => ⟨fun hwake => ?_, fun hwake => ?_⟩,
    fun s f hpower hsending => ?_, fun s hpower hhunting hfree => ?_, fun s hbusy => ?_,
    fun s hpower hhunting hreplies => ?_, fun s hbusy => ?_, fun s m => ?_⟩
  · have htake : s.takeNext .yard = s.takeSlot b := by simp [State.takeNext, pendingSlot_first hpending hlow]
    simp only [exec, execTransmitFrame]
    rw [event_occurs _ _ (by simp [hpower, show (s.port .yard).sending = none from hfree]), htake]
    rfl
  · simp only [exec, execTransmitFrame]
    rw [event_occurs _ _ (by simp [hpower, hfree]), takeNext_queue hslots]
    simp [hqueue]
  · simp only [exec, execTransmitFrame]
    rw [event_occurs _ _ (by simp [hpower, hfree]), takeNext_queue hslots]
    simp [hqueue]
  · simp only [exec, execTransmitFrame]
    rw [event_occurs _ _ (by simp [hpower, hsending]), lastCharacter_queue hsending hqueue]
    simp [hwake]
  · simp only [exec, execTransmitFrame]
    rw [event_occurs _ _ (by simp [hpower, hsending]), lastCharacter_queue hsending hqueue]
    simp [hwake]
  · simp only [exec, execTransmitFrame]
    rw [event_occurs _ _ (by simp [hpower, State.port, hsending])]
    simp [State.lastCharacter, State.port, State.setPort, hsending]
  · have hbetween : s.yard.betweenFrames = true := (betweenFrames_iff _).2 ⟨hhunting, hfree⟩
    simp only [exec, execRateSettingApplied]
    rw [event_occurs _ _ (by simp [hpower, State.mayTakeRate, hbetween])]
    rfl
  · have hbetween : s.yard.betweenFrames = false := by
      rw [Bool.eq_false_iff, Ne, betweenFrames_iff]
      tauto
    simp [exec, execRateSettingApplied, event_eq, State.mayTakeRate, hbetween]
  · have hwaits : s.trunk.podSetReplyWaits = false := by
      rw [Bool.eq_false_iff, Ne, podSetReplyWaits_iff]
      rintro ⟨e, he, ref, r, q, y, t, hbody, hfields⟩
      exact hreplies e he ref r hbody q y t hfields
    simp only [exec, execRateSettingApplied]
    rw [event_occurs _ _ (by simp [hpower, State.mayTakeRate, hhunting, hwaits])]
    rfl
  · have hmay : s.mayTakeRate .trunk = false := by
      rw [← podSetReplyWaits_iff] at hbusy
      simpa [State.mayTakeRate, imp_iff_not_or] using hbusy
    simp [exec, execRateSettingApplied, event_eq, hmay]
  · intro free
    obtain ⟨hset, hrun⟩ := yardMode_eq s m
    have hfree : s.yard.betweenFrames = true ↔ free := betweenFrames_iff s.yard
    rw [hset, hrun]
    refine ⟨fun h => ?_, fun h => ?_, fun h => ?_, fun h => ?_⟩
    · rw [if_pos (hfree.2 h)]
    · rw [if_neg (mt hfree.1 h)]
    · rw [if_pos (hfree.2 h)]
    · rw [if_neg (mt hfree.1 h)]

/-! ## The pod's states -/

/-- R178: a request finds a WATCH pod woken. -/
theorem taken_pod (s : State) : s.taken.pod = if s.pod = .watch then .inService else s.pod := by
  by_cases h : s.pod = .watch
  · rw [State.taken_woken h, if_pos h]
    simp
    rfl
  · rw [State.taken_awake h, if_neg h]
    simp

/-- The wake makes no pod BLANK or SUSPENDED, and leaves one that is. -/
theorem taken_pod_iff (s : State) {p : PodState} (hs : p ≠ .inService) (hw : p ≠ .watch) : s.taken.pod = p ↔ s.pod = p := by
  rw [taken_pod]
  split
  · rename_i h
    simp [h, hs.symm, hw.symm]
  · rfl

/-- R175: POD START succeeds where no condition fails. -/
theorem startConditions_fails (c : StartConditions) : c.fails = false ↔ c = ⟨false, false, false, false⟩ := by
  obtain ⟨clock, bay, tank1, tank2⟩ := c
  simp [StartConditions.fails, and_assoc]

theorem startConditions_taken (s : State) : s.taken.startConditions = s.startConditions := by
  simp [State.startConditions, State.wantsStock, taken_bay, taken_tank]

/-- R176: the state of a pod once it is suspended. -/
def suspendedPod (s : State) : State := if s.pod = .suspended then s.taken else s.taken.changePod .suspended

theorem suspendedPod_keeps (s : State) : (suspendedPod s).pod = .suspended ∧ (suspendedPod s).bays = s.bays ∧
    (suspendedPod s).probe = s.probe ∧ (suspendedPod s).clock = s.clock ∧
    (suspendedPod s).journal.issues = s.journal.issues ∧
    (suspendedPod s).journal.reservations = s.journal.reservations := by
  have hissues := taken_issues s
  have hreservations := taken_reservations s
  unfold suspendedPod
  split
  · rename_i h
    exact ⟨(taken_pod_iff s (by decide) (by decide)).2 h, by simp, by simp, by simp, hissues, hreservations⟩
  · refine ⟨rfl, by simp, by simp, by simp, ?_, ?_⟩
    · simp [State.changePod, hissues]
    · simp [State.changePod, hreservations]

/-- R176: POD SUSPEND of a pod that is not BLANK. -/
theorem podSuspend_eq (s : State) {n : Nat} {halt : Bool} (hn : yesNo n = some halt) (h : s.pod ≠ .blank) :
    podSuspend n s.taken = if halt then
      ((suspendedPod s).haltBays, .okWith (.podSuspend .suspended (suspendedPod s).haltCount))
      else (suspendedPod s, .okWith (.podSuspend .suspended 0)) := by
  have hblank : s.taken.pod ≠ .blank := mt (taken_pod_iff s (by decide) (by decide)).1 h
  have hoff : (if s.taken.pod = .suspended then s.taken else s.taken.changePod .suspended) = suspendedPod s := by
    simp only [taken_pod_iff s (p := .suspended) (by decide) (by decide), suspendedPod]
  simp only [podSuspend, hn, if_neg hblank, hoff, (suspendedPod_keeps s).1]

/-- R176: the bays that a halt acts on. -/
theorem haltable_eq (st : BayState) : st.haltable = (st == .granted || st.valveOpen) := by cases st <;> rfl

/-- R176: what a halt makes of a bay, by its state. -/
theorem halted_bay (y : Bay) : let z := treated .site (·.state == .granted) (closedIfOpen .site) y
    (y.state.valveOpen = true → z = y.toClosing .site) ∧
    (y.state = .granted → z.cause = some .site ∧ z.state.active = false) ∧
    (y.state ≠ .granted → y.state.valveOpen = false → z = y) := by
  intro z
  refine ⟨fun h => ?_, fun h => ?_, fun hg ho => ?_⟩
  · have hg : y.state ≠ .granted := fun hg => by simp [hg, BayState.valveOpen] at h
    simp [z, treated, closedIfOpen, hg, h]
  · have hz : z = (y.ended .site).movedOn .site := by simp [z, treated, h]
    refine ⟨?_, hz ▸ (movedOn_frame .site y).1⟩
    rw [hz]
    unfold Bay.movedOn Bay.toDraining
    repeat' split
    all_goals rfl
  · simp [z, treated, closedIfOpen, hg, ho]

/-- R80, R176: a halt completes each GRANTED issue with its record and its events, and closes each open bay. -/
theorem podSuspend_halts (s : State) : ∃ t : State, (suspendedPod s).haltBays = t ∧
    t = issueParts (suspendedPod s) t ∧
    (∀ b, t.bay b = treated .site (·.state == .granted) (closedIfOpen .site) (s.bay b)) ∧
    ∃ new ks, Recorded .site (·.state == .granted) bayList (suspendedPod s) t new ks := by
  have hhalt : (suspendedPod s).haltBays =
      bayList.foldl (treat .site (·.state == .granted) (closedIfOpen .site)) (suspendedPod s) := by
    simp only [State.haltBays, endIssue_eq]
  rw [hhalt]
  refine ⟨_, rfl, foldl_treat_changes .., fun b => ?_, foldl_treat_recorded _ _ _ (by decide) _⟩
  rw [foldl_treat_bay _ _ _ (by decide), if_pos (mem_bayList b), State.bay_congr (suspendedPod_keeps s).2.1]

/-- R163, R177: the pod enters WATCH. -/
theorem enterWatch_eq (s : State) : s.enterWatch = { s with
      pod := .watch, yardTarget := .watch, yardMode := s.enterWatch.yardMode
      yard := { s.yard with rate := s.enterWatch.yard.rate }
      journal := s.journal.logEvent s.stamp (.podState s.pod .watch) } ∧
    (s.yard.receiver = .hunting → s.yard.sending = none → s.enterWatch.yardMode = .watch) := by
  have henter : s.enterWatch = (s.changePod .watch).setYardMode .watch := rfl
  have hyard : (s.changePod .watch).yard = s.yard := rfl
  rw [henter, (yardMode_eq ..).1, hyard]
  refine ⟨?_, fun hhunting hfree => ?_⟩
  · split <;> rfl
  · rw [if_pos ((betweenFrames_iff _).2 ⟨hhunting, hfree⟩)]

/-- R177: no watch delay timer runs outside IN SERVICE. -/
theorem settled_watchTimer {s : State} (h : s.pod ≠ .inService) : s.settled.watchTimer = none := by
  simp [State.settled, State.settleWatch, State.watchReady, h]

/-- Settles O60: the pod's requests and the watch delay timer's expiry move it by the table of R174, and a halt ends the issues
bay by bay (R80, R175 to R177, R182). -/
theorem podStatesFollowTheirTable : Obligations.PodStatesFollowTheirTable := by
  refine ⟨fun s f ref hf hp => ?_, fun s f ref h hf hp => ?_, fun s f ref hf hp => ?_, fun s f ref hf hp => ?_,
    fun s p => rfl, fun s hs => ?_, fun s hpower hpod hout => ?_⟩
  · intro fails
    have hfails : s.taken.startConditions = fails := startConditions_taken s
    have hanswer : exec .podStart s = answered f (podStart () s.taken).1 (podStart () s.taken).2 :=
      request_served hf (by rw [hp]; rfl)
    have hblank := taken_pod_iff s (p := .blank) (by decide) (by decide)
    rw [hanswer]
    refine ⟨fun hs => ?_, fun hs hnone => ?_, fun hs hsome => ?_⟩
    · simp [podStart, mt hblank.1 hs, refused]
    · simp [podStart, hblank.2 hs, hfails, (startConditions_fails fails).2 hnone]
    · have := Bool.eq_true_of_not_eq_false (mt (startConditions_fails fails).1 hsome)
      simp [podStart, hblank.2 hs, hfails, this]
  · intro off
    have hanswer : exec .podSuspend s = answered f (podSuspend h.toNat s.taken).1 (podSuspend h.toNat s.taken).2 :=
      request_served hf (by rw [hp]; exact parseOne_byte h)
    have hblank := taken_pod_iff s (p := .blank) (by decide) (by decide)
    rw [hanswer]
    refine ⟨fun hlarge => ?_, fun hn hs => ?_, fun hn hs => ?_, fun hn hs => ?_⟩
    · simp [podSuspend, yesNo_eq, Nat.not_le.2 hlarge, refused]
    · simp [podSuspend, yesNo_eq, hn, hblank.2 hs, refused]
    · rw [podSuspend_eq s (halt := false) (by rw [hn]; rfl) hs]
      rfl
    · obtain ⟨t, ht, hparts, hbays, new, ks, hrecorded⟩ := podSuspend_halts s
      obtain ⟨-, hsbays, hprobe, hclock, hissues, hreservations⟩ := suspendedPod_keeps s
      have hfields := hrecorded.fields
      obtain ⟨-, reservations, records, bays, -, events, -, kinds⟩ := hrecorded
      have hbay : ∀ b, (suspendedPod s).bay b = s.bay b := fun b => State.bay_congr hsbays b
      simp only [hbay, hclock, hissues, hreservations] at reservations records bays hfields kinds
      rw [podSuspend_eq s (halt := true) (by rw [hn]; rfl) hs]
      refine ⟨t, ?_, ?_, ?_, ⟨new, records, bays, fun i hi => ?_⟩, ⟨ks, events, fun e he => ?_⟩, fun b => ?_⟩
      · simp only [ht, if_true, State.haltCount, haltable_eq, hbay]
      · rw [← hprobe]
        exact hparts
      · rw [reservations, ← bays, List.length_map]
      · obtain ⟨hcause, hfinish, htag, hgross, hnet, -⟩ := hfields i hi
        exact ⟨hcause, htag, hfinish, hgross, hnet⟩
      · obtain ⟨b, -, hgranted, h⟩ := kinds e he
        exact ⟨b, by simpa using hgranted, h.imp_right fun h => ⟨_, h.2.choose_spec⟩⟩
      · rw [hbays]
        exact halted_bay (s.bay b)
  · have hanswer : exec .podResume s = answered f (podResume () s.taken).1 (podResume () s.taken).2 :=
      request_served hf (by rw [hp]; rfl)
    have hsuspended := taken_pod_iff s (p := .suspended) (by decide) (by decide)
    rw [hanswer]
    refine ⟨fun hs => ?_, fun hs => ?_⟩
    · simp [podResume, hsuspended.2 hs]
    · simp [podResume, mt hsuspended.1 hs, refused]
  · exact request_served hf (a := ()) (by rw [hp]; rfl)
  · have hout : s.watchTimer.ranOut = false := Timer.ranOut_false hs
    simp [exec, execWatchDelayTimerExpiry, event_eq, hout]
  · obtain ⟨hwatch, hmode⟩ := enterWatch_eq s
    refine ⟨s.enterWatch, ?_, settled_watchTimer (by rw [hwatch]; simp), hpod ▸ hwatch, hmode⟩
    exact event_occurs _ _ (by simp [hpower, hpod, hout])

/-! ## The register and the probe bus after completions -/

section
variable (c : CloseCause) (ends : Bay → Bool) (other : Bay → Bay)

/-- What completions at the bays of a list make of the register of state s: t's. -/
structure Charged (l : List BayId) (s t : State) : Prop where
  tags : t.fleet.map (·.tag) = s.fleet.map (·.tag)
  disarmed : ∀ v ∈ t.fleet, ∀ b ∈ l, ends (s.bay b) = true → v.tag = (s.bay b).serving.tag →
    v.armedAt = none ∧ v.lastIssue = some s.stamp
  spared : ∀ v ∈ s.fleet, (∀ b ∈ l, ends (s.bay b) = true → v.tag ≠ (s.bay b).serving.tag) → v ∈ t.fleet
  still : (∀ b ∈ l, ends (s.bay b) = false) → t.fleet = s.fleet

/-- R49, R86: a completion writes the record of its vehicle and no other. -/
theorem complete_charged (s : State) (b : BayId) :
    (s.complete b c).fleet.map (·.tag) = s.fleet.map (·.tag) ∧
    (∀ v ∈ (s.complete b c).fleet, v.tag = (s.bay b).serving.tag → v.armedAt = none ∧ v.lastIssue = some s.stamp) ∧
    (∀ v ∈ (s.complete b c).fleet, v.tag ≠ (s.bay b).serving.tag → v ∈ s.fleet) ∧
    (∀ v ∈ s.fleet, v.tag ≠ (s.bay b).serving.tag → v ∈ (s.complete b c).fleet) := by
  rw [State.complete_fleet]
  split
  · rename_i hnone
    exact ⟨rfl, fun v hv htag => absurd htag (findTag_none.1 hnone v hv), fun v hv _ => hv, fun v hv _ => hv⟩
  · rename_i v hv
    obtain ⟨-, htag⟩ := findTag_some hv
    obtain ⟨hw, -⟩ := Vehicle.chargeIssue_spec (s.bay b).serving.limp (clOf (s.bay b).net) s.stamp v
    generalize (v.chargeIssue (s.bay b).serving.limp (clOf (s.bay b).net) s.stamp).1 = w at hw
    have hwtag : w.tag = (s.bay b).serving.tag := by rw [hw, ← htag]
    rw [← hwtag]
    refine ⟨setVehicle_tags .., fun x hx hxtag => ?_, fun x hx hxtag => ?_, fun x hx hxtag => mem_setVehicle_other hx hxtag⟩
    · rcases mem_setVehicle hx with rfl | ⟨-, hne⟩
      · rw [hw]
        exact ⟨rfl, rfl⟩
      · exact absurd hxtag hne
    · rcases mem_setVehicle hx with rfl | ⟨hx, -⟩
      · exact absurd rfl hxtag
      · exact hx

theorem foldl_treat_charged {l : List BayId} (hl : l.Nodup) (s : State) :
    Charged ends l s (l.foldl (treat c ends other) s) := by
  induction l using List.reverseRecOn with
  | nil => exact ⟨rfl, by simp, fun v hv _ => hv, fun _ => rfl⟩
  | append_singleton l a ih =>
    have ha : a ∉ l := fun h => (List.nodup_append.1 hl).2.2 a h a (by simp) rfl
    obtain ⟨tags, disarmed, spared, still⟩ := ih (List.nodup_append.1 hl).1
    have hbay : (l.foldl (treat c ends other) s).bay a = s.bay a := by
      simp [foldl_treat_bay c ends other (List.nodup_append.1 hl).1, ha]
    have hstamp := foldl_treat_stamp c ends other l s
    rw [List.foldl_append, List.foldl_cons, List.foldl_nil]
    generalize l.foldl (treat c ends other) s = u at *
    unfold treat
    rw [hbay]
    split
    · rename_i hends
      obtain ⟨htags, hown, hkeep, hothers⟩ := complete_charged c u a
      rw [hbay, hstamp] at hown
      rw [hbay] at hkeep hothers
      refine ⟨htags.trans tags, fun v hv b hb he ht => ?_, fun v hv hne => ?_, fun hnone => ?_⟩
      · by_cases hva : v.tag = (s.bay a).serving.tag
        · exact hown v hv hva
        · rcases List.mem_append.1 hb with hb | hb
          · exact disarmed v (hkeep v hv hva) b hb he ht
          · rw [List.mem_singleton.1 hb] at ht
            exact absurd ht hva
      · exact hothers v (spared v hv fun b hb => hne b (List.mem_append_left _ hb)) (hne a (by simp) hends)
      · rw [hnone a (by simp)] at hends
        cases hends
    · rename_i hends
      refine ⟨tags, fun v hv b hb he ht => ?_, fun v hv hne => spared v hv fun b hb => hne b (List.mem_append_left _ hb),
        fun hnone => still fun b hb => hnone b (List.mem_append_left _ hb)⟩
      rcases List.mem_append.1 hb with hb | hb
      · exact disarmed v hv b hb he ht
      · rw [List.mem_singleton.1 hb] at he
        exact absurd he hends

/-- R123: a settle timer as it starts. -/
def fullSettle (s : State) (k : TankId) : Timer :=
  if (s.tank k).settings.settleTime = 0 then none else some ((s.tank k).settings.settleTime * 1000)

theorem startSettle_probeTank (s : State) (t k : TankId) : (s.startSettle t).probeTank k =
    { s.probeTank k with settle := if k = t then fullSettle s t else (s.probeTank k).settle } := by
  unfold State.startSettle
  by_cases h : k = t
  · subst h
    simp [fullSettle, seconds]
  · simp [h]

/-- What completions at the bays of a list make of the Probe Bus Controller's tanks: they start the settle timers of the tanks
drawn from. -/
structure Settling (l : List BayId) (s t : State) (k : TankId) : Prop where
  keeps : t.probeTank k = { s.probeTank k with settle := (t.probeTank k).settle }
  drawn : (∃ b ∈ l, ends (s.bay b) = true ∧ (s.bay b).serving.tank = k) → (t.probeTank k).settle = fullSettle s k
  undrawn : (∀ b ∈ l, ends (s.bay b) = true → (s.bay b).serving.tank ≠ k) →
    (t.probeTank k).settle = (s.probeTank k).settle

theorem foldl_treat_settling {l : List BayId} (hl : l.Nodup) (s : State) (k : TankId) :
    Settling ends l s (l.foldl (treat c ends other) s) k := by
  induction l using List.reverseRecOn with
  | nil => exact ⟨rfl, by simp, fun _ => rfl⟩
  | append_singleton l a ih =>
    have ha : a ∉ l := fun h => (List.nodup_append.1 hl).2.2 a h a (by simp) rfl
    obtain ⟨keeps, drawn, undrawn⟩ := ih (List.nodup_append.1 hl).1
    have hbay : (l.foldl (treat c ends other) s).bay a = s.bay a := by
      simp [foldl_treat_bay c ends other (List.nodup_append.1 hl).1, ha]
    have htank : fullSettle (l.foldl (treat c ends other) s) = fullSettle s := by
      rw [foldl_treat_changes]
      rfl
    rw [List.foldl_append, List.foldl_cons, List.foldl_nil]
    generalize l.foldl (treat c ends other) s = u at *
    unfold treat
    rw [hbay]
    split
    · rename_i hends
      have hprobe : (u.complete a c).probeTank k = { u.probeTank k with
          settle := if k = (s.bay a).serving.tank then fullSettle s (s.bay a).serving.tank else (u.probeTank k).settle } := by
        rw [State.probeTank_congr (u.complete_probe a c), startSettle_probeTank, hbay, htank]
      refine ⟨?_, fun ⟨b, hb, he, ht⟩ => ?_, fun hne => ?_⟩
      · rw [hprobe, keeps]
      · rw [hprobe]
        dsimp only
        split
        · rename_i hk
          rw [hk]
        · rename_i hk
          rcases List.mem_append.1 hb with hb | hb
          · exact drawn ⟨b, hb, he, ht⟩
          · rw [List.mem_singleton.1 hb] at ht
            exact absurd ht.symm hk
      · rw [hprobe]
        dsimp only
        rw [if_neg (Ne.symm (hne a (by simp) hends))]
        exact undrawn fun b hb => hne b (List.mem_append_left _ hb)
    · rename_i hends
      refine ⟨keeps, fun ⟨b, hb, he, ht⟩ => ?_, fun hne => undrawn fun b hb => hne b (List.mem_append_left _ hb)⟩
      rcases List.mem_append.1 hb with hb | hb
      · exact drawn ⟨b, hb, he, ht⟩
      · rw [List.mem_singleton.1 hb] at he
        exact absurd he hends

end

/-! ## A bay as a warm start leaves it -/

/-- R87, R99: entry to DRAINING or, with a drain time of 0, to IDLE. -/
theorem toDraining_eq (y : Bay) : y.toDraining = y.drained y.slot := by
  unfold Bay.toDraining Bay.drained
  split <;> rfl

theorem restarted_active {y : Bay} (h : y.state.active = true) : (restarted y).order .shut =
    { y.drained { order := .shut, pending := true } with
      cause := some .interrupted, grossTotal := y.grossTotal.add y.gross, netTotal := y.netTotal.add y.net } := by
  have hended : y.ended .interrupted =
      { y with cause := some .interrupted, grossTotal := y.grossTotal.add y.gross, netTotal := y.netTotal.add y.net } := by
    simp [Bay.ended, Bay.finish, Bay.totalize]
  unfold restarted treated Bay.movedOn
  rw [if_pos h, if_pos rfl, toDraining_eq, hended]
  rfl

theorem restarted_draining {y : Bay} (h : y.state = .draining) :
    (restarted y).order .shut = y.drained { order := .shut, pending := true } := by
  unfold restarted treated redrained
  rw [if_neg (by simp [h, BayState.active]), if_pos h, toDraining_eq]
  rfl

theorem restarted_other {y : Bay} (ha : y.state.active = false) (hd : y.state ≠ .draining) : restarted y = y := by
  simp [restarted, treated, redrained, ha, hd]

/-- R181: the valve slots are written only after every bay is reached. -/
theorem restarted_slot (y : Bay) : (restarted y).slot = y.slot := by
  unfold restarted treated redrained
  split
  · unfold Bay.movedOn
    rw [if_pos rfl, toDraining_eq]
    rfl
  · split
    · rw [toDraining_eq]
      rfl
    · rfl

theorem restarted_cause {y : Bay} (h : y.state.active = true) : (restarted y).cause = some .interrupted := by
  have hcause := congrArg Bay.cause (restarted_active h)
  exact hcause

/-! ## What a warm start opens with -/

/-- R181 steps 2 and 3: what a warm start logs before it reaches the bays. -/
def warmEvents (s : State) : List EventKind :=
  [.warmStart] ++ (if s.pod = .watch then [.podState .watch .inService] else [])

/-- The parts before the bays, all made. -/
theorem opening_whole (straps : Byte) (n : Nat) (s : State) : opening straps (n + 3) s =
    { s.rebuild straps with
      pod := if s.pod = .watch then .inService else s.pod, journal := s.journalAfter (warmEvents s) } := by
  have hparts : opening straps (n + 3) s = ((s.rebuild straps).log .warmStart).leaveWatch := by
    simp [opening, openingParts, State.makeParts]
  have hpod : ((s.rebuild straps).log .warmStart).pod = s.pod := rfl
  rw [hparts]
  unfold State.leaveWatch warmEvents
  rw [hpod]
  split
  · unfold State.changePod
    rw [hpod, ‹s.pod = .watch›]
    rfl
  · rfl

theorem opening_pod (straps : Byte) (n : Nat) (s : State) :
    (opening straps n s).pod = if 3 ≤ n ∧ s.pod = .watch then .inService else s.pod := by
  rcases n with _ | _ | _ | n
  · rfl
  · rfl
  · rfl
  · rw [opening_whole]
    simp

theorem opening_journal (straps : Byte) (n : Nat) (s : State) :
    (opening straps n s).journal = s.journalAfter ((warmEvents s).take (n - 1)) := by
  rcases n with _ | _ | _ | n
  · rfl
  · rfl
  · rfl
  · rw [opening_whole, List.take_of_length_le]
    unfold warmEvents
    split <;> simp

/-! ## The journal after a warm start -/

/-- The bays that the first n parts reach, in bay order, of those that pass a test. -/
theorem reached_filter (n : Nat) (p : BayId → Bool) :
    (reached n).filter p = bayList.filter (fun b => p b && decide (bayNumber b + 3 ≤ n)) := by
  have hreached : reached n = bayList.filter (fun b => decide (bayNumber b + 3 ≤ n)) := by
    unfold reached
    rcases n with _ | _ | _ | _ | _ | _ | _ | n
    all_goals simp [bayList, bayNumber]
  rw [hreached, List.filter_filter]

/-- What the first n parts of a warm start make of the journal of state s: j. `new` are the records of the issues they
end, `ks` the events of those completions. -/
structure WarmJournal (s : State) (n : Nat) (j : Journal) (new : List IssueRecord) (ks : List EventKind) : Prop where
  span : j.issueSpan = s.journal.issueSpan
  reservations : j.reservations = s.journal.reservations - new.length
  records : j.issues.records = s.journal.issues.records ++ new
  bays : new.map (·.bay) = bayList.filter (fun b => (s.bay b).state.active && decide (bayNumber b + 3 ≤ n))
  fields : ∀ r ∈ new, r.cause = .interrupted ∧ r.finish = s.clock ∧ r.tag = (s.bay r.bay).serving.tag ∧
    r.grossCl = clOf (s.bay r.bay).gross ∧ r.netCl = clOf (s.bay r.bay).net ∧ r.afterRun = (s.bay r.bay).flags.afterRun
  events : j.events = (s.journalAfter ((warmEvents s).take (n - 1) ++ ks)).events
  overwrites : j.overwrites = (s.journalAfter ((warmEvents s).take (n - 1) ++ ks)).overwrites
  kinds : ∀ k ∈ ks, ∃ b code st, (s.bay b).state.active = true ∧ k = .service (s.bay b).serving.tag code st

theorem warm_journal (straps : Byte) (n : Nat) (s : State) :
    ∃ new ks, WarmJournal s n (s.makeParts ((warmParts straps).take n)).journal new ks := by
  have hparts : (s.makeParts ((warmParts straps).take n)).journal =
      (restarting (reached n) (opening straps n s)).journal := by
    rw [makeParts_warm]
    split <;> rfl
  obtain ⟨new, ks, h⟩ := foldl_treat_recorded .interrupted (·.state.active) redrained (reached_nodup n) (opening straps n s)
  have hfields := h.fields
  obtain ⟨span, reservations, records, bays, -, events, overwrites, kinds⟩ := h
  have hbay := opening_bay straps n s
  obtain ⟨hrecords, hspan, hreservations⟩ := s.journalAfter_issues ((warmEvents s).take (n - 1))
  obtain ⟨-, -, -, -, hclock, hset, -⟩ := opening_keeps straps n s
  have hstamp : (opening straps n s).stamp = s.stamp := by simp [State.stamp, hclock, hset]
  obtain ⟨hevents, hoverwrites⟩ := journalAfter_from ks hstamp (congrArg Journal.events (opening_journal straps n s))
    (congrArg Journal.overwrites (opening_journal straps n s)) (by rw [opening_journal]; exact hspan)
  simp only [hbay, hclock] at bays hfields kinds
  rw [opening_journal, hspan] at span
  rw [opening_journal, hreservations] at reservations
  rw [opening_journal, hrecords] at records
  rw [hparts]
  unfold restarting
  refine ⟨new, ks, span, reservations, records, bays.trans (reached_filter n _), ?_, events.trans hevents,
    overwrites.trans hoverwrites, ?_⟩
  · simpa [Bay.finish] using hfields
  · intro k hk
    obtain ⟨b, -, hactive, ⟨code, st, rfl⟩ | ⟨hc, -⟩⟩ := kinds k hk
    · exact ⟨b, code, st, hactive, rfl⟩
    · exact absurd rfl hc

/-! ## The probe bus after a warm start -/

theorem raiseCensus_probeTank (s : State) (t k : TankId) (p : Purpose) : (s.raiseCensus t p).probeTank k =
    { s.probeTank k with
      want := if k = t then some (coalesce (s.tank t).expects (s.probeTank t).want p) else (s.probeTank k).want } := by
  unfold State.raiseCensus
  by_cases h : k = t
  · subst h
    simp
  · simp [h]

/-- R129: a settle timer that runs starts again. -/
theorem restartSettle_probeTank (s : State) (t k : TankId) : (s.restartSettle t).probeTank k =
    { s.probeTank k with
      settle := if k = t ∧ (s.probeTank t).settle.isSome = true then fullSettle s t else (s.probeTank k).settle } := by
  unfold State.restartSettle
  split
  · rw [startSettle_probeTank]
    simp [*]
  · simp [*]

/-- R129: the settle timers that run start again; nothing else changes. -/
theorem restartSettle_eq (s : State) (t : TankId) : s.restartSettle t =
    { s with probe := { s.probe with tanks := (s.restartSettle t).probe.tanks } } := by
  unfold State.restartSettle
  split <;> rfl

/-- R129, R181 step 6: what a warm start makes of the Probe Bus Controller, but for its tanks. -/
theorem restartProbe_eq (s : State) : s.restartProbe =
    { s with
      probe :=
        { s.probe with
          tanks := s.restartProbe.probe.tanks, inFlight := none, censusTimer := s.podSettings.censusPeriod * 1000 } } := by
  have habandon : ∀ u : State, u.abandonCensus =
      { u with probe := { u.probe with tanks := u.abandonCensus.probe.tanks, inFlight := none } } := by
    intro u
    unfold State.abandonCensus
    split
    · rfl
    · rw [← ‹u.probe.inFlight = none›]
  unfold State.restartProbe
  rw [habandon, restartSettle_eq _ .t2, restartSettle_eq s]
  rfl

/-- R129: both settle timers started again where they run. -/
theorem restartSettle_both (s : State) (k : TankId) : ((s.restartSettle .t1).restartSettle .t2).probeTank k =
    { s.probeTank k with settle := if (s.probeTank k).settle.isSome = true then fullSettle s k else none } := by
  have hfull : fullSettle (s.restartSettle .t1) = fullSettle s := by
    rw [restartSettle_eq]
    rfl
  rw [restartSettle_probeTank, restartSettle_probeTank, hfull, restartSettle_probeTank]
  have hstopped : ∀ t : TankId, (if (s.probeTank t).settle.isSome = true then fullSettle s t else (s.probeTank t).settle) =
      if (s.probeTank t).settle.isSome = true then fullSettle s t else none := by
    intro t
    split
    · rfl
    · exact Option.not_isSome_iff_eq_none.1 ‹_›
  cases k <;> simp [hstopped]

/-- R129: each settle timer that runs has its full time; an abandoned census is raised again as it was requested. -/
theorem restartProbe_probeTank (s : State) (k : TankId) : s.restartProbe.probeTank k =
    { want := s.probe.inFlight.elim (s.probeTank k).want fun c => ((s.raiseCensus c.tank c.purpose).probeTank k).want
      failures := (s.probeTank k).failures
      settle := if (s.probeTank k).settle.isSome = true then fullSettle s k else none } := by
  have hsettled := restartSettle_both s
  have hrest : (s.restartSettle .t1).restartSettle .t2 =
      { s with probe := { s.probe with tanks := ((s.restartSettle .t1).restartSettle .t2).probe.tanks } } := by
    rw [restartSettle_eq _ .t2, restartSettle_eq s]
  have hflight : ((s.restartSettle .t1).restartSettle .t2).probe.inFlight = s.probe.inFlight := by rw [hrest]
  have htank := State.tank_congr (congrArg State.tanks hrest)
  have habandoned : s.restartProbe.probeTank k = ((s.restartSettle .t1).restartSettle .t2).abandonCensus.probeTank k := rfl
  rw [habandoned]
  generalize (s.restartSettle .t1).restartSettle .t2 = u at *
  unfold State.abandonCensus
  rw [hflight]
  cases s.probe.inFlight with
  | none => exact hsettled k
  | some c =>
    have hprobe : ∀ t, (u.setFlight none).probeTank t = u.probeTank t := fun _ => rfl
    have hexpects : ∀ t, (u.setFlight none).tank t = s.tank t := htank
    simp only [Option.elim, raiseCensus_probeTank, hprobe, hexpects, hsettled]

/-! ## The retained state after a warm start -/

/-- R181: a whole warm start is all of its parts, and then the Probe Bus Controller's. -/
theorem warmStart_eq (straps : Byte) (s : State) : s.warmStart straps =
    ((restarting bayList (opening straps 8 s)).mapBays (Bay.order .shut)).restartProbe := by
  have hparts := makeParts_warm straps 8 s
  rw [List.take_of_length_le (by simp [warmParts, bayList])] at hparts
  unfold State.warmStart
  rw [hparts]
  rfl

/-- R181: what a whole warm start leaves or rebuilds, but for the parts that completions change. -/
theorem warmStart_frame (straps : Byte) (s : State) : s.warmStart straps =
    { s.rebuild straps with
      pod := if s.pod = .watch then .inService else s.pod
      bays := (s.warmStart straps).bays, fleet := (s.warmStart straps).fleet, journal := (s.warmStart straps).journal
      probe :=
        { s.probe with
          tanks := (s.warmStart straps).probe.tanks, inFlight := none, busActs := [.nineClocks, .stop]
          censusTimer := s.podSettings.censusPeriod * 1000 } } := by
  have hyard := foldl_treat_interrupted (·.state.active) redrained bayList (opening straps 8 s)
  have hrest := foldl_treat_changes .interrupted (·.state.active) redrained bayList (opening straps 8 s)
  rw [warmStart_eq, restartProbe_eq]
  unfold restarting
  generalize bayList.foldl (treat .interrupted (·.state.active) redrained) (opening straps 8 s) = u at *
  unfold issueParts at hrest
  rw [hyard, opening_whole] at hrest
  rw [hrest]
  rfl

/-- R99, R181: what a warm start makes of the register. -/
theorem warmStart_charged (straps : Byte) (s : State) : Charged (·.state.active) bayList s (s.warmStart straps) := by
  have hfleet : (s.warmStart straps).fleet = (restarting bayList (opening straps 8 s)).fleet := by
    rw [warmStart_eq, restartProbe_eq]
    rfl
  obtain ⟨tags, disarmed, spared, still⟩ :=
    foldl_treat_charged .interrupted (·.state.active) redrained (by decide : bayList.Nodup) (opening straps 8 s)
  obtain ⟨-, hsame, -, -, hclock, hset, -⟩ := opening_keeps straps 8 s
  have hstamp : (opening straps 8 s).stamp = s.stamp := by simp [State.stamp, hclock, hset]
  unfold restarting at hfleet
  simp only [opening_bay, hsame, hstamp, ← hfleet] at tags disarmed spared still
  exact ⟨tags, disarmed, spared, still⟩

/-- R99, R129, R181: what a warm start makes of a tank's entry at the Probe Bus Controller. -/
theorem warmStart_probeTank (straps : Byte) (s : State) (k : TankId) :
    ((s.warmStart straps).probeTank k).failures = (s.probeTank k).failures ∧
    ((s.warmStart straps).probeTank k).want =
      s.probe.inFlight.elim (s.probeTank k).want (fun c => ((s.raiseCensus c.tank c.purpose).probeTank k).want) ∧
    (((s.probeTank k).settle ≠ none ∨ ∃ b, (s.bay b).state.active = true ∧ (s.bay b).serving.tank = k) →
      ((s.warmStart straps).probeTank k).settle = fullSettle s k) ∧
    ((s.probeTank k).settle = none → (∀ b, (s.bay b).state.active = true → (s.bay b).serving.tank ≠ k) →
      ((s.warmStart straps).probeTank k).settle = none) := by
  have hsettling := foldl_treat_settling .interrupted (·.state.active) redrained (by decide : bayList.Nodup) (opening straps 8 s)
  have hrest := foldl_treat_changes .interrupted (·.state.active) redrained bayList (opening straps 8 s)
  have hopened : ∀ t, (opening straps 8 s).probeTank t = s.probeTank t := by
    rw [opening_whole]
    exact fun _ => rfl
  rw [warmStart_eq, restartProbe_probeTank]
  unfold restarting
  generalize bayList.foldl (treat .interrupted (·.state.active) redrained) (opening straps 8 s) = u at *
  have hflight : (u.mapBays (Bay.order .shut)).probe.inFlight = s.probe.inFlight := by
    rw [hrest, opening_whole]
    rfl
  have htanks : u.tanks = s.tanks := by
    rw [hrest, opening_whole]
    rfl
  have htank : ∀ t, (u.mapBays (Bay.order .shut)).tank t = s.tank t := State.tank_congr htanks
  have hfull : fullSettle (u.mapBays (Bay.order .shut)) = fullSettle s := by
    funext t
    simp only [fullSettle, htank]
  have hfullOpened : fullSettle (opening straps 8 s) = fullSettle s := by
    rw [opening_whole]
    rfl
  have hprobe : ∀ t, (u.mapBays (Bay.order .shut)).probeTank t = u.probeTank t := fun _ => rfl
  have hkept : ∀ t, u.probeTank t = { s.probeTank t with settle := (u.probeTank t).settle } := by
    intro t
    rw [← hopened t]
    exact (hsettling t).keeps
  have hwant : ∀ t, (u.probeTank t).want = (s.probeTank t).want := fun t => by rw [hkept t]
  obtain ⟨-, drawn, undrawn⟩ := hsettling k
  simp only [opening_bay, hopened, hfullOpened] at drawn undrawn
  simp only [hflight, hfull, hprobe]
  refine ⟨by rw [hkept k], ?_, fun hsettles => ?_, fun hnone hne => ?_⟩
  · cases s.probe.inFlight with
    | none => exact hwant k
    | some c => simp only [Option.elim, raiseCensus_probeTank, hprobe, htank, hwant]
  · by_cases hdrawn : ∃ b ∈ bayList, (s.bay b).state.active = true ∧ (s.bay b).serving.tank = k
    · rw [drawn hdrawn]
      cases fullSettle s k <;> rfl
    · have hne : ∀ b, (s.bay b).state.active = true → (s.bay b).serving.tank ≠ k :=
        fun b ha ht => hdrawn ⟨b, mem_bayList b, ha, ht⟩
      have hruns := hsettles.resolve_right fun ⟨b, ha, ht⟩ => hne b ha ht
      rw [undrawn fun b _ => hne b, if_pos (Option.isSome_iff_ne_none.2 hruns)]
  · rw [undrawn fun b _ => hne b, hnone]
    rfl

/-- R181: the journal of a whole warm start. -/
theorem warmStart_journal (straps : Byte) (s : State) : ∃ new ks, WarmJournal s 8 (s.warmStart straps).journal new ks := by
  have hjournal : (s.warmStart straps).journal = (s.makeParts ((warmParts straps).take 8)).journal := by
    unfold State.warmStart
    rw [restartProbe_eq, List.take_of_length_le (by simp [warmParts, bayList])]
  rw [hjournal]
  exact warm_journal straps 8 s

/-- R181: a warm start whose occasion stands, made whole. -/
theorem exec_warmStart_whole {s : State} (x : Byte) (h : s.retentionMark = true) :
    exec (.warmStart ⟨x, .whole⟩) s = .next (s.warmStart x).settled := by
  simp only [exec, execWarmStart]
  exact event_occurs _ s h

/-- R181: a warm start whose occasion stands, cut off. -/
theorem exec_warmStart_cut {s : State} (x : Byte) (n : Fin 9) (h : s.retentionMark = true) :
    exec (.warmStart ⟨x, .cut n⟩) s = .next (s.warmStartCut x n) := by
  simp only [exec, execWarmStart, h, if_true]

/-- R180, R181: without the mark a warm start has no occasion. -/
theorem exec_warmStart_unmarked (s : State) (w : StartRun) (h : s.retentionMark = false) :
    exec (.warmStart w) s = .next s := by
  simp only [exec, execWarmStart]
  split <;> simp [event, h]

/-- R181: what a warm start that is cut off keeps. -/
theorem warmStartCut_keeps (straps : Byte) (n : Fin 9) (s : State) :
    (s.warmStartCut straps n).retentionMark = s.retentionMark ∧ (s.warmStartCut straps n).pending = s.pending ∧
    (s.warmStartCut straps n).clock = s.clock ∧ (s.warmStartCut straps n).clockSet = s.clockSet ∧
    (s.warmStartCut straps n).podSettings = s.podSettings ∧ (s.warmStartCut straps n).classes = s.classes ∧
    (s.warmStartCut straps n).tanks = s.tanks ∧
    (s.warmStartCut straps n).pod = (if 3 ≤ n.val ∧ s.pod = .watch then .inService else s.pod) := by
  have hrest := foldl_treat_changes .interrupted (·.state.active) redrained (reached n) (opening straps n s)
  obtain ⟨-, -, htanks, hpending, hclock, hset, hsettings, hclasses, hmark⟩ := opening_keeps straps n s
  have hpod := opening_pod straps n s
  unfold State.warmStartCut
  rw [makeParts_warm]
  unfold restarting
  rw [hrest]
  split <;> exact ⟨hmark, hpending, hclock, hset, hsettings, hclasses, htanks, hpod⟩

/-- R99, R181: a bay after a warm start that is cut off. -/
theorem warmStartCut_bay (straps : Byte) (n : Fin 9) (s : State) (b : BayId) :
    (n.val < bayNumber b + 3 → (s.warmStartCut straps n).bay b = s.bay b) ∧
    (bayNumber b + 3 ≤ n.val →
      ((s.warmStartCut straps n).bay b).state = (if (s.bay b).state.active = true ∨ (s.bay b).state = .draining then
          (if (s.bay b).settings.drainTime = 0 then .idle else .draining)
         else (s.bay b).state) ∧
      ((s.warmStartCut straps n).bay b).slot =
        (if n.val = 8 then { order := .shut, pending := true } else (s.bay b).slot) ∧
      ((s.bay b).state.active = true → ((s.warmStartCut straps n).bay b).cause = some .interrupted)) := by
  have hbay : (s.warmStartCut straps n).bay b = (s.makeParts ((warmParts straps).take n)).bay b := rfl
  have hrange := bayNumber_range b
  rw [hbay, warm_bay]
  refine ⟨fun hlate => ?_, fun hreached => ?_⟩
  · rw [if_neg (by omega), if_neg (by omega)]
  · rw [if_pos hreached]
    by_cases hn : n.val = 8
    · rw [if_pos (hn ▸ Nat.le_refl 8 : 8 ≤ n.val), if_pos hn]
      exact ⟨restarted_state _, rfl, restarted_cause⟩
    · rw [if_neg (by omega : ¬ 8 ≤ n.val), if_neg hn]
      exact ⟨restarted_state _, restarted_slot _, restarted_cause⟩

/-- R181: the journal of a warm start cut off before its first event. -/
theorem warmStartCut_journal_early (straps : Byte) {n : Fin 9} (s : State) (h : n.val ≤ 1) :
    (s.warmStartCut straps n).journal = s.journal := by
  unfold State.warmStartCut
  obtain hn | hn : n.val = 0 ∨ n.val = 1 := by omega
  all_goals
    rw [hn]
    rfl

/-- R179: a start is by reset when POD RESET waits for it and its reply has been sent. -/
theorem warmKind_eq (s : State) : s.warmKind =
    if s.powered = true ∧ s.resetPending = true ∧ s.trunk.tx = [] then .warmByReset else .warm := by
  simp [State.warmKind, and_assoc]

/-- Settles O18: a whole warm start is its parts, each of which leaves the retained state but for the journal, the bays and
what their completions charge; a cut one is the first of those parts, and the loss of main power (R99, R129, R180, R181). -/
theorem warmStartKeepsTheRetainedState : Obligations.WarmStartKeepsTheRetainedState := by
  refine ⟨fun s x h => ?_, fun s x n h => ?_, exec_warmStart_unmarked⟩
  · have frame {α : Type} (field : State → α) := congrArg field (warmStart_frame x s)
    obtain ⟨new, ks, span, reservations, records, bays, fields, events, overwrites, kinds⟩ := warmStart_journal x s
    obtain ⟨tags, disarmed, spared, still⟩ := warmStart_charged x s
    have hprobe := warmStart_probeTank x s
    have hbay := warmStart_bay x s
    have hbays : new.map (·.bay) = bayList.filter (fun b => (s.bay b).state.active) := by
      rw [bays, ← reached_filter]
      rfl
    have hcount : new.length = s.activeCount := by
      rw [State.activeCount, ← hbays, List.length_map]
    have hevents : (warmEvents s).take (8 - 1) = warmEvents s := List.take_of_length_le (by unfold warmEvents; split <;> simp)
    rw [hevents] at events overwrites
    have hquiet : s.activeCount = 0 → ∀ b, (s.bay b).state.active = false := by
      intro hzero b
      have := List.filter_eq_nil_iff.1 (List.length_eq_zero_iff.1 hzero) b (mem_bayList b)
      simpa using this
    refine ⟨s.warmStart x, ks, new, exec_warmStart_whole x h, frame State.powered,
      (frame State.retentionMark).trans h, frame State.resetPending, frame State.straps,
      frame State.station, (frame State.lastStart).trans (warmKind_eq s), frame State.pod,
      frame State.clock, frame State.clockSet, frame State.subMs, frame State.watchTimer,
      frame State.pending, frame State.podSettings, frame State.classes,
      frame State.tanks, frame State.yard, frame State.trunk, frame State.yardMode,
      frame State.yardTarget, frame State.forwardDrops,
      fun b hb => (hbay b).trans (restarted_active hb), fun b hb => (hbay b).trans (restarted_draining hb), ?_, span,
      hcount ▸ reservations, records, hbays, fields, events, overwrites, kinds, fun hzero => ⟨?_, ?_⟩, tags,
      fun v hv b => disarmed v hv b (mem_bayList b), fun v hv hne => spared v hv fun b _ => hne b,
      frame (·.probe.lastServed), frame (·.probe.inFlight), frame (·.probe.censusTimer),
      frame (·.probe.busActs), fun k => ?_, fun hnone k => ?_, fun c hc k => ?_, fun k => ?_, fun k => ?_⟩
    · intro b hactive hdraining
      rw [hbay, restarted_other hactive hdraining]
      rfl
    · refine List.eq_nil_iff_forall_not_mem.2 fun k hk => ?_
      obtain ⟨b, code, st, hactive, -⟩ := kinds k hk
      rw [hquiet hzero b] at hactive
      cases hactive
    · exact still fun b _ => hquiet hzero b
    · exact (hprobe k).1
    · obtain ⟨-, hwant, -⟩ := hprobe k
      rw [hwant, hnone]
      rfl
    · obtain ⟨-, hwant, -⟩ := hprobe k
      rw [hwant, hc]
      rfl
    · obtain ⟨-, -, hsettle, -⟩ := hprobe k
      exact hsettle
    · obtain ⟨-, -, -, hsettle⟩ := hprobe k
      exact hsettle
  · obtain ⟨mark, pending, clock, clockSet, settings, classes, tanks, pod⟩ := warmStartCut_keeps x n s
    obtain ⟨new, ks, -, reservations, records, bays, fields, events, -, -⟩ := warm_journal x n s
    refine ⟨s.warmStartCut x n, new, exec_warmStart_cut x n h, rfl, mark.trans h, pending, clock, clockSet, settings, classes,
      tanks, pod, warmStartCut_journal_early x s, fun hn => ?_, records, bays, fun r hr => (fields r hr).1, reservations,
      warmStartCut_bay x n s⟩
    obtain ⟨m, hm⟩ : ∃ m, n.val - 1 = m + 1 := ⟨n.val - 2, by omega⟩
    rw [hm] at events
    exact ⟨_, events⟩

end Sys2Proof.BaySequencing
end

section
/-! PROOFS of the family of chapter 07. What ends an event; what the laws on deliveries and censuses read of a state and how
each command keeps them; census requests, the hand-off of a census result and the two attempts of a census; what a result
does to the delivery and the book; STRAP SET and POD SET. -/

namespace Sys2Proof.Censuses

open Sys2Proof Sys2Proof.Machine Sys2Proof.FleetRegister Sys2Proof.ServiceIntervals Sys2Proof.Authorising
  Sys2Proof.BaySequencing

/-! ## What ends an event -/

/-- R121: no census is next exactly when no flag is pending. -/
theorem nextCensus_none_iff (s : State) : s.nextCensus = none ↔ ∀ t, (s.probeTank t).want = none := by
  have hboth : (∀ t, (s.probeTank t).want = none) ↔ s.probe.tanks.t1.want = none ∧ s.probe.tanks.t2.want = none :=
    ⟨fun h => ⟨h .t1, h .t2⟩, fun h t => by cases t <;> [exact h.1; exact h.2]⟩
  rw [hboth]
  unfold State.nextCensus
  split <;> simp_all
  split <;> simp

/-- R121: the tank flagged alone, or flagged with the tank last served, is the next. -/
theorem nextCensus_some {s : State} {t : TankId} {p : Purpose} (hflag : (s.probeTank t).want = some p)
    (hother : (s.probeTank (otherTank t)).want = none ∨ s.probe.lastServed = otherTank t) :
    s.nextCensus = some (t, p) := by
  cases t with
  | t1 =>
    have h1 : s.probe.tanks.t1.want = some p := hflag
    have h2 : s.probe.tanks.t2.want = none ∨ s.probe.lastServed = .t2 := hother
    rcases h2 with h2 | h2
    · simp [State.nextCensus, h1, h2]
    · cases hw : s.probe.tanks.t2.want <;> simp [State.nextCensus, h1, hw, h2]
  | t2 =>
    have h2 : s.probe.tanks.t2.want = some p := hflag
    have h1 : s.probe.tanks.t1.want = none ∨ s.probe.lastServed = .t1 := hother
    rcases h1 with h1 | h1
    · simp [State.nextCensus, h1, h2]
    · cases hw : s.probe.tanks.t1.want <;> simp [State.nextCensus, h1, hw, h2]

/-- R121: no census starts while one is in flight. -/
theorem settled_inFlight {s : State} {c : CensusInFlight} (h : s.probe.inFlight = some c) : s.settled = s.settleWatch := by
  simp [State.settled, State.startCensus, h]

/-- R121: no census starts with no flag pending. -/
theorem settled_unflagged {s : State} (h : ∀ t, (s.probeTank t).want = none) : s.settled = s.settleWatch := by
  unfold State.settled State.startCensus
  split
  · rfl
  · rw [(nextCensus_none_iff s).2 h]

/-- R121: the next census starts when none is in flight. -/
theorem settled_begins {s : State} {t : TankId} {p : Purpose} (hfree : s.probe.inFlight = none)
    (hnext : s.nextCensus = some (t, p)) : s.settled = (s.beginCensus t p).settleWatch := by
  simp [State.settled, State.startCensus, hfree, hnext]

/-- Some bay of the tank is in a state of which the test holds. -/
theorem anyBayOn_iff (s : State) (t : TankId) (p : BayState → Bool) :
    s.anyBayOn t p = true ↔ ∃ b, (s.bay b).settings.tank = t ∧ p (s.bay b).state = true := by
  simp [State.anyBayOn, mem_bayList]

/-- R123: the states in which fuel does not move. -/
theorem moving_false_iff (st : BayState) : st.moving = false ↔ st ≠ .flowing ∧ st ≠ .trimming ∧ st ≠ .closing := by
  cases st <;> simp [BayState.moving]

/-- R123: stillness at the start of a census. -/
theorem stillNow_iff (s : State) (t : TankId) : s.stillNow t = true ↔
    (s.probeTank t).settle = none ∧ (s.tank t).receiving = false ∧
      ∀ b, (s.bay b).settings.tank = t →
        (s.bay b).state ≠ .flowing ∧ (s.bay b).state ≠ .trimming ∧ (s.bay b).state ≠ .closing := by
  have hmoving : s.anyBayOn t BayState.moving = false ↔ ∀ b, (s.bay b).settings.tank = t →
      (s.bay b).state ≠ .flowing ∧ (s.bay b).state ≠ .trimming ∧ (s.bay b).state ≠ .closing := by
    simp only [← moving_false_iff, ← Bool.not_eq_true, anyBayOn_iff, not_exists, not_and]
  simp only [State.stillNow, State.tankQuiet, Bool.and_eq_true, Bool.not_eq_true', hmoving, Option.isNone_iff_eq_none]
  tauto

/-- R177: the conditions of the watch delay timer. -/
theorem watchReady_iff (s : State) : s.watchReady = true ↔
    s.pod = .inService ∧
    (∀ b, ((s.bay b).state = .idle ∨ (s.bay b).state = .disabled) ∧ (s.bay b).slot.pending = false) ∧
    (∀ t, (s.tank t).delivery = none ∧ (s.probeTank t).want = none) ∧ s.probe.inFlight = none ∧
    s.yard.tx = [] ∧ s.trunk.tx = [] := by
  have hquiet : ∀ st : BayState, st.quiet = true ↔ st = .idle ∨ st = .disabled := fun st => by
    cases st <;> simp [BayState.quiet]
  have htanks : (∀ t, (s.tank t).delivery = none ∧ (s.probeTank t).want = none) ↔
      (s.tanks.t1.delivery = none ∧ s.probe.tanks.t1.want = none) ∧
        s.tanks.t2.delivery = none ∧ s.probe.tanks.t2.want = none :=
    ⟨fun h => ⟨h .t1, h .t2⟩, fun h t => by cases t <;> [exact h.1; exact h.2]⟩
  rw [htanks]
  simp only [State.watchReady, Bool.and_eq_true, beq_iff_eq, List.all_eq_true, mem_bayList, true_imp_iff, hquiet,
    Bool.not_eq_true', Tank.receiving, Option.isSome_eq_false_iff, Option.isNone_iff_eq_none, List.isEmpty_iff]
  tauto

/-- Settles O3: the census that starts is the next one's (R121, R123), and the watch delay timer follows its conditions (R177). -/
theorem eventEndsWithCensusStartAndWatchTimer : Obligations.EventEndsWithCensusStartAndWatchTimer := by
  intro s
  refine ⟨fun c h => settled_inFlight h, settled_unflagged, fun t p hfree hflag hother => ?_, rfl, fun h => ?_, fun h => ?_,
    watchReady_iff s⟩
  · refine ⟨_, settled_begins hfree (nextCensus_some hflag hother), rfl, rfl, rfl, rfl, rfl, decide_eq_true_iff, ?_⟩
    exact stillNow_iff s t
  · simp [State.settleWatch, h, seconds]
  · simp [State.settleWatch, h]


/-! ## What the laws on deliveries and censuses read -/

/-- The phase of a tank's delivery, if it has one. -/
def phase (k : Tank) : Option DeliveryPhase := k.delivery.map (·.phase)

theorem receiving_eq (k : Tank) : k.receiving = (phase k).isSome := by simp [phase, Tank.receiving]

theorem expects_eq (k : Tank) : k.expects = (phase k).bind DeliveryPhase.expects := by
  cases h : k.delivery <;> simp [phase, Tank.expects, h]

/-- The tank and purpose of the census in flight when that is a delivery's own. -/
def ownCensus (s : State) : Option (TankId × Purpose) :=
  s.probe.inFlight.bind fun c => if c.own then some (c.tank, c.purpose) else none

theorem ownCensus_iff (s : State) (x : TankId × Purpose) :
    ownCensus s = some x ↔ ∃ c, s.probe.inFlight = some c ∧ c.own = true ∧ (c.tank, c.purpose) = x := by
  simp [ownCensus, Option.bind_eq_some_iff]

/-- `CensusLaw` but for the flags that wait, which the end of an event settles: R124 and R141. -/
structure MarksLaw (s : State) : Prop where
  failures : ∀ t, (s.probeTank t).failures ≤ 3
  own : ∀ t p, ownCensus s = some (t, p) → (s.tank t).expects = some p

/-- R121: a flag waits only while a census is in flight. -/
def FlagsWait (s : State) : Prop := s.probe.inFlight = none → ∀ t, (s.probeTank t).want = none

theorem censusLaw_iff (s : State) : CensusLaw s ↔ FlagsWait s ∧ MarksLaw s := by
  refine and_congr_right fun _ => ⟨fun ⟨hfailures, hown⟩ => ⟨hfailures, fun t p h => ?_⟩,
    fun ⟨hfailures, hown⟩ => ⟨hfailures, fun c hc ho => hown _ _ ((ownCensus_iff ..).2 ⟨c, hc, ho, rfl⟩)⟩⟩
  obtain ⟨c, hc, ho, hx⟩ := (ownCensus_iff ..).1 h
  cases hx
  exact hown c hc ho

/-- A bay that is active after a change was active before it, on the same tank. -/
def Eases (y z : Bay) : Prop := z.state.active = true → y.state.active = true ∧ z.settings.tank = y.settings.tank

theorem Eases.of_eq {y z : Bay} (state : z.state = y.state) (settings : z.settings = y.settings) : Eases y z :=
  fun h => ⟨state ▸ h, by rw [settings]⟩

theorem Eases.of_inactive {y z : Bay} (h : z.state.active = false) : Eases y z := fun ha => by simp [h] at ha

theorem Eases.of_active {y z : Bay} (active : y.state.active = true) (settings : z.settings = y.settings) : Eases y z :=
  fun _ => ⟨active, by rw [settings]⟩

/-- No bay becomes active and no tank RECEIVING. -/
structure Quieter (s t : State) : Prop where
  bays : ∀ b, Eases (s.bay b) (t.bay b)
  tanks : ∀ k, (t.tank k).receiving = true → (s.tank k).receiving = true

theorem Quieter.refl (s : State) : Quieter s s := ⟨fun _ => .of_eq rfl rfl, fun _ h => h⟩

theorem Quieter.trans {s u t : State} (h1 : Quieter s u) (h2 : Quieter u t) : Quieter s t := by
  refine ⟨fun b ht => ?_, fun k h => h1.tanks k (h2.tanks k h)⟩
  obtain ⟨hu, htank⟩ := h2.bays b ht
  obtain ⟨hs, htank'⟩ := h1.bays b hu
  exact ⟨hs, htank.trans htank'⟩

/-- R139: what makes no bay active and no tank RECEIVING keeps the two apart. -/
theorem Quieter.keeps_receiving {s t : State} (h : Quieter s t) (hs : ReceivingLaw s) : ReceivingLaw t := by
  intro k b hk hb
  by_contra hactive
  obtain ⟨ha, htank⟩ := h.bays b (Bool.eq_true_of_not_eq_false hactive)
  rw [hs k b (h.tanks k hk) (htank ▸ hb)] at ha
  cases ha

/-- Nor does a delivery change its phase, a failure count its value or a census become a delivery's own. -/
structure Calm (s t : State) : Prop where
  bays : ∀ b, Eases (s.bay b) (t.bay b)
  phases : ∀ k, phase (t.tank k) = phase (s.tank k)
  failures : ∀ k, (t.probeTank k).failures = (s.probeTank k).failures
  own : ∀ x, ownCensus t = some x → ownCensus s = some x

theorem Calm.refl (s : State) : Calm s s := ⟨fun _ => .of_eq rfl rfl, fun _ => rfl, fun _ => rfl, fun _ h => h⟩

theorem Calm.quieter {s t : State} (h : Calm s t) : Quieter s t :=
  ⟨h.bays, fun k hk => by rwa [receiving_eq, h.phases, ← receiving_eq] at hk⟩

theorem Calm.trans {s u t : State} (h1 : Calm s u) (h2 : Calm u t) : Calm s t :=
  ⟨(h1.quieter.trans h2.quieter).bays, fun k => (h2.phases k).trans (h1.phases k),
    fun k => (h2.failures k).trans (h1.failures k), fun x h => h1.own x (h2.own x h)⟩

theorem Calm.keeps_marks {s t : State} (h : Calm s t) (hs : MarksLaw s) : MarksLaw t := by
  refine ⟨fun k => (h.failures k).trans_le (hs.failures k), fun k p hp => ?_⟩
  rw [expects_eq, h.phases, ← expects_eq]
  exact hs.own k p (h.own _ hp)

/-- What a part of a command keeps of the laws. -/
structure Keeps (s t : State) : Prop where
  receiving : ReceivingLaw s → ReceivingLaw t
  marks : MarksLaw s → MarksLaw t

theorem Calm.keeps {s t : State} (h : Calm s t) : Keeps s t := ⟨h.quieter.keeps_receiving, h.keeps_marks⟩

theorem Keeps.trans {s u t : State} (h1 : Keeps s u) (h2 : Keeps u t) : Keeps s t :=
  ⟨fun h => h2.receiving (h1.receiving h), fun h => h2.marks (h1.marks h)⟩

/-- What a whole command keeps of the laws. -/
structure Kept (s t : State) : Prop where
  receiving : ReceivingLaw s → ReceivingLaw t
  census : CensusLaw s → CensusLaw t

theorem Kept.refl (s : State) : Kept s s := ⟨id, id⟩

/-- R121: what keeps the flags and the census in flight, and is calm, keeps both laws. -/
theorem Calm.kept {s t : State} (h : Calm s t) (flight : t.probe.inFlight = none → s.probe.inFlight = none)
    (flags : ∀ k, (t.probeTank k).want = (s.probeTank k).want) : Kept s t := by
  refine ⟨h.quieter.keeps_receiving, fun hs => ?_⟩
  obtain ⟨hwait, hmarks⟩ := (censusLaw_iff s).1 hs
  exact (censusLaw_iff t).2 ⟨fun hf k => (flags k).trans (hwait (flight hf) k), h.keeps_marks hmarks⟩

/-! ## The shared operations -/

/-- An operation that leaves the bays and the tanks. -/
theorem Quieter.of_frame {s t : State} (h : t.bays = s.bays ∧ t.tanks = s.tanks) : Quieter s t := by
  obtain ⟨hbays, htanks⟩ := h
  exact ⟨fun b => by rw [State.bay_congr hbays]; exact .of_eq rfl rfl, fun k hk => by rwa [State.tank_congr htanks] at hk⟩

/-- A delivery that stays or ends leaves no more tanks RECEIVING. -/
theorem setTank_quieter {s : State} {t : TankId} {k : Tank} (h : k.receiving = true → (s.tank t).receiving = true) :
    Quieter s (s.setTank t k) := by
  refine ⟨fun _ => .of_eq rfl rfl, fun u hu => ?_⟩
  by_cases he : u = t
  · subst he
    exact h (by simpa using hu)
  · simpa [he] using hu

/-- An operation that leaves the bays, the tanks and the Probe Bus Controller. -/
theorem Calm.of_frame {s t : State} (h : t.bays = s.bays ∧ t.tanks = s.tanks ∧ t.probe = s.probe) : Calm s t := by
  obtain ⟨hbays, htanks, hprobe⟩ := h
  exact ⟨fun b => by rw [State.bay_congr hbays]; exact .of_eq rfl rfl, fun k => by rw [State.tank_congr htanks],
    fun k => by rw [State.probeTank_congr hprobe], fun x hx => by rwa [ownCensus, hprobe] at hx⟩

/-- Operations made one after another. -/
theorem Calm.foldl {α : Type} {f : State → α → State} (hf : ∀ s a, Calm s (f s a)) (l : List α) (s : State) :
    Calm s (l.foldl f s) := by
  induction l generalizing s with
  | nil => exact .refl s
  | cons a l ih => exact (hf s a).trans (ih _)

theorem calm_setBay {s : State} {b : BayId} {y : Bay} (h : Eases (s.bay b) y) : Calm s (s.setBay b y) := by
  refine ⟨fun k => ?_, fun _ => rfl, fun _ => rfl, fun _ hx => hx⟩
  by_cases hk : k = b
  · subst hk
    simpa using h
  · simpa [hk] using Eases.of_eq rfl rfl

theorem calm_setTank {s : State} {t : TankId} {k : Tank} (h : phase k = phase (s.tank t)) : Calm s (s.setTank t k) := by
  refine ⟨fun b => .of_eq rfl rfl, fun u => ?_, fun _ => rfl, fun _ hx => hx⟩
  by_cases hu : u = t
  · subst hu
    simpa using h
  · simp [hu]

theorem calm_setProbeTank {s : State} {t : TankId} {k : ProbeTank} (h : k.failures = (s.probeTank t).failures) :
    Calm s (s.setProbeTank t k) := by
  refine ⟨fun b => .of_eq rfl rfl, fun _ => rfl, fun u => ?_, fun _ hx => hx⟩
  by_cases hu : u = t
  · subst hu
    simpa using h
  · simp [hu]

/-- A census in flight that is a delivery's own only where it was before. -/
theorem calm_setFlight {s : State} {f : Option CensusInFlight}
    (h : ∀ c, f = some c → c.own = true → ∃ d, s.probe.inFlight = some d ∧ d.own = true ∧ d.tank = c.tank ∧
      d.purpose = c.purpose) : Calm s (s.setFlight f) := by
  refine ⟨fun b => .of_eq rfl rfl, fun _ => rfl, fun _ => rfl, fun x hx => ?_⟩
  obtain ⟨c, hc, ho, rfl⟩ := (ownCensus_iff ..).1 hx
  obtain ⟨d, hd, hdo, htank, hpurpose⟩ := h c hc ho
  exact (ownCensus_iff ..).2 ⟨d, hd, hdo, by rw [htank, hpurpose]⟩

theorem calm_drive (s : State) (acts : List BusAct) : Calm s (s.drive acts) :=
  ⟨fun _ => .of_eq rfl rfl, fun _ => rfl, fun _ => rfl, fun _ h => h⟩

theorem calm_log (s : State) (k : EventKind) : Calm s (s.log k) := .of_frame (by simp)

theorem calm_tryYardRate (s : State) : Calm s s.tryYardRate := .of_frame (by simp)

theorem calm_tickClock (s : State) : Calm s s.tickClock := .of_frame (by simp)

theorem calm_restartWatch (s : State) : Calm s s.restartWatch := .of_frame (by simp)

theorem calm_setYardMode (s : State) (m : RateMode) : Calm s (s.setYardMode m) := .of_frame (by simp)

theorem calm_raiseCensus (s : State) (t : TankId) (p : Purpose) : Calm s (s.raiseCensus t p) := calm_setProbeTank rfl

theorem calm_startSettle (s : State) (t : TankId) : Calm s (s.startSettle t) := calm_setProbeTank rfl

theorem calm_startCensusTimer (s : State) : Calm s s.startCensusTimer :=
  ⟨fun _ => .of_eq rfl rfl, fun _ => rfl, fun _ => rfl, fun _ h => h⟩

theorem calm_reformStanding (s : State) (t : TankId) : Calm s (s.reformStanding t) := by
  unfold State.reformStanding
  dsimp only
  split
  · exact .refl s
  · exact .trans (calm_setTank (by rfl)) (calm_log ..)

theorem calm_debit (s : State) (t : TankId) (n : Nat) : Calm s (s.debit t n) := by
  unfold State.debit
  split
  · exact .refl s
  · exact .trans (calm_setTank rfl : Calm s (s.addToBook t _)) (calm_reformStanding ..)

/-- R85 to R87, R123: a completion leaves its bay inactive and starts a settle timer. -/
theorem calm_complete (s : State) (b : BayId) (c : CloseCause) : Calm s (s.complete b c) := by
  have hsettle := calm_startSettle s (s.bay b).serving.tank
  refine ⟨fun k => ?_, fun k => ?_, fun k => ?_, fun x hx => hsettle.own x ?_⟩
  · by_cases hk : k = b
    · subst hk
      rw [State.complete_bay_same]
      exact .of_inactive (movedOn_frame c _).1
    · rw [State.complete_bay_other _ _ _ _ hk]
      exact .of_eq rfl rfl
  · rw [State.tank_congr (t := s) (by simp)]
  · rw [State.probeTank_congr (State.complete_probe s b c), hsettle.failures]
  · rwa [ownCensus, State.complete_probe] at hx

theorem calm_endIssue (s : State) (c : CloseCause) (b : BayId) : Calm s (s.endIssue c b) := by
  unfold State.endIssue
  split
  · exact calm_complete ..
  · exact calm_setBay (.of_active (by simp [*, BayState.active]) rfl)
  · exact calm_setBay (.of_active (by simp [*, BayState.active]) rfl)
  · exact .refl s

/-- A bay changed within its issue or outside it, and then its issue completed. -/
theorem calm_setBay_complete {s : State} {b : BayId} {y : Bay} (c : CloseCause) (h : Eases (s.bay b) y) :
    Calm s ((s.setBay b y).complete b c) :=
  (calm_setBay h).trans (calm_complete ..)

/-! ## Tallies and valve reports -/

/-- R108: a tally handed over to a bay in the state it was taken in. -/
theorem calm_handTally (s : State) (b : BayId) (t : Tally) (sample : Option Nat) :
    Calm s (s.handTally b t sample (s.bay b).state) := by
  have hopen : (s.bay b).state.active = true → Calm s (s.setBay b (tallyFlowing t sample (s.bay b))) := fun h =>
    calm_setBay (.of_active h (tallyFlowing_frame t sample h).1)
  have hinactive : ∀ taken, Calm s (s.tallyInactive b t taken) := by
    intro taken
    have hunaccounted : Calm s (s.unaccounted b) := by
      unfold State.unaccounted
      dsimp only
      split
      · refine (calm_log ..).trans (calm_setBay ?_)
        split
        · exact .of_inactive rfl
        · exact .of_eq rfl rfl
      · exact .refl s
    unfold State.tallyInactive
    dsimp only
    split
    · exact hunaccounted.trans ((calm_setBay (.of_inactive rfl)).trans (calm_log ..))
    · exact hunaccounted
  unfold State.handTally
  split
  · unfold State.tallyGranted
    split
    · exact calm_setBay_complete _ (.of_eq rfl rfl)
    · split
      · exact calm_setBay (.of_active (by simp [*, BayState.active]) rfl)
      · exact .refl s
  · exact hopen (by simp [*, BayState.active])
  · exact hopen (by simp [*, BayState.active])
  · obtain ⟨settings, -, state⟩ := closingTally_frame t sample (s.bay b)
    unfold State.tallyClosing
    dsimp only
    split
    · exact calm_setBay_complete _ (.of_eq state settings)
    · exact calm_setBay (.of_eq state settings)
  · exact hinactive _

/-- R101: the work done for one tally. -/
theorem calm_takeTally (s : State) (b : BayId) (t : Tally) : Calm s (s.takeTally b t) := by
  unfold State.takeTally
  dsimp only
  generalize meter (s.bay b) (s.tank (s.bay b).settings.tank) t = m
  obtain ⟨settings, -, state⟩ := addTally_frame m t.pulses (s.bay b)
  let u := (s.setBay b ((s.bay b).addTally m t.pulses)).debit (s.bay b).settings.tank m.net
  have hmetered : Calm s u := (calm_setBay (.of_eq state settings)).trans (calm_debit ..)
  have hstate : (u.bay b).state = (s.bay b).state := by simpa [u, State.bay] using state
  have hhanded := calm_handTally u b t m.sample
  rw [hstate] at hhanded
  exact hmetered.trans hhanded

/-- R110: a valve report taken. -/
theorem calm_takeValve (s : State) (b : BayId) (r : ReportedValve) : Calm s (s.takeValve b r) := by
  unfold State.takeValve
  refine .trans (calm_setBay (y := { s.bay b with reported := some r }) (.of_eq rfl rfl)) ?_
  generalize s.setBay b { s.bay b with reported := some r } = u
  have hfaulty : ∀ x : State, Calm u x → Calm u (if r.health = .faulty then x else u) := by
    intro x hx
    split
    · exact hx
    · exact .refl u
  have hidle : Calm u (u.faultIdle b .valve) := (calm_setBay (.of_inactive rfl)).trans (calm_log ..)
  have hclosing : (u.bay b).state.active = true → Calm u (u.setBay b ((u.bay b).setValve.toClosing .valve)) :=
    fun h => calm_setBay (.of_active h rfl)
  unfold State.handValve
  split
  · exact hfaulty _ (calm_setBay_complete _ (.of_eq rfl rfl))
  · exact hfaulty _ (hclosing (by simp [*, BayState.active]))
  · exact hfaulty _ (hclosing (by simp [*, BayState.active]))
  · refine calm_setBay ?_
    unfold Bay.closingReport
    dsimp only
    split <;> exact .of_eq rfl rfl
  · exact hfaulty _ hidle
  · exact hfaulty _ hidle
  · exact .refl u
  · exact .refl u

/-! ## Censuses and deliveries -/

/-- R137: the water test sets a hold and ends issues. -/
theorem calm_waterTest (s : State) (t : TankId) (level : Nat) : Calm s (s.waterTest t level) := by
  unfold State.waterTest
  split
  · refine .trans (.trans (calm_setTank (by rfl)) (calm_log ..)) (.foldl (fun u b => ?_) _ _)
    split
    · exact calm_endIssue ..
    · exact .refl u
  · exact .refl s

theorem calm_varianceTest (s : State) (t : TankId) (net : Int) : Calm s (s.varianceTest t net) := by
  unfold State.varianceTest
  dsimp only
  split
  · split
    · split
      · exact .trans (.trans (calm_setTank (by rfl)) (calm_log ..)) (calm_setTank (by rfl))
      · exact .trans (calm_setTank (by rfl)) (calm_log ..)
    · exact calm_setTank rfl
  · exact calm_setTank rfl

theorem calm_censusTests (s : State) (r : CensusResult) : Calm s (s.censusTests r) := by
  unfold State.censusTests
  split
  · dsimp only
    split
    · exact (calm_waterTest ..).trans (calm_varianceTest ..)
    · exact calm_waterTest ..
  · exact .refl s

/-- R141, R143: a delivery's own result opens or ends the delivery; no count and no census is touched. -/
theorem applyOwn_quieter (s : State) (t : TankId) (own : Bool) (net : Option Int) :
    Quieter s (s.applyOwn t own net) ∧ (s.applyOwn t own net).probe = s.probe := by
  unfold State.applyOwn
  split
  · rename_i d hd
    split
    · exact ⟨setTank_quieter fun _ => by simp [Tank.receiving, hd], rfl⟩
    · have hbook : Quieter s (s.addToBook t (d.docket * 1000000)) := (calm_setTank (by rfl)).quieter
      have hended : ∀ k : Tank, Quieter (s.addToBook t (d.docket * 1000000))
          ((s.addToBook t (d.docket * 1000000)).setTank t { k with delivery := none }) := fun k =>
        setTank_quieter fun h => by simp [Tank.receiving] at h
      unfold State.completeDelivery
      exact ⟨(hbook.trans (hended _)).trans ((calm_log ..).trans (calm_reformStanding ..)).quieter, by simp⟩
    · exact ⟨.refl s, rfl⟩
  · exact ⟨.refl s, rfl⟩

/-- R124: the failure count after an outcome lies from 0 to 3. -/
theorem nextFailures_le (failed : Bool) (n : Nat) : nextFailures failed n ≤ 3 := by
  unfold nextFailures
  split
  · exact Nat.min_le_right ..
  · exact Nat.zero_le _

/-- R122: the hand-off of a result ends the census, so that no census is left to be a delivery's own. -/
theorem handOff_keeps (s : State) (c : CensusInFlight) (outcome : CensusOutcome) (reading : Option Reading) :
    Keeps s (s.handOff c outcome reading) := by
  let gauged := s.gaugeStep c.tank (outcome == .failed)
  let r := censusResult gauged c outcome reading
  let taken := gauged.setTank r.tank ((gauged.tank r.tank).takeResult r)
  let moved := taken.applyOwn r.tank c.own (r.volumes.map (·.net))
  have hend : s.handOff c outcome reading = (moved.censusTests r).endCensus c.tank := rfl
  have hgauged : Quieter s gauged := .of_frame (by simp [gauged, State.gaugeStep])
  obtain ⟨hquieter, hprobe⟩ := applyOwn_quieter taken r.tank c.own (r.volumes.map (·.net))
  have hmoved : Quieter gauged moved := .trans (calm_setTank rfl : Calm gauged taken).quieter hquieter
  have htests := calm_censusTests moved r
  rw [hend]
  refine ⟨?_, fun hs => ⟨fun k => ?_, fun t p h => ?_⟩⟩
  · refine Quieter.keeps_receiving ((hgauged.trans hmoved).trans (htests.quieter.trans ⟨fun b => ?_, fun k hk => hk⟩))
    exact .of_eq rfl rfl
  · show ((moved.censusTests r).probeTank k).failures ≤ 3
    rw [htests.failures, State.probeTank_congr (t := gauged) hprobe]
    by_cases hk : k = c.tank
    · subst hk
      simpa [gauged, State.gaugeStep, State.probeTank] using nextFailures_le ..
    · simpa [gauged, State.gaugeStep, State.probeTank, hk] using hs.failures k
  · cases h

theorem ackFails_keeps {s : State} {c : CensusInFlight} (hc : s.probe.inFlight = some c) (ph : AckPhase) :
    Keeps s (s.ackFails c ph) := by
  have hdrive := calm_drive s (ackErrorActs c.address ph)
  unfold State.ackFails
  dsimp only
  split
  · refine (hdrive.trans (calm_setFlight fun d hd ho => ?_)).keeps
    cases hd
    exact ⟨c, hc, ho, rfl, rfl⟩
  · exact hdrive.keeps.trans (handOff_keeps ..)

theorem calm_beginRetry {s : State} {c : CensusInFlight} (hc : s.probe.inFlight = some c) : Calm s (s.beginRetry c) := by
  refine .trans (calm_setFlight fun d hd ho => ?_) (calm_drive ..)
  cases hd
  exact ⟨c, hc, ho, rfl, rfl⟩

/-- R141: what becomes of a delivery is no matter to a census that is not its own. -/
theorem setTank_keeps_marks {s : State} {t : TankId} {k : Tank} (h : ∀ p, ownCensus s ≠ some (t, p)) (hs : MarksLaw s) :
    MarksLaw (s.setTank t k) := by
  refine ⟨hs.failures, fun u p hu => ?_⟩
  have hne : u ≠ t := fun he => h p (he ▸ hu)
  rw [State.tank_setTank_other _ _ _ _ hne]
  exact hs.own u p hu

/-- R141: no census is the own one of a delivery that expects none, or of a tank without delivery. -/
theorem ownCensus_ne {s : State} {t : TankId} (hs : MarksLaw s) (h : (s.tank t).expects = none) (p : Purpose) :
    ownCensus s ≠ some (t, p) := fun hp => by simp [hs.own t p hp] at h

/-- R121: the census in flight of a tank is its delivery's own no more. -/
theorem disown_own (s : State) (t : TankId) (x : TankId × Purpose) :
    ownCensus (s.disown t) = some x ↔ ownCensus s = some x ∧ x.1 ≠ t := by
  simp only [ownCensus_iff, State.disown, State.setFlight_probe, Option.map_eq_some_iff]
  constructor
  · rintro ⟨_, ⟨d, hd, rfl⟩, ho, rfl⟩
    split at ho
    · cases ho
    · rename_i hne
      rw [if_neg hne]
      exact ⟨⟨d, hd, ho, rfl⟩, hne⟩
  · rintro ⟨⟨d, hd, ho, rfl⟩, hne⟩
    exact ⟨_, ⟨d, hd, rfl⟩, by rw [if_neg hne]; exact ho, by rw [if_neg hne]⟩

theorem calm_disown (s : State) (t : TankId) : Calm s (s.disown t) :=
  ⟨fun _ => .of_eq rfl rfl, fun _ => rfl, fun _ => rfl, fun x h => ((disown_own s t x).1 h).1⟩

/-- R131, R133, R140: some active bay is on the tank. -/
theorem tankBusy_iff (s : State) (t : TankId) :
    s.tankBusy t = true ↔ ∃ b, (s.bay b).settings.tank = t ∧ (s.bay b).state.active = true :=
  anyBayOn_iff ..

/-- R140: a delivery is opened only on a tank with no active bay, which has none. -/
theorem deliveryOpen_keeps (r : Nat × Nat) (s : State) : Keeps s (deliveryOpen r s).1 := by
  unfold deliveryOpen
  split
  · exact (Calm.refl s).keeps
  rename_i t _
  split
  · exact (Calm.refl s).keeps
  rename_i hbusy
  split
  · exact (Calm.refl s).keeps
  rename_i hreceiving
  refine Keeps.trans ⟨fun hs k b hk hb => ?_, fun hs => setTank_keeps_marks (ownCensus_ne hs ?_) hs⟩ (calm_raiseCensus ..).keeps
  · by_cases h : k = t
    · subst h
      by_contra hactive
      exact hbusy ((tankBusy_iff s k).2 ⟨b, hb, Bool.eq_true_of_not_eq_false hactive⟩)
    · rw [State.tank_setTank_other _ _ _ _ h] at hk
      exact hs k b hk hb
  · rw [Bool.not_eq_true, receiving_eq, Option.isSome_eq_false_iff, Option.isNone_iff_eq_none] at hreceiving
    rw [expects_eq, hreceiving]
    rfl

/-- R142, R144: a delivery closed, where no census is its own. -/
theorem closeDelivery_keeps {s : State} {t : TankId} {d : Delivery} (expired : Bool) (hd : (s.tank t).delivery = some d)
    (h : MarksLaw s → ∀ p, ownCensus s ≠ some (t, p)) : Keeps s (s.closeDelivery t d expired) := by
  refine Keeps.trans ⟨?_, fun hs => setTank_keeps_marks (h hs) hs⟩ (calm_raiseCensus ..).keeps
  exact (setTank_quieter fun _ => by simp [Tank.receiving, hd]).keeps_receiving

/-- R142: an OPEN delivery expects no census. -/
theorem deliveryClose_keeps (n : Nat) (s : State) : Keeps s (deliveryClose n s).1 := by
  unfold deliveryClose
  split
  · exact (Calm.refl s).keeps
  split
  · exact (Calm.refl s).keeps
  rename_i d hd
  split
  · exact (Calm.refl s).keeps
  · exact (Calm.refl s).keeps
  · rename_i hphase
    refine closeDelivery_keeps _ hd fun hs => ownCensus_ne hs ?_
    simp [Tank.expects, hd, hphase, DeliveryPhase.expects]

/-- R145: an aborted delivery leaves no census its own. -/
theorem deliveryAbort_keeps (n : Nat) (s : State) : Keeps s (deliveryAbort n s).1 := by
  have habort : ∀ t, Keeps s ((s.setTank t { s.tank t with delivery := none }).disown t) := by
    intro t
    show Keeps s ((s.disown t).setTank t _)
    refine (calm_disown s t).keeps.trans ⟨?_, setTank_keeps_marks fun p hp => ?_⟩
    · exact (setTank_quieter fun h => by simp [Tank.receiving] at h).keeps_receiving
    · exact ((disown_own s t _).1 hp).2 rfl
  unfold deliveryAbort
  split
  · exact (Calm.refl s).keeps
  split
  · exact (Calm.refl s).keeps
  split
  · exact (Calm.refl s).keeps
  · exact (habort _).trans (calm_log ..).keeps

/-- R144: the census in flight is disowned before the window's expiry closes the delivery. -/
theorem windowExpires_keeps (s : State) (t : TankId) : Keeps s (s.windowExpires t) := by
  unfold State.windowExpires
  split
  · rename_i d hd
    exact (calm_disown s t).keeps.trans (closeDelivery_keeps _ hd fun _ p hp => ((disown_own s t _).1 hp).2 rfl)
  · exact (Calm.refl s).keeps

/-! ## Bays, tanks, ports and time -/

/-- R76: BAY SET finds the bay inactive and leaves it so. -/
theorem calm_baySet (r : BaySetReq) (s : State) : Calm s (baySet r s).1 := by
  unfold baySet
  split
  · split
    · exact .refl s
    · rename_i hrefused
      simp only [BayState.refusesSet, Bool.or_eq_true, not_or, Bool.not_eq_true] at hrefused
      exact calm_setBay (.of_inactive (configure_frame _ hrefused.1).2)
  · exact .refl s

theorem calm_bayStop (n : Nat) (s : State) : Calm s (bayStop n s).1 := by
  unfold bayStop
  split
  · exact .refl s
  · exact calm_endIssue ..

theorem calm_bayRelease (n : Nat) (s : State) : Calm s (bayRelease n s).1 := by
  unfold bayRelease
  split
  · exact .refl s
  · split
    · exact calm_setBay (.of_inactive rfl)
    · exact .refl s

theorem calm_tankSet (r : TankSetReq) (s : State) : Calm s (tankSet r s).1 := by
  unfold tankSet
  split
  · split
    · exact .refl s
    · exact .trans (calm_setTank (by rfl)) (calm_reformStanding ..)
  · exact .refl s

theorem calm_tankClear (n : Nat) (s : State) : Calm s (tankClear n s).1 := by
  unfold tankClear
  split
  · exact .refl s
  · exact calm_setTank rfl

theorem calm_stockSet (r : Nat × Nat) (s : State) : Calm s (stockSet r s).1 := by
  unfold stockSet
  split
  · exact .refl s
  · split
    · exact .refl s
    · exact .trans (.trans (calm_setTank (by rfl)) (calm_log ..)) (calm_reformStanding ..)

theorem calm_censusNow (n : Nat) (s : State) : Calm s (censusNow n s).1 := by
  unfold censusNow
  split
  · exact .refl s
  · exact calm_raiseCensus ..

theorem calm_strapSet (r : StrapSetReq) (s : State) : Calm s (strapSet r s).1 := by
  unfold strapSet State.loadStrap
  split
  · dsimp only
    split
    · exact .refl s
    split
    · exact .refl s
    · split <;> exact calm_setTank rfl
  all_goals exact .refl s

/-- R119, R173: POD SET starts timers of the controller and the pod. -/
theorem calm_podSet (r : PodSetReq) (s : State) : Calm s (podSet r s).1 := by
  have hset : Calm s { s with podSettings := r.settings } := .of_frame ⟨rfl, rfl, rfl⟩
  exact ((hset.trans (calm_startCensusTimer _)).trans (calm_restartWatch _)).trans (calm_tryYardRate _)

/-- R176: a halt ends issues. -/
theorem calm_podSuspend (n : Nat) (s : State) : Calm s (podSuspend n s).1 := by
  unfold podSuspend
  split
  · exact .refl s
  · split
    · exact .refl s
    · have hpod : Calm s (if s.pod = .suspended then s else s.changePod .suspended) := .of_frame (by split <;> simp)
      dsimp only
      split
      · exact hpod.trans (.foldl (fun u b => calm_endIssue u .site b) _ _)
      · exact hpod

/-- R162: a transmitter that takes a frame leaves all but a slot. -/
theorem calm_takeNext (s : State) (p : PortId) : Calm s (s.takeNext p) := by
  unfold State.takeNext
  split
  · rename_i b _
    exact .trans (calm_setBay (b := b) (y := { s.bay b with slot := { (s.bay b).slot with pending := false } }) (.of_eq rfl rfl))
      (.of_frame ⟨rfl, rfl, rfl⟩)
  · split
    · exact .refl s
    · cases p <;> exact .of_frame ⟨rfl, rfl, rfl⟩

/-- A port is no part of the bays, the tanks or the controller. -/
theorem calm_setPort (s : State) (p : PortId) (x : Port) : Calm s (s.setPort p x) := by
  cases p <;> exact .of_frame ⟨rfl, rfl, rfl⟩

theorem calm_frameEnds (s : State) (p : PortId) (e : RxEnd) : Calm s (s.frameEnds p e) := by
  unfold State.frameEnds State.placeFrame
  repeat' split
  · exact .refl s
  · exact calm_setPort ..
  · exact .refl s
  · exact (calm_setPort ..).trans (calm_restartWatch _)
  · exact .refl s
  · exact calm_setPort ..

theorem calm_receiveChar (p : PortId) (s : State) (c : RxChar) : Calm s (State.receiveChar p s c) := by
  unfold State.receiveChar
  dsimp only
  split
  · exact calm_setPort ..
  · exact (calm_setPort ..).trans (calm_frameEnds ..)

theorem calm_lastCharacter (s : State) (p : PortId) : Calm s (s.lastCharacter p) := by
  unfold State.lastCharacter
  split
  · exact .refl s
  · exact calm_setPort ..
  · dsimp only
    split
    · split
      · exact (calm_setPort ..).trans (calm_setYardMode ..)
      · exact calm_setPort ..
    · exact calm_setPort ..

theorem calm_passFromTrunk (s : State) (f : Frame) : Calm s (s.passFromTrunk f) := by
  unfold State.passFromTrunk
  repeat' split
  all_goals exact .of_frame (by simp)

/-- R77: time that passes lowers timers alone. -/
theorem calm_elapse (s : State) (ms : Nat) : Calm s (s.elapse ms) := by
  refine ⟨fun b => ?_, fun k => ?_, fun k => ?_, fun x hx => ?_⟩
  · have hbay : (s.elapse ms).bay b = (s.bay b).elapse ms := by simp [State.elapse, State.bay]
    rw [hbay]
    exact .of_eq rfl rfl
  · have htank : (s.elapse ms).tank k = (s.tank k).elapse ms := by simp [State.elapse, State.tank]
    rw [htank]
    simp [phase, Tank.elapse, Function.comp_def]
  · simp [State.elapse, State.probeTank, Probe.elapse]
  · obtain ⟨c, hc, ho, rfl⟩ := (ownCensus_iff ..).1 hx
    obtain ⟨d, hd, rfl⟩ := Option.map_eq_some_iff.1 hc
    exact (ownCensus_iff ..).2 ⟨d, hd, ho, rfl⟩

/-- Nor does it touch a flag or end a census. -/
theorem kept_idleStep (s : State) : Kept s s.idleStep := by
  have hflight : (s.elapse 1).probe.inFlight = none → s.probe.inFlight = none := fun h => by
    simpa [State.elapse, Probe.elapse] using h
  have hflags : ∀ k, ((s.elapse 1).probeTank k).want = (s.probeTank k).want := fun k => by
    simp [State.elapse, State.probeTank, Probe.elapse]
  have helapse := calm_elapse s 1
  unfold State.idleStep
  dsimp only
  split
  · split
    · exact Calm.kept (helapse.trans (calm_tickClock _)) hflight hflags
    · exact Calm.kept (helapse.trans (.of_frame ⟨rfl, rfl, rfl⟩)) hflight hflags
  · exact .refl s

/-! ## Starts -/

theorem calm_restartBay (s : State) (b : BayId) : Calm s (s.restartBay b) := by
  unfold State.restartBay
  dsimp only
  split
  · exact calm_complete ..
  · split
    · refine calm_setBay (.of_inactive ?_)
      rw [Bay.toDraining_state]
      split <;> rfl
    · exact .refl s

/-- R181: each part of a warm start. -/
theorem calm_warmPart (straps : Byte) {p : State → State} (hp : p ∈ warmParts straps) (s : State) : Calm s (p s) := by
  simp only [warmParts, bayList, List.map_cons, List.map_nil, List.cons_append, List.nil_append, List.mem_cons,
    List.not_mem_nil, or_false] at hp
  rcases hp with rfl | rfl | rfl | rfl | rfl | rfl | rfl | rfl
  · exact ⟨fun _ => .of_eq rfl rfl, fun _ => rfl, fun _ => rfl, fun _ h => h⟩
  · exact calm_log ..
  · unfold State.leaveWatch
    split
    · exact .of_frame (by simp)
    · exact .refl s
  · exact calm_restartBay ..
  · exact calm_restartBay ..
  · exact calm_restartBay ..
  · exact calm_restartBay ..
  · refine ⟨fun b => ?_, fun _ => rfl, fun _ => rfl, fun _ h => h⟩
    have hbay : (s.mapBays (Bay.order .shut)).bay b = (s.bay b).order .shut := by simp [State.mapBays, State.bay]
    rw [hbay]
    exact .of_eq rfl rfl

theorem calm_makeParts {ps : List (State → State)} (h : ∀ p ∈ ps, ∀ s, Calm s (p s)) (s : State) :
    Calm s (s.makeParts ps) := by
  induction ps generalizing s with
  | nil => exact .refl s
  | cons p ps ih => exact (h p List.mem_cons_self s).trans (ih (fun q hq => h q (List.mem_cons_of_mem _ hq)) _)

/-- R129: a warm start abandons the census in flight. -/
theorem calm_restartProbe (s : State) : Calm s s.restartProbe := by
  refine ⟨fun b => by rw [State.bay_congr (restartProbe_bays s)]; exact .of_eq rfl rfl, fun k => ?_, fun k => ?_, fun x hx => ?_⟩
  · rw [restartProbe_eq]
    rfl
  · rw [restartProbe_probeTank]
  · rw [ownCensus, restartProbe_eq] at hx
    cases hx

/-- R129, R181: the parts of a warm start that come before the controller's leave its flags and its census. -/
theorem warmParts_probe (straps : Byte) (n : Nat) (s : State) :
    (s.makeParts ((warmParts straps).take n)).probe.inFlight = s.probe.inFlight ∧
      ∀ k, ((s.makeParts ((warmParts straps).take n)).probeTank k).want = (s.probeTank k).want := by
  have hopening : (opening straps n s).probe.inFlight = s.probe.inFlight ∧
      (opening straps n s).probe.tanks = s.probe.tanks := by
    unfold opening openingParts State.leaveWatch
    rcases n with _ | _ | _ | n
    · exact ⟨rfl, rfl⟩
    · exact ⟨rfl, rfl⟩
    · exact ⟨rfl, rfl⟩
    · simp only [List.take_succ_cons, List.take_nil, State.makeParts, List.foldl_cons, List.foldl_nil]
      split <;> exact ⟨rfl, rfl⟩
  have hflight : (restarting (reached n) (opening straps n s)).probe.inFlight = s.probe.inFlight := by
    unfold restarting
    rw [foldl_treat_changes]
    exact hopening.1
  have hwant : ∀ k, ((restarting (reached n) (opening straps n s)).probeTank k).want = (s.probeTank k).want := by
    intro k
    unfold restarting
    rw [(foldl_treat_settling .interrupted (·.state.active) redrained (reached_nodup n) (opening straps n s) k).keeps]
    simp [State.probeTank, hopening.2]
  rw [makeParts_warm]
  split
  · exact ⟨hflight, hwant⟩
  · exact ⟨hflight, hwant⟩

/-! ## Every command -/

/-- R121: what ends an event leaves no flag waiting without a census in flight, and starts a census as its tank's delivery
expects it or not. -/
theorem settled_census {s : State} (hs : MarksLaw s) : CensusLaw s.settled := by
  rw [censusLaw_iff]
  cases hflight : s.probe.inFlight with
  | some c =>
    rw [settled_inFlight hflight]
    exact ⟨fun h => by simp [hflight] at h, (Calm.of_frame (by simp)).keeps_marks hs⟩
  | none =>
    cases hnext : s.nextCensus with
    | none =>
      have hnone := (nextCensus_none_iff s).1 hnext
      rw [settled_unflagged hnone]
      exact ⟨fun _ => hnone, (Calm.of_frame (by simp)).keeps_marks hs⟩
    | some x =>
      obtain ⟨t, p⟩ := x
      rw [settled_begins hflight hnext]
      refine ⟨fun h => (by cases h), fun k => ?_, fun k q hq => ?_⟩
      · have hflag := (calm_setProbeTank (s := s) (t := t) (k := { s.probeTank t with want := none }) rfl).failures k
        exact hflag.trans_le (hs.failures k)
      · obtain ⟨c, hc, ho, hx⟩ := (ownCensus_iff ..).1 hq
        cases hc
        cases hx
        exact of_decide_eq_true ho

theorem settled_quieter (s : State) : Quieter s s.settled := .of_frame (by simp)

/-- An event, whatever its occasion. -/
theorem event_kept {o : Bool} {e : State → State} {s t : State} (h : event o e s = .next t)
    (he : o = true → Keeps s (e s)) : Kept s t := by
  rw [event_eq] at h
  cases h
  split
  · have hkeeps := he ‹_›
    refine ⟨fun hs => (settled_quieter _).keeps_receiving (hkeeps.receiving hs), fun hs => ?_⟩
    exact settled_census (hkeeps.marks ((censusLaw_iff s).1 hs).2)
  · exact .refl s

/-- An event whose work is calm. -/
theorem event_calm {o : Bool} {e : State → State} {s t : State} (h : event o e s = .next t)
    (he : o = true → Calm s (e s)) : Kept s t :=
  event_kept h fun ho => (he ho).keeps

/-- A request, whatever its fields. -/
theorem request_kept {α : Type} {kind : Byte} {parse : List Byte → Option α} {bad : State → ReplyFields}
    {serve : α → State → State × Reply} (hserve : ∀ a s, Keeps s (serve a s).1) {s t : State}
    (h : request kind parse bad serve s = .next t) : Kept s t := by
  have htaken : Calm s s.taken := .of_frame (by simp)
  have hanswer : ∀ (f : Frame) (u : State) (r : Reply), Keeps s.taken u → answered f u r = .next t → Kept s t := by
    intro f u r hu ha
    have hreply : Calm u (if f.dst = 255 then u else u.queueReply f r) := .of_frame (by split <;> simp)
    refine event_kept (o := true) (e := fun _ => if f.dst = 255 then u else u.queueReply f r) ?_ fun _ =>
      (htaken.keeps.trans hu).trans hreply.keeps
    rw [event_occurs _ _ rfl]
    exact ha
  rcases request_cases kind parse bad serve s with h' | ⟨f, -, ⟨a, -, h'⟩ | ⟨-, h'⟩⟩
  · rw [h'] at h
    cases h
    exact .refl s
  · rw [h'] at h
    exact hanswer f _ _ (hserve ..) h
  · rw [h'] at h
    exact hanswer f _ _ (Calm.refl _).keeps h

/-- A request whose owner's work is calm. -/
theorem request_calm {α : Type} {kind : Byte} {parse : List Byte → Option α} {bad : State → ReplyFields}
    {serve : α → State → State × Reply} (hserve : ∀ a s, Calm s (serve a s).1) {s t : State}
    (h : request kind parse bad serve s = .next t) : Kept s t :=
  request_kept (fun a s => (hserve a s).keeps) h

/-- A request whose owner leaves the bays, the tanks and the controller. -/
theorem request_frame {α : Type} {kind : Byte} {parse : List Byte → Option α} {bad : State → ReplyFields}
    {serve : α → State → State × Reply}
    (hserve : ∀ a s, (serve a s).1.bays = s.bays ∧ (serve a s).1.tanks = s.tanks ∧ (serve a s).1.probe = s.probe) {s t : State}
    (h : request kind parse bad serve s = .next t) : Kept s t :=
  request_calm (fun a s => .of_frame (hserve a s)) h

/-- R59, R66: a TAG, granted or not, leaves the tanks and the controller. -/
theorem takeTag_frame (s : State) (b : BayId) (payload : List Byte) :
    (s.takeTag b payload).tanks = s.tanks ∧ (s.takeTag b payload).probe = s.probe := by
  have hdecided : ∀ (u : State) r wake, (u.decideTag b r wake).tanks = u.tanks ∧ (u.decideTag b r wake).probe = u.probe := by
    intro u r wake
    unfold State.decideTag State.refuseTag State.repeatGrant State.grantAt State.hoursStep
    repeat' (first | split | dsimp only)
    all_goals simp
  unfold State.takeTag
  repeat' (first | split | dsimp only)
  all_goals simp [hdecided]

/-- R59, R66, R139: a grant is made on a tank that is not RECEIVING. -/
theorem tag_kept {s t : State} (h : exec .tag s = .next t) : Kept s t := by
  have hframe : ∀ u : State, t = u.settled → (u.tanks = s.tanks ∧ u.probe = s.probe) →
      t.tanks = s.tanks ∧ (CensusLaw s → CensusLaw t) := by
    rintro u rfl ⟨htanks, hprobe⟩
    refine ⟨by simpa using htanks, fun hs => settled_census ?_⟩
    obtain ⟨-, hfailures, hown⟩ := (censusLaw_iff s).1 hs
    refine ⟨fun k => ?_, fun k p hp => ?_⟩
    · rw [State.probeTank_congr hprobe]
      exact hfailures k
    · rw [State.tank_congr htanks]
      exact hown k p (by rwa [ownCensus, hprobe] at hp)
  have hrest : t.tanks = s.tanks ∧ (CensusLaw s → CensusLaw t) := by
    rcases tag_unmet_or_head h with rfl | ⟨f, b, hhead, hclass⟩
    · exact ⟨rfl, id⟩
    · simp only [exec, execTag, hhead, hclass] at h
      rw [event_occurs _ _ rfl] at h
      cases h
      exact hframe _ rfl (by simpa using takeTag_frame s.popYard b f.payload)
  refine ⟨fun hs => ?_, hrest.2⟩
  rcases tag_bays_or_grant h with hbays | ⟨b, r, v, -, hlate, rfl⟩
  · exact (Quieter.of_frame ⟨hbays, hrest.1⟩).keeps_receiving hs
  · obtain ⟨hafter, -⟩ := afterHours_frame s v r
    obtain ⟨-, hpasses, -⟩ := lateChecks_afterHours_none hlate
    obtain ⟨hfree, -⟩ := tankCheck_none hpasses
    intro k c hk hc
    rw [State.tank_congr hrest.1] at hk
    rw [settled_bay] at hc ⊢
    by_cases hcb : c = b
    · subst hcb
      rw [grantAt_bay_same, hafter] at hc
      have hc : (s.bay c).settings.tank = k := hc
      rw [hc, hk] at hfree
      cases hfree
    · rw [grantAt_bay_other _ _ _ _ hcb, hafter] at hc ⊢
      exact hs k c hk hc

/-- R148: a cold start leaves no delivery, no census and no failure. -/
theorem coldStart_keeps (straps : Byte) (s : State) : Keeps s (State.coldStart straps s) := by
  have htank : ∀ k, ((State.coldStart straps s).tank k).delivery = none := fun k => by cases k <;> rfl
  refine ⟨fun _ k b hk => ?_, fun _ => ⟨fun k => ?_, fun k p h => ?_⟩⟩
  · simp [Tank.receiving, htank] at hk
  · cases k <;> exact Nat.zero_le _
  · cases h

/-- R181: a warm start, whole or cut. -/
theorem warmStart_kept {w : StartRun} {s t : State} (h : execWarmStart w s = .next t) : Kept s t := by
  unfold execWarmStart at h
  split at h
  · exact event_calm h fun _ => (calm_makeParts (fun _ hp => calm_warmPart _ hp) s).trans (calm_restartProbe _)
  · rename_i n _
    cases h
    split
    · have hparts : Calm s (s.makeParts ((warmParts w.straps).take n)) :=
        calm_makeParts (fun _ hp => calm_warmPart _ (List.mem_of_mem_take hp)) s
      obtain ⟨hflight, hwant⟩ := warmParts_probe w.straps n s
      exact Calm.kept (hparts.trans (.of_frame ⟨rfl, rfl, rfl⟩)) (fun h => hflight.symm.trans h) hwant
    · exact .refl s

/-- R180: a loss of power leaves what is retained. -/
theorem powerLoss_kept {s t : State} (h : execMainPowerLoss s = .next t ∨ execBackupSupplyLoss s = .next t) : Kept s t := by
  unfold execMainPowerLoss execBackupSupplyLoss at h
  rcases h with h | h <;> split at h <;> cases h <;>
    exact Calm.kept (.of_frame ⟨rfl, rfl, rfl⟩) id fun _ => rfl

/-- R101: a TALLY frame taken. -/
theorem tally_kept {s t : State} (h : execTally s = .next t) : Kept s t := by
  unfold execTally at h
  split at h
  · split at h
    · refine event_calm h fun _ => .trans (.of_frame (by simp) : Calm s s.popYard) ?_
      split
      · exact calm_takeTally ..
      · exact .refl _
    · cases h; exact .refl s
  · cases h; exact .refl s

/-- R110: a VALVE STATUS frame taken. -/
theorem valveStatus_kept {s t : State} (h : execValveStatus s = .next t) : Kept s t := by
  unfold execValveStatus at h
  split at h
  · split at h
    · refine event_calm h fun _ => .trans (.of_frame (by simp) : Calm s s.popYard) ?_
      split
      · exact calm_takeValve ..
      · exact .refl _
    · cases h; exact .refl s
  · cases h; exact .refl s

/-- R165, R166: frames passed on or dropped. -/
theorem stationData_kept {s t : State} (h : execStationData s = .next t) : Kept s t := by
  unfold execStationData at h
  split at h
  · exact event_calm h fun _ => .of_frame (by split <;> simp)
  · cases h; exact .refl s

theorem passThrough_kept {p : PortId} {s t : State} (h : execPassThrough p s = .next t) : Kept s t := by
  unfold execPassThrough at h
  repeat' split at h
  · exact event_calm h fun _ => .of_frame (by simp)
  · cases h; exact .refl s
  · exact event_calm h fun _ => .trans (.of_frame (by simp) : Calm s s.popTrunk) (calm_passFromTrunk ..)
  · cases h; exact .refl s

theorem frameDrop_kept {p : PortId} {s t : State} (h : execFrameDrop p s = .next t) : Kept s t := by
  unfold execFrameDrop at h
  repeat' split at h
  · exact event_calm h fun _ => .of_frame (by simp)
  · cases h; exact .refl s
  · exact event_calm h fun _ => .of_frame (by simp)
  · cases h; exact .refl s

theorem transmitFrame_kept {p : PortId} {part : SendPart} {s t : State} (h : execTransmitFrame p part s = .next t) :
    Kept s t := by
  unfold execTransmitFrame at h
  cases part with
  | take => exact event_calm h fun _ => calm_takeNext ..
  | last => exact event_calm h fun _ => calm_lastCharacter ..

/-- R80, R82, R84, R88: the expiries of the bay timers. -/
theorem openTimer_kept {b : BayId} {s t : State}
    (h : execNoFlowTimerExpiry b s = .next t ∨ execGapTimerExpiry b s = .next t) : Kept s t := by
  have hactive : ∀ st : BayState, st.valveOpen = true → st.active = true := fun st => by cases st <;> simp [BayState.valveOpen, BayState.active]
  rcases h with h | h <;> refine event_calm h fun ho => calm_setBay (.of_active (hactive _ ?_) rfl) <;>
    · simp only [Bool.and_eq_true] at ho
      exact ho.1.2

theorem armTimer_kept {b : BayId} {s t : State} (h : execArmTimerExpiry b s = .next t) : Kept s t :=
  event_calm h fun _ => calm_complete ..

theorem drainTimer_kept {b : BayId} {s t : State} (h : execDrainTimerExpiry b s = .next t) : Kept s t :=
  event_calm h fun _ => calm_setBay (.of_inactive rfl)

theorem closeTimer_kept {b : BayId} {s t : State} (h : execCloseTimerExpiry b s = .next t) : Kept s t := by
  refine event_calm h fun _ => calm_setBay_complete _ ?_
  split <;> exact .of_eq rfl rfl

/-- R117, R122: the events of the probe bus. -/
theorem ackError_kept {phase : AckPhase} {s t : State} (h : execAckError phase s = .next t) : Kept s t := by
  unfold execAckError at h
  split at h
  · exact event_kept h fun _ => ackFails_keeps ‹_› _
  · cases h; exact .refl s

theorem retryWait_kept {s t : State} (h : execRetryWaitExpiry s = .next t) : Kept s t := by
  unfold execRetryWaitExpiry at h
  split at h
  · exact event_calm h fun _ => calm_beginRetry ‹_›
  · cases h; exact .refl s

theorem censusTransaction_kept {d : ReadingBlock} {s t : State} (h : execCensusTransaction d s = .next t) : Kept s t := by
  unfold execCensusTransaction at h
  split at h
  · exact event_kept h fun _ => (calm_drive ..).keeps.trans (handOff_keeps ..)
  · cases h; exact .refl s

/-- R119, R123, R144: the timers of the tanks. -/
theorem tankTimer_kept {k : TankId} {s t : State}
    (h : execSettleTimerExpiry k s = .next t ∨ execWindowTimerExpiry k s = .next t) : Kept s t := by
  rcases h with h | h
  · exact event_calm h fun _ => calm_setProbeTank rfl
  · exact event_kept h fun _ => windowExpires_keeps s k

theorem censusTimer_kept {s t : State} (h : execCensusTimerExpiry s = .next t) : Kept s t :=
  event_calm h fun _ => ((calm_raiseCensus ..).trans (calm_raiseCensus ..)).trans (calm_startCensusTimer _)

/-- R161: the events of a receiver. -/
theorem frameReceive_kept {p : PortId} {cs : List RxChar} {s t : State} (h : execFrameReceive p cs s = .next t) :
    Kept s t :=
  event_calm h fun _ => .foldl (calm_receiveChar p) cs s

theorem startCharacter_kept {p : PortId} {e : Bool} {s t : State} (h : execStartCharacter p e s = .next t) : Kept s t :=
  event_calm h fun _ => calm_receiveChar ..

theorem gapTimeout_kept {p : PortId} {s t : State} (h : execCharacterGapTimeout p s = .next t) : Kept s t :=
  event_calm h fun _ => (calm_setPort ..).trans (calm_frameEnds ..)

theorem rateSettingApplied_kept {p : PortId} {s t : State} (h : execRateSettingApplied p s = .next t) : Kept s t :=
  event_calm h fun _ => by cases p <;> exact .of_frame ⟨rfl, rfl, rfl⟩

/-- Every command keeps both laws. -/
theorem exec_kept (c : Instr) {s t : State} (h : exec c s = .next t) : Kept s t := by
  cases c with
  | coldStart straps => exact event_kept h fun _ => coldStart_keeps straps s
  | warmStart start => exact warmStart_kept h
  | mainPowerLoss => exact powerLoss_kept (.inl h)
  | podClockTick => exact event_calm h fun _ => (calm_elapse ..).trans (calm_tickClock _)
  | frameReceive port chars => exact frameReceive_kept h
  | characterGapTimeout port => exact gapTimeout_kept h
  | rateSettingApplied port => exact rateSettingApplied_kept h
  | transmitFrame port part => exact transmitFrame_kept h
  | tag => exact tag_kept h
  | tally => exact tally_kept h
  | valveStatus => exact valveStatus_kept h
  | stationData => exact stationData_kept h
  | passThrough port => exact passThrough_kept h
  | frameDrop port => exact frameDrop_kept h
  | armTimerExpiry bay => exact armTimer_kept h
  | noFlowTimerExpiry bay => exact openTimer_kept (.inl h)
  | gapTimerExpiry bay => exact openTimer_kept (.inr h)
  | closeTimerExpiry bay => exact closeTimer_kept h
  | drainTimerExpiry bay => exact drainTimer_kept h
  | censusTimerExpiry => exact censusTimer_kept h
  | settleTimerExpiry tank => exact tankTimer_kept (.inl h)
  | windowTimerExpiry tank => exact tankTimer_kept (.inr h)
  | watchDelayTimerExpiry => exact event_calm h fun _ => .of_frame (by simp [State.enterWatch])
  | retryWaitExpiry => exact retryWait_kept h
  | ackError phase => exact ackError_kept h
  | censusTransaction data => exact censusTransaction_kept h
  | fleetPut => exact request_frame (fun r u => by unfold fleetPut; (repeat' split) <;> simp) h
  | fleetDelete => exact request_frame (fun r u => by unfold fleetDelete; (repeat' split) <;> simp) h
  | classSet => exact request_frame (fun r u => by unfold classSet; split <;> exact ⟨rfl, rfl, rfl⟩) h
  | baySet => exact request_calm calm_baySet h
  | tankSet => exact request_calm calm_tankSet h
  | strapSet => exact request_calm calm_strapSet h
  | podSet => exact request_calm calm_podSet h
  | podStart => exact request_frame (fun r u => by unfold podStart; (repeat' split) <;> simp) h
  | podSuspend => exact request_calm calm_podSuspend h
  | podResume => exact request_frame (fun r u => by unfold podResume; split <;> simp) h
  | podReset => exact request_frame (fun _ _ => ⟨rfl, rfl, rfl⟩) h
  | timeSet => exact request_frame (fun _ _ => ⟨rfl, rfl, rfl⟩) h
  | shiftRoll => exact request_frame (fun _ _ => ⟨rfl, rfl, rfl⟩) h
  | bayStop => exact request_calm calm_bayStop h
  | bayRelease => exact request_calm calm_bayRelease h
  | serviceDone => exact request_frame (fun r u => by unfold serviceDone; (repeat' split) <;> simp) h
  | tankClear => exact request_calm calm_tankClear h
  | stockSet => exact request_calm calm_stockSet h
  | deliveryOpen => exact request_kept deliveryOpen_keeps h
  | deliveryClose => exact request_kept deliveryClose_keeps h
  | deliveryAbort => exact request_kept deliveryAbort_keeps h
  | censusNow => exact request_calm calm_censusNow h
  | journalLayout => exact request_frame (fun r u => by unfold journalLayout; split <;> simp) h
  | journalRelease => exact request_frame (fun r u => by unfold journalRelease; split <;> simp) h
  | linkClear => exact request_frame (fun _ _ => ⟨rfl, rfl, rfl⟩) h
  | podStatus => exact request_frame (fun _ _ => ⟨rfl, rfl, rfl⟩) h
  | bayStatus => exact request_frame (fun r u => by unfold bayStatus; split <;> exact ⟨rfl, rfl, rfl⟩) h
  | tankStatus => exact request_frame (fun r u => by unfold tankStatus; split <;> exact ⟨rfl, rfl, rfl⟩) h
  | fleetGet => exact request_frame (fun _ _ => ⟨rfl, rfl, rfl⟩) h
  | fleetNext => exact request_frame (fun _ _ => ⟨rfl, rfl, rfl⟩) h
  | journalRead => exact request_frame (fun r u => by unfold journalRead; split <;> exact ⟨rfl, rfl, rfl⟩) h
  | linkStatus => exact request_frame (fun _ _ => ⟨rfl, rfl, rfl⟩) h
  | backupSupplyLoss => exact powerLoss_kept (.inr h)
  | startCharacter port parityError => exact startCharacter_kept h

/-- Every step keeps both laws. -/
theorem step_kept {s t : State} (h : step s = .next t) : Kept s t := by
  unfold step at h
  split at h
  · obtain ⟨receiving, census⟩ := exec_kept _ h
    exact ⟨receiving, census⟩
  · cases h
    exact kept_idleStep s

/-- Settles O13: a grant finds its tank without delivery and a delivery its tank without active bay; a census of a delivery's
own ends, or is disowned, before the delivery's phase changes (R121, R124, R139 to R145). -/
theorem deliveriesAndCensusesStayLawful : Obligations.DeliveriesAndCensusesStayLawful :=
  ⟨fun _ _ hs h => (step_kept h).receiving hs, fun _ _ hs h => (step_kept h).census hs⟩

/-! ## Census requests -/

/-- R120: two requests for one tank come to the one of higher rank, and of equal ranks to the one expected. -/
theorem coalesce_cases (expected held : Option Purpose) (new : Purpose) :
    (held = none → coalesce expected held new = new) ∧
    (∀ old, held = some old → old.rank < new.rank → coalesce expected held new = new) ∧
    (∀ old, held = some old → new.rank < old.rank → coalesce expected held new = old) ∧
    (∀ old, held = some old → new.rank = old.rank →
      coalesce expected held new = if expected = some new then new else old) := by
  refine ⟨?_, ?_, ?_, ?_⟩
  · rintro rfl
    rfl
  · rintro old rfl h
    simp [coalesce, h]
  · rintro old rfl h
    simp [coalesce, h, Nat.lt_asymm h]
  · rintro old rfl h
    simp [coalesce, h]

/-- A request raised leaves the census in flight. -/
theorem raiseCensus_censusOf (s : State) (t u : TankId) (p : Purpose) : (s.raiseCensus t p).censusOf u = s.censusOf u := rfl

theorem taken_censusOf (s : State) (t : TankId) : s.taken.censusOf t = s.censusOf t := by simp [State.censusOf]

/-- Settles O49: the timers' expiries and CENSUS NOW raise requests, which coalesce by rank (R119, R120, R123, R127). -/
theorem censusRequestsAreRaised : Obligations.CensusRequestsAreRaised := by
  refine ⟨fun s hpower hout => ?_, fun s hout => ?_, fun _ => rfl, fun s t hpower hout => ?_, fun s t hout => ?_,
    fun s f ref n hf hp => ?_, fun s t p => ?_, rfl, by decide, by decide⟩
  · exact event_occurs State.censusTimerExpires s (by simp [hpower, hout])
  · simp [exec, execCensusTimerExpiry, event_eq, hout]
  · exact event_occurs (fun u => u.setProbeTank t { u.probeTank t with settle := none }) s (by simp [hpower, hout])
  · simp [exec, execSettleTimerExpiry, event_eq, Timer.ranOut_false hout]
  · have hanswer : exec .censusNow s = answered f (censusNow n.toNat s.taken).1 (censusNow n.toNat s.taken).2 :=
      request_served hf (by rw [hp]; exact parseOne_byte n)
    rw [hanswer]
    refine ⟨fun hn => ?_, fun t ht => ?_⟩
    · simp [censusNow, hn, refused]
    · simp [censusNow, ht, raiseCensus_censusOf, taken_censusOf]
  · exact ⟨_, rfl, coalesce_cases (s.tank t).expects (s.probeTank t).want p⟩

/-! ## A tank account entered -/

/-- Two writes of one tank come to the second. -/
theorem perTank_set_set {α : Type} (p : PerTank α) (t : TankId) (x y : α) : (p.set t x).set t y = p.set t y := by
  cases t <;> rfl

theorem perTank_set_get {α : Type} (p : PerTank α) (t : TankId) : p.set t (p.get t) = p := by cases t <;> rfl

/-- The state with one tank account replaced and events logged. -/
def entered (s : State) (t : TankId) (k : Tank) (ks : List EventKind) : State :=
  { s with tanks := s.tanks.set t k, journal := s.journalAfter ks }

theorem entered_self (s : State) (t : TankId) : entered s t (s.tank t) [] = s := by
  simp only [entered, State.tank, perTank_set_get]
  rfl

@[simp] theorem entered_tank (s : State) (t : TankId) (k : Tank) (ks : List EventKind) : (entered s t k ks).tank t = k :=
  PerTank.get_set_same ..

/-- Entries made one after another come to one. -/
theorem entered_entered (s : State) (t : TankId) (k l : Tank) (ks ls : List EventKind) :
    entered (entered s t k ks) t l ls = entered s t l (ks ++ ls) := by
  simp only [entered, perTank_set_set, State.journalAfter_append]
  rfl

/-- R134: the event of a standing formed again. -/
def standingEvents (t : TankId) (k : Tank) : List EventKind :=
  if formStanding k.settings k.book ≠ k.standing then [.stockStanding t (formStanding k.settings k.book)] else []

/-- R134: the standing formed again is an entry. -/
theorem reformStanding_eq (s : State) (t : TankId) : s.reformStanding t =
    entered s t { s.tank t with standing := formStanding (s.tank t).settings (s.tank t).book }
      (standingEvents t (s.tank t)) := by
  unfold State.reformStanding standingEvents
  dsimp only
  split
  · rename_i h
    simpa [h] using (entered_self s t).symm
  · rfl

/-- R141, R143: the book once a delivery's docket is credited. -/
def credited (k : Tank) (d : Delivery) : Int := clampBook (k.book + d.docket * 1000000)

/-- R141, R143: a tank account once its delivery's own result has moved the delivery. -/
def moved (own : Bool) (net : Option Int) (k : Tank) : Tank :=
  match own, k.delivery with
  | true, some d =>
    match d.phase with
    | .awaitingPre => { k with delivery := some { d with preNet := net, phase := .opened } }
    | .opened => k
    | .completing =>
      { k with book := credited k d, delivery := none, standing := formStanding k.settings (credited k d) }
  | _, _ => k

/-- R143: the events of a delivery that ends. -/
def closingEvents (t : TankId) (k : Tank) (d : Delivery) (net : Option Int) : List EventKind :=
  d.eventOf t net :: standingEvents t { k with book := credited k d }

/-- R141, R143: what a delivery's own result logs. -/
def movedEvents (t : TankId) (own : Bool) (net : Option Int) (k : Tank) : List EventKind :=
  match own, k.delivery with
  | true, some d => if d.phase = .completing then closingEvents t k d net else []
  | _, _ => []

/-- R143: the completion in one step: the docket credited, the record cleared, the event, the standing. -/
theorem completeDelivery_eq (s : State) (t : TankId) (d : Delivery) (net : Option Int) : s.completeDelivery t d net =
    ((s.setTank t { s.tank t with book := credited (s.tank t) d, delivery := none }).log
      (d.eventOf t net)).reformStanding t := by
  unfold State.completeDelivery State.addToBook
  simp only [State.tank_setTank_same]
  simp only [State.setTank, perTank_set_set]
  rfl

/-- R141, R143: what a delivery's own result does is an entry. -/
theorem applyOwn_eq (s : State) (t : TankId) (own : Bool) (net : Option Int) :
    s.applyOwn t own net = entered s t (moved own net (s.tank t)) (movedEvents t own net (s.tank t)) := by
  have hself := (entered_self s t).symm
  unfold State.applyOwn moved movedEvents
  cases own with
  | false => exact hself
  | true =>
    cases hd : (s.tank t).delivery with
    | none => exact hself
    | some d =>
      cases hp : d.phase with
      | awaitingPre => simp [hp]; rfl
      | opened => simpa [hp] using hself
      | completing =>
        have hlogged : (s.setTank t { s.tank t with book := credited (s.tank t) d, delivery := none }).log
              (d.eventOf t net) =
            entered s t { s.tank t with book := credited (s.tank t) d, delivery := none } [d.eventOf t net] := rfl
        simp only [hp, completeDelivery_eq, hlogged, reformStanding_eq, entered_tank, entered_entered]
        rfl

/-- R136: the variance of the net against the book is a strike. -/
def strikes (k : Tank) (net : Int) : Prop := (k.settings.tolerance : Int) * 1000000 < |net - k.book|

theorem isStrike_iff (k : Tank) (net : Int) : isStrike k.settings.tolerance (net - k.book) = true ↔ strikes k net := by
  rw [isStrike, strikes, decide_eq_true_iff, Int.abs_eq_natAbs]
  omega

/-- R136: a tank account once it has undergone the variance test. -/
def tested (net : Int) (k : Tank) : Tank :=
  if isStrike k.settings.tolerance (net - k.book) then
    { k with
      latestVariance := some (net - k.book), strikes := min (k.strikes + 1) 3
      varianceHold := k.varianceHold || (decide (k.strikes = 2) && k.settings.holdEnable) }
  else { k with latestVariance := some (net - k.book), strikes := 0 }

/-- R136: the event of the third strike. -/
def testedEvents (t : TankId) (net : Int) (k : Tank) : List EventKind :=
  if isStrike k.settings.tolerance (net - k.book) = true ∧ k.strikes = 2 then [.variance t (toCl (net - k.book))] else []

/-- R136: the variance test is an entry. -/
theorem varianceTest_eq (s : State) (t : TankId) (net : Int) :
    s.varianceTest t net = entered s t (tested net (s.tank t)) (testedEvents t net (s.tank t)) := by
  unfold State.varianceTest tested testedEvents
  dsimp only
  by_cases hstrike : isStrike (s.tank t).settings.tolerance (net - (s.tank t).book) = true
  · by_cases h2 : (s.tank t).strikes = 2
    · by_cases hhold : (s.tank t).settings.holdEnable = true
      · have hset (k l : Tank) (e : EventKind) : ((s.setTank t k).log e).setTank t l = entered s t l [e] := by
          simp only [State.setTank, State.log, State.setJournal, perTank_set_set, entered]
          rfl
        have htank (k : Tank) (e : EventKind) : ((s.setTank t k).log e).tank t = k := State.tank_setTank_same s t k
        simp [hstrike, h2, hhold, hset, htank]
      · simp [hstrike, h2, hhold]
        rfl
    · simp [hstrike, h2]
      rfl
  · simp [hstrike]
    rfl

/-! ## The water test -/

/-- What a part of a command makes of the event ring of state s: u's holds the events `ks` after those of s. -/
structure Logs (s u : State) (ks : List EventKind) : Prop where
  events : u.journal.events = (s.journalAfter ks).events
  overwrites : u.journal.overwrites = (s.journalAfter ks).overwrites
  span : u.journal.issueSpan = s.journal.issueSpan
  stamp : u.stamp = s.stamp

theorem Logs.of_journal {s u : State} {ks : List EventKind} (h : u.journal = s.journalAfter ks) (hs : u.stamp = s.stamp) :
    Logs s u ks :=
  ⟨by rw [h], by rw [h], by rw [h, (s.journalAfter_issues ks).2.1], hs⟩

theorem Logs.trans {s u v : State} {ks ls : List EventKind} (h1 : Logs s u ks) (h2 : Logs u v ls) : Logs s v (ks ++ ls) := by
  obtain ⟨hevents, hoverwrites⟩ := journalAfter_from ls h1.stamp h1.events h1.overwrites h1.span
  exact ⟨h2.events.trans hevents, h2.overwrites.trans hoverwrites, h2.span.trans h1.span, h2.stamp.trans h1.stamp⟩

theorem logs_entered (s : State) (t : TankId) (k : Tank) (ks : List EventKind) : Logs s (entered s t k ks) ks :=
  .of_journal rfl rfl

/-- R137: the bays of the tank are treated in bay order: a GRANTED issue completes, an open valve closes. -/
theorem closeForWater_eq (s : State) (t : TankId) : s.closeForWater t =
    bayList.foldl (treat .tank (fun y => decide (y.settings.tank = t) && y.state == .granted)
      (fun y => if y.settings.tank = t then closedIfOpen .tank y else y)) s := by
  have hone : ∀ (u : State) (b : BayId), (if (u.bay b).settings.tank = t then u.endIssue .tank b else u) =
      treat .tank (fun y => decide (y.settings.tank = t) && y.state == .granted)
        (fun y => if y.settings.tank = t then closedIfOpen .tank y else y) u b := by
    intro u b
    unfold treat
    by_cases ht : (u.bay b).settings.tank = t
    · simp [ht, endIssue_eq, treat]
    · simp [ht, setBay_self]
  simp only [State.closeForWater, hone]

/-- Not the event of a variance test. -/
def NoVariance (ks : List EventKind) : Prop := ∀ e ∈ ks, ∀ t cl, e ≠ .variance t cl

/-- R137: what the water test makes of the tank accounts and the event ring. -/
theorem waterTest_effect (s : State) (t : TankId) (level : Nat) : ∃ hold ks, Logs s (s.waterTest t level) ks ∧
    NoVariance ks ∧ (s.waterTest t level).tanks = s.tanks.set t { s.tank t with waterHold := hold } := by
  unfold State.waterTest
  split
  · let u := entered s t { s.tank t with waterHold := true } [.water t level]
    obtain ⟨new, ks, hrecorded⟩ := foldl_treat_recorded .tank
      (fun y => decide (y.settings.tank = t) && y.state == .granted)
      (fun y => if y.settings.tank = t then closedIfOpen .tank y else y) (l := bayList) (by decide) u
    have hchanges := foldl_treat_changes .tank
      (fun y => decide (y.settings.tank = t) && y.state == .granted)
      (fun y => if y.settings.tank = t then closedIfOpen .tank y else y) bayList u
    rw [← closeForWater_eq] at hrecorded hchanges
    have hlogs : Logs u (u.closeForWater t) ks :=
      ⟨hrecorded.events, hrecorded.overwrites, hrecorded.span, by rw [hchanges]; rfl⟩
    refine ⟨true, _, (logs_entered s t _ [.water t level]).trans hlogs, ?_, ?_⟩
    · intro e he q cl hv
      subst hv
      rcases List.mem_append.1 he with he | he
      · simp at he
      · obtain ⟨b, -, -, ⟨_, _, h⟩ | ⟨-, _, h⟩⟩ := hrecorded.kinds _ he <;> cases h
    · show (u.closeForWater t).tanks = _
      rw [hchanges]
      rfl
  · refine ⟨(s.tank t).waterHold, [], .of_journal rfl rfl, by simp [NoVariance], ?_⟩
    exact (perTank_set_get s.tanks t).symm

/-! ## The hand-off -/

/-- R124: the failure count and the gauge event of an outcome. -/
theorem gaugeStep_eq (s : State) (t : TankId) (failed : Bool) : s.gaugeStep t failed =
    { s with
      probe := { s.probe with
        tanks := s.probe.tanks.set t
          { s.probeTank t with failures := nextFailures failed (s.probeTank t).failures } }
      journal := s.journalAfter (gaugeEvent t failed (s.probeTank t).failures) } := by
  rw [State.gaugeStep, State.logAll_eq]
  rfl

/-- R122: a result rests on nothing that the failure count changes. -/
theorem censusResult_gauged (s : State) (c : CensusInFlight) (failed : Bool) (outcome : CensusOutcome) (x : Option Reading) :
    censusResult (s.gaugeStep c.tank failed) c outcome x = censusResult s c outcome x := by
  rw [gaugeStep_eq]
  rfl

/-- R122 step 2: a result has failed exactly when its attempt has. -/
theorem volumeStep_failed (k : Tank) (outcome : CensusOutcome) (x : Option Reading) :
    (volumeStep k outcome x).1 = .failed ↔ outcome = .failed := by
  unfold volumeStep
  repeat' split
  all_goals simp_all

/-- R141, R143: the account a result leaves before its tests. -/
def accounted (r : CensusResult) (own : Bool) (k : Tank) : Tank := moved own (r.volumes.map (·.net)) (k.takeResult r)

/-- R122, R135: the state that undergoes the tests: the count, then the account. -/
theorem beforeTests_eq (s : State) (t : TankId) (failed own : Bool) (r : CensusResult) (h : r.tank = t) :
    ((s.gaugeStep t failed).setTank r.tank (((s.gaugeStep t failed).tank r.tank).takeResult r)).applyOwn r.tank own
      (r.volumes.map (·.net)) =
    entered (s.gaugeStep t failed) t (accounted r own (s.tank t))
      (movedEvents t own (r.volumes.map (·.net)) ((s.tank t).takeResult r)) := by
  subst h
  have htank : (s.gaugeStep r.tank failed).tank r.tank = s.tank r.tank := by
    rw [gaugeStep_eq]
    rfl
  rw [htank, applyOwn_eq, State.tank_setTank_same]
  exact entered_entered _ _ ((s.tank r.tank).takeResult r) _ [] _

/-- R135: a result of another outcome than OK undergoes no test. -/
theorem censusTests_untested (s : State) {r : CensusResult} (h : r.outcome ≠ .ok) : s.censusTests r = s := by
  unfold State.censusTests
  split
  · exact absurd ‹r.outcome = .ok› h
  · rfl


/-- R136: the net of a result that undergoes the variance test. -/
def testedNet (r : CensusResult) : Option Int :=
  if r.outcome = .ok ∧ r.still = true then r.volumes.map (·.net) else none

/-- R136: the account a result leaves once its variance test is made or passed over. -/
def checked (r : CensusResult) (k : Tank) : Tank := (testedNet r).elim k fun net => tested net k

/-- R136: the event of its variance test. -/
def checkedEvents (t : TankId) (r : CensusResult) (k : Tank) : List EventKind :=
  (testedNet r).elim [] fun net => testedEvents t net k

/-- R135 steps 4 and 5 with any water test and any variance test: neither needs to be opened to say when it is made. -/
def testsWith (water : State → TankId → Nat → State) (test : State → TankId → Int → State) (s : State)
    (r : CensusResult) : State :=
  match r.outcome, r.reading with
  | .ok, some x =>
    let s1 := water s r.tank x.water
    match r.still, r.volumes with
    | true, some v => test s1 r.tank v.net
    | _, _ => s1
  | _, _ => s

theorem censusTests_eq (s : State) (r : CensusResult) :
    s.censusTests r = testsWith State.waterTest State.varianceTest s r := rfl

/-- R135 steps 4 and 5: a result of outcome OK undergoes the water test, then the variance test when it qualifies. -/
theorem testsWith_ok (water : State → TankId → Nat → State) (test : State → TankId → Int → State) (s : State)
    {r : CensusResult} {x : Reading} (hok : r.outcome = .ok) (hx : r.reading = some x) :
    testsWith water test s r =
      (testedNet r).elim (water s r.tank x.water) fun net => test (water s r.tank x.water) r.tank net := by
  unfold testsWith testedNet
  rw [hok, hx]
  cases r.still <;> cases r.volumes <;> rfl

/-- R135 steps 4 and 5: what the tests of a result with a reading make of the tank accounts and the event ring. -/
theorem censusTests_effect (s : State) (r : CensusResult) {x : Reading} (hx : r.reading = some x) : ∃ hold ks,
    (r.outcome ≠ .ok → hold = (s.tank r.tank).waterHold ∧ ks = []) ∧ NoVariance ks ∧
    (s.censusTests r).tank r.tank = checked r { s.tank r.tank with waterHold := hold } ∧
    Logs s (s.censusTests r) (ks ++ checkedEvents r.tank r { s.tank r.tank with waterHold := hold }) := by
  by_cases hok : r.outcome = .ok
  · obtain ⟨hold, ks, hlogs, hnone, htanks⟩ := waterTest_effect s r.tank x.water
    have htank : (s.waterTest r.tank x.water).tank r.tank = { s.tank r.tank with waterHold := hold } := by
      rw [State.tank, htanks, PerTank.get_set_same]
    refine ⟨hold, ks, fun h => absurd hok h, hnone, ?_⟩
    rw [censusTests_eq, testsWith_ok _ _ s hok hx, checked, checkedEvents]
    cases testedNet r with
    | none =>
      rw [Option.elim_none, Option.elim_none, Option.elim_none, List.append_nil]
      exact ⟨htank, hlogs⟩
    | some net =>
      rw [Option.elim_some, Option.elim_some, Option.elim_some, varianceTest_eq, entered_tank, htank]
      exact ⟨rfl, hlogs.trans (logs_entered ..)⟩
  · have hnet : testedNet r = none := if_neg fun h => hok h.1
    refine ⟨_, [], fun _ => ⟨rfl, rfl⟩, by simp [NoVariance], ?_⟩
    rw [censusTests_untested s hok, checked, checkedEvents, hnet]
    exact ⟨rfl, .of_journal rfl rfl⟩

/-- R122, R135: what the hand-off of a reading makes of its tank's account and the event ring: the count's event, the
delivery's, those of the water test, then that of the variance test. -/
theorem handOff_effect (s : State) (c : CensusInFlight) (outcome : CensusOutcome) (x : Reading) :
    let r := censusResult s c outcome (some x)
    let k := accounted r c.own (s.tank c.tank)
    ∃ hold ks, (r.outcome ≠ .ok → hold = k.waterHold ∧ ks = []) ∧ NoVariance ks ∧
      (s.handOff c outcome (some x)).tank c.tank = checked r { k with waterHold := hold } ∧
      (s.handOff c outcome (some x)).journal.events =
        (s.journalAfter (gaugeEvent c.tank (decide (outcome = .failed)) (s.probeTank c.tank).failures ++
          movedEvents c.tank c.own (r.volumes.map (·.net)) ((s.tank c.tank).takeResult r) ++ ks ++
          checkedEvents c.tank r { k with waterHold := hold })).events := by
  intro r k
  have hfailed : (outcome == .failed) = decide (outcome = .failed) := by cases outcome <;> rfl
  let u := entered (s.gaugeStep c.tank (decide (outcome = .failed))) c.tank k
    (movedEvents c.tank c.own (r.volumes.map (·.net)) ((s.tank c.tank).takeResult r))
  have hend : s.handOff c outcome (some x) = (u.censusTests r).endCensus c.tank := by
    unfold State.handOff State.takeResult
    dsimp only
    rw [hfailed, censusResult_gauged, beforeTests_eq s c.tank _ c.own r rfl]
  have hgauge : Logs s (s.gaugeStep c.tank (decide (outcome = .failed)))
      (gaugeEvent c.tank (decide (outcome = .failed)) (s.probeTank c.tank).failures) := by
    rw [gaugeStep_eq]
    exact .of_journal rfl rfl
  have hu : u.tank c.tank = k := entered_tank ..
  obtain ⟨hold, ks, hnot, hnone, htank, hlogs⟩ := censusTests_effect u r (x := x) rfl
  rw [show r.tank = c.tank from rfl, hu] at hnot htank hlogs
  refine ⟨hold, ks, hnot, hnone, ?_, ?_⟩
  · rw [hend]
    exact htank
  · rw [hend, List.append_assoc _ ks]
    exact ((hgauge.trans (logs_entered ..)).trans hlogs).events

/-- R122: a result of an attempt without a reading undergoes no test, so that the hand-off is known in full. -/
theorem handOff_failed (s : State) (c : CensusInFlight) : s.handOff c .failed none =
    { s with
      probe := { s.probe with
        inFlight := none, lastServed := c.tank
        tanks := s.probe.tanks.set c.tank
          { s.probeTank c.tank with failures := min ((s.probeTank c.tank).failures + 1) 3 } }
      tanks := s.tanks.set c.tank (accounted (censusResult s c .failed none) c.own (s.tank c.tank))
      journal := s.journalAfter ((if (s.probeTank c.tank).failures = 2 then [.gaugeLost c.tank] else []) ++
        movedEvents c.tank c.own none (s.tank c.tank)) } := by
  let r := censusResult s c .failed none
  have houtcome : r.outcome = .failed := (volumeStep_failed _ _ _).2 rfl
  let u := entered (s.gaugeStep c.tank true) c.tank (accounted r c.own (s.tank c.tank))
    (movedEvents c.tank c.own none (s.tank c.tank))
  have hend : s.handOff c .failed none = (u.censusTests r).endCensus c.tank := by
    unfold State.handOff State.takeResult
    dsimp only
    rw [show (CensusOutcome.failed == .failed) = true from rfl, censusResult_gauged,
      beforeTests_eq s c.tank true c.own r rfl]
    rfl
  rw [hend, censusTests_untested u (by simp [houtcome]), State.journalAfter_append]
  show (entered (s.gaugeStep c.tank true) c.tank (accounted r c.own (s.tank c.tank))
    (movedEvents c.tank c.own none (s.tank c.tank))).endCensus c.tank = _
  rw [gaugeStep_eq]
  rfl

/-! ## The two attempts of a census -/

/-- R117: an attempt that misses an acknowledge ends with a stop. -/
theorem ackErrorActs_stop (address : Nat) (ph : AckPhase) :
    ∃ acts, ackErrorActs address ph = acts ++ [.stop] := by
  cases ph with
  | p2 => exact ⟨[], rfl⟩
  | p3 => exact ⟨[.index 0x20], rfl⟩
  | p5 => exact ⟨[.index 0x20, .repeatedStart, .addressRead address], rfl⟩

/-- R117: an ACK error has its occasion when an attempt is on the bus. -/
theorem exec_ackError {s : State} {c : CensusInFlight} (ph : AckPhase) (hpower : s.powered = true)
    (hc : s.probe.inFlight = some c) (hwait : c.wait = none) :
    exec (.ackError ph) s = .next (s.ackFails c ph).settled := by
  have h : exec (.ackError ph) s = event (s.powered && c.onBus) (fun u => u.ackFails c ph) s := by
    show execAckError ph s = _
    rw [execAckError, hc]
  rw [h]
  exact event_occurs _ s (by simp [hpower, CensusInFlight.onBus, hwait])

/-- R122: a reading has its occasion when an attempt is on the bus. -/
theorem exec_censusTransaction {s : State} {c : CensusInFlight} (d : ReadingBlock) (hpower : s.powered = true)
    (hc : s.probe.inFlight = some c) (hwait : c.wait = none) :
    exec (.censusTransaction d) s = .next (s.censusCompletes c d).settled := by
  have h : exec (.censusTransaction d) s = event (s.powered && c.onBus) (fun u => u.censusCompletes c d) s := by
    show execCensusTransaction d s = _
    rw [execCensusTransaction, hc]
  rw [h]
  exact event_occurs _ s (by simp [hpower, CensusInFlight.onBus, hwait])

/-- R117: the occasion of a retry is a wait that has run out. -/
theorem exec_retryWaitExpiry {s : State} {c : CensusInFlight} (hc : s.probe.inFlight = some c) :
    exec .retryWaitExpiry s = event (s.powered && c.wait.ranOut) (fun u => u.beginRetry c) s := by
  show execRetryWaitExpiry s = _
  rw [execRetryWaitExpiry, hc]

/-- R117: the second ACK error hands off a FAILED result without a reading. -/
theorem ackFails_retry {s : State} {c : CensusInFlight} (ph : AckPhase) (hretry : c.attempt = .retry) :
    s.ackFails c ph = (s.drive (ackErrorActs c.address ph)).handOff c .failed none := by
  rw [State.ackFails, hretry]

/-- Settles O50: an ACK error starts the wait, its expiry the retry, and the second ends the census FAILED (R117). -/
theorem ackErrorIsRetriedOnce : Obligations.AckErrorIsRetriedOnce := by
  refine ⟨fun s c ph hpower hc hwait hfirst => ?_, fun s c hpower hc hwait => ?_, fun s hnot => ?_,
    fun s c ph hpower hc hwait hretry hown => ?_⟩
  · obtain ⟨acts, hacts⟩ := ackErrorActs_stop c.address ph
    have hfails : s.ackFails c ph =
        (s.drive (acts ++ [.stop])).setFlight (some { c with wait := some Config.retryWaitMs }) := by
      rw [State.ackFails, hfirst, hacts]
    refine ⟨(s.ackFails c ph).settleWatch, acts, ?_, ?_⟩
    · rw [exec_ackError ph hpower hc hwait, hfails, settled_inFlight rfl]
    · rw [hfails]
      exact ⟨rfl, (List.append_assoc ..).symm, rfl, rfl, rfl⟩
  · refine ⟨(s.beginRetry c).settleWatch, ?_, rfl, rfl, rfl, rfl⟩
    rw [exec_retryWaitExpiry hc, event_occurs _ s (by simp [hpower, hwait, Timer.ranOut]), settled_inFlight rfl]
  · cases hc : s.probe.inFlight with
    | none =>
      show execRetryWaitExpiry s = _
      rw [execRetryWaitExpiry, hc]
    | some c => simp [exec_retryWaitExpiry hc, event_eq, Timer.ranOut_false (hnot c hc)]
  · have hfails := (ackFails_retry (s := s) ph hretry).trans (handOff_failed ..)
    rw [hown] at hfails
    refine ⟨_, censusResult s c .failed none, (exec_ackError ph hpower hc hwait).trans (by rw [hfails]), rfl, rfl, rfl,
      rfl, rfl, rfl, rfl, rfl, rfl, fun h => ?_, fun h => ?_, rfl⟩
    · have hlost : ((s.drive (ackErrorActs c.address ph)).probeTank c.tank).failures = 2 := h
      dsimp only
      rw [if_pos hlost]
      rfl
    · have hkept : ((s.drive (ackErrorActs c.address ph)).probeTank c.tank).failures ≠ 2 := h
      dsimp only
      rw [if_neg hkept]
      rfl

/-! ## What a result does to the delivery and the book -/

/-- R141: a PRE result opens the delivery. -/
theorem accounted_awaitingPre {k : Tank} {d : Delivery} (r : CensusResult) (hd : k.delivery = some d)
    (hp : d.phase = .awaitingPre) : accounted r true k =
    { k.takeResult r with delivery := some { d with preNet := r.volumes.map (·.net), phase := .opened } } := by
  have hd' : (k.takeResult r).delivery = some d := hd
  simp only [accounted, moved, hd', hp]

/-- R143: a POST result ends the delivery, credits its docket and forms the standing again. -/
theorem accounted_completing {k : Tank} {d : Delivery} (r : CensusResult) (hd : k.delivery = some d)
    (hp : d.phase = .completing) : accounted r true k =
    { k.takeResult r with
      book := credited k d, delivery := none, standing := formStanding k.settings (credited k d) } := by
  have hd' : (k.takeResult r).delivery = some d := hd
  simp only [accounted, moved, hd', hp]
  rfl

theorem movedEvents_awaitingPre {k : Tank} {d : Delivery} (t : TankId) (net : Option Int) (hd : k.delivery = some d)
    (hp : d.phase = .awaitingPre) : movedEvents t true net k = [] := by
  simp [movedEvents, hd, hp]

theorem movedEvents_completing {k : Tank} {d : Delivery} (t : TankId) (net : Option Int) (hd : k.delivery = some d)
    (hp : d.phase = .completing) : movedEvents t true net k = closingEvents t k d net := by
  simp [movedEvents, hd, hp]

/-- R143: the events of a delivery that ends, as R143 writes them. -/
theorem closingEvents_eq (t : TankId) (k : Tank) (d : Delivery) (net : Option Int) : closingEvents t k d net =
    [.delivery t d.docket ((d.measured net).map (fun m => convRound m 10000))
      ((d.measured net).map (fun m => convRound (m - d.docket * 1000000) 10000)) d.expired] ++
    (if formStanding k.settings (credited k d) ≠ k.standing then
      [.stockStanding t (formStanding k.settings (credited k d))] else []) := rfl

/-- R135, R141, R143: what a result leaves of its account before its tests. -/
theorem accounted_keeps (r : CensusResult) (own : Bool) (k : Tank) : ∃ d b st,
    accounted r own k = { k.takeResult r with delivery := d, book := b, standing := st } := by
  unfold accounted moved
  repeat' split
  all_goals exact ⟨_, _, _, rfl⟩

/-- No event of a delivery is that of a variance test. -/
theorem movedEvents_noVariance (t : TankId) (own : Bool) (net : Option Int) (k : Tank) :
    NoVariance (movedEvents t own net k) := by
  intro e he q cl hv
  subst hv
  unfold movedEvents closingEvents standingEvents Delivery.eventOf at he
  repeat' split at he
  all_goals simp at he

theorem gaugeEvent_noVariance (t : TankId) (failed : Bool) (n : Nat) : NoVariance (gaugeEvent t failed n) := by
  intro e he q cl hv
  subst hv
  unfold gaugeEvent at he
  repeat' split at he
  all_goals simp at he

theorem NoVariance.append {ks ls : List EventKind} (hk : NoVariance ks) (hl : NoVariance ls) : NoVariance (ks ++ ls) :=
  fun e he => (List.mem_append.1 he).elim (hk e) (hl e)

/-! ## What the variance test does -/

/-- R136: the three ways of the variance test: no strike, a strike, the third strike. -/
theorem tested_cases (t : TankId) (net : Int) (k : Tank) :
    (tested net k).latestVariance = some (net - k.book) ∧
    (¬strikes k net → (tested net k).strikes = 0 ∧ (tested net k).varianceHold = k.varianceHold ∧
      testedEvents t net k = []) ∧
    (strikes k net → k.strikes ≠ 2 → (tested net k).strikes = min (k.strikes + 1) 3 ∧
      (tested net k).varianceHold = k.varianceHold ∧ testedEvents t net k = []) ∧
    (strikes k net → k.strikes = 2 → (tested net k).strikes = 3 ∧
      (tested net k).varianceHold = (k.varianceHold || k.settings.holdEnable) ∧
      testedEvents t net k = [.variance t (convRound (net - k.book) 10000)]) := by
  unfold tested testedEvents
  rw [← isStrike_iff]
  by_cases hstrike : isStrike k.settings.tolerance (net - k.book) = true
  · by_cases h2 : k.strikes = 2
    · simp [hstrike, h2, toCl]
    · simp [hstrike, h2]
  · simp [hstrike]

/-- R136: what the variance test leaves of an account. -/
theorem tested_keeps (net : Int) (k : Tank) : ∃ v n hold,
    tested net k = { k with latestVariance := v, strikes := n, varianceHold := hold } := by
  unfold tested
  split
  · exact ⟨_, _, _, rfl⟩
  · exact ⟨_, _, _, rfl⟩

theorem checked_keeps (r : CensusResult) (k : Tank) : (checked r k).latestCensus = k.latestCensus ∧
    (checked r k).delivery = k.delivery ∧ (checked r k).book = k.book ∧ (checked r k).standing = k.standing := by
  unfold checked
  cases testedNet r with
  | none => exact ⟨rfl, rfl, rfl, rfl⟩
  | some net =>
    rw [Option.elim_some]
    obtain ⟨_, _, _, hkeeps⟩ := tested_keeps net k
    rw [hkeeps]
    exact ⟨rfl, rfl, rfl, rfl⟩

/-- R136: a result that does not qualify undergoes no variance test. -/
theorem testedNet_none {r : CensusResult} (h : r.outcome ≠ .ok ∨ r.still = false ∨ r.volumes = none) :
    testedNet r = none := by
  unfold testedNet
  rcases h with h | h | h <;> simp [h]

theorem testedNet_some {r : CensusResult} {v : Volumes} (hok : r.outcome = .ok) (hstill : r.still = true)
    (hv : r.volumes = some v) : testedNet r = some v.net := by
  simp [testedNet, hok, hstill, hv]

/-! ## A reading taken -/

/-- R124: the gauge event of a result, by its outcome. -/
theorem gaugeEvent_outcome (t : TankId) (r : CensusResult) (n : Nat) : gaugeEvent t (decide (r.outcome = .failed)) n =
    if r.outcome = .failed then (if n = 2 then [.gaugeLost t] else []) else (if n = 3 then [.gaugeRestored t] else []) := by
  simp only [gaugeEvent, decide_eq_true_iff]

/-- R122, R135: what a reading makes of its tank's account and the event ring. -/
theorem censusCompletes_effect (s : State) (c : CensusInFlight) (b : ReadingBlock) :
    let r := censusResult s c (ReadingBlock.outcome b) (some (ReadingBlock.reading b))
    let k := accounted r c.own (s.tank c.tank)
    ∃ hold ks, (r.outcome ≠ .ok → ks = []) ∧ NoVariance ks ∧
      (s.censusCompletes c b).tank c.tank = checked r { k with waterHold := hold } ∧
      (s.censusCompletes c b).journal.events =
        (s.journalAfter (gaugeEvent c.tank (decide (r.outcome = .failed)) (s.probeTank c.tank).failures ++
          movedEvents c.tank c.own (r.volumes.map (·.net)) (s.tank c.tank) ++ ks ++
          checkedEvents c.tank r { k with waterHold := hold })).events := by
  intro r k
  obtain ⟨hold, ks, hnot, hnone, htank, hevents⟩ :=
    handOff_effect (s.drive (completionActs c.address)) c (ReadingBlock.outcome b) (ReadingBlock.reading b)
  refine ⟨hold, ks, fun h => (hnot h).2, hnone, htank, ?_⟩
  have hfailed : decide (ReadingBlock.outcome b = .failed) = decide (r.outcome = .failed) :=
    decide_eq_decide.2 (volumeStep_failed ..).symm
  rw [hfailed] at hevents
  exact hevents

theorem otherTank_ne (t : TankId) : otherTank t ≠ t := by cases t <;> decide

/-- R143: the measured volume, by the volumes of the POST result. -/
theorem measured_eq (d : Delivery) (v : Option Volumes) : d.measured (v.map (·.net)) =
    match v, d.preNet with | some v, some p => some (v.net - p) | _, _ => none := by
  unfold Delivery.measured
  cases v <;> cases d.preNet <;> rfl

/-- R141, R143: what a delivery's own reading leaves of the delivery, the book and the standing, and its events: the
count's, the delivery's, then those of the tests. -/
theorem ownReading_effect (s : State) {c : CensusInFlight} (b : ReadingBlock) (hown : c.own = true) :
    let r := censusResult s c (ReadingBlock.outcome b) (some (ReadingBlock.reading b))
    let k := accounted r true (s.tank c.tank)
    let u := (s.censusCompletes c b).tank c.tank
    u.latestCensus = some r ∧ u.delivery = k.delivery ∧ u.book = k.book ∧ u.standing = k.standing ∧
      ∃ rest, (s.censusCompletes c b).journal.events = (s.journalAfter (
          gaugeEvent c.tank (decide (r.outcome = .failed)) (s.probeTank c.tank).failures ++
          movedEvents c.tank true (r.volumes.map (·.net)) (s.tank c.tank) ++ rest)).events ∧
        (r.outcome ≠ .ok → rest = []) := by
  intro r k u
  obtain ⟨hold, ks, hks, -, htank, hevents⟩ := censusCompletes_effect s c b
  rw [hown] at htank hevents
  obtain ⟨_, _, _, hkeeps⟩ := accounted_keeps r true (s.tank c.tank)
  have hk : k.latestCensus = some r := congrArg Tank.latestCensus hkeeps
  obtain ⟨hlatest, hdelivery, hbook, hstanding⟩ := checked_keeps r { k with waterHold := hold }
  rw [← htank] at hlatest hdelivery hbook hstanding
  rw [List.append_assoc _ ks] at hevents
  refine ⟨hlatest.trans hk, hdelivery, hbook, hstanding, _, hevents, fun hnot => ?_⟩
  rw [hks hnot, checkedEvents, testedNet_none (.inl hnot)]
  rfl

/-- R136: the variance test of a reading meets the account the delivery leaves, and its event is the last. -/
theorem readingTested_effect (s : State) (c : CensusInFlight) (b : ReadingBlock) :
    let r := censusResult s c (ReadingBlock.outcome b) (some (ReadingBlock.reading b))
    ∃ pre k, NoVariance pre ∧ k.latestCensus = some r ∧ k.latestVariance = (s.tank c.tank).latestVariance ∧
      k.strikes = (s.tank c.tank).strikes ∧ k.varianceHold = (s.tank c.tank).varianceHold ∧
      k.settings = (s.tank c.tank).settings ∧ (s.censusCompletes c b).tank c.tank = checked r k ∧
      (s.censusCompletes c b).journal.events = (s.journalAfter (pre ++ checkedEvents c.tank r k)).events := by
  intro r
  obtain ⟨hold, ks, -, hnone, htank, hevents⟩ := censusCompletes_effect s c b
  obtain ⟨_, _, _, hkeeps⟩ := accounted_keeps r c.own (s.tank c.tank)
  refine ⟨_, { accounted r c.own (s.tank c.tank) with waterHold := hold },
    ((gaugeEvent_noVariance _ _ _).append (movedEvents_noVariance _ _ _ _)).append hnone,
    ?_, ?_, ?_, ?_, ?_, htank, hevents⟩
  all_goals
    rw [hkeeps]
    rfl

/-- R136: what the variance test leaves of a state besides the counts of its tank. -/
theorem varianceTest_frame (s : State) (t : TankId) (net : Int) :
    (s.varianceTest t net).tank (otherTank t) = s.tank (otherTank t) ∧
    ((s.varianceTest t net).tank t).book = (s.tank t).book ∧
    ((s.varianceTest t net).tank t).waterHold = (s.tank t).waterHold ∧ (s.varianceTest t net).bays = s.bays := by
  obtain ⟨_, _, _, hkeeps⟩ := tested_keeps net (s.tank t)
  rw [varianceTest_eq, entered_tank, hkeeps]
  exact ⟨PerTank.get_set_other _ _ _ _ (otherTank_ne t), rfl, rfl, rfl⟩

/-- Settles O55: the delivery's own results move it, and each result that qualifies tests the book (R136, R141, R143). -/
theorem censusMovesTheDeliveryAndTestsTheBook : Obligations.CensusMovesTheDeliveryAndTestsTheBook := by
  refine ⟨fun s c b d hpower hc hwait hown hd => ?_, fun s c ph d hpower hc hwait hretry hown hd => ?_,
    fun s c b hpower hc hwait => ?_, fun s t d net hd => ?_, fun s t net => ?_⟩
  · obtain ⟨hlatest, hdelivery, hbook, hstanding, rest, hevents, hrest⟩ := ownReading_effect s b hown
    set r := censusResult s c (ReadingBlock.outcome b) (some (ReadingBlock.reading b))
    rw [gaugeEvent_outcome] at hevents
    refine ⟨s.censusCompletes c b, r, exec_censusTransaction b hpower hc hwait, hlatest, rfl, fun hp => ?_, fun hp => ?_⟩
    · rw [accounted_awaitingPre r hd hp] at hdelivery hbook
      rw [movedEvents_awaitingPre _ _ hd hp, List.append_nil] at hevents
      exact ⟨hbook, hdelivery, rest, hevents, hrest⟩
    · rw [accounted_completing r hd hp] at hdelivery hbook hstanding
      rw [movedEvents_completing _ _ hd hp, closingEvents_eq, measured_eq] at hevents
      exact ⟨hdelivery, hbook, hstanding, rest, hevents, hrest⟩
  · have hfails := (ackFails_retry (s := s) ph hretry).trans (handOff_failed ..)
    rw [hown] at hfails
    refine ⟨_, censusResult s c .failed none, (exec_ackError ph hpower hc hwait).trans (by rw [hfails]), ?_, rfl, rfl, rfl,
      rfl, rfl, rfl, rfl, rfl, fun hp => ?_, fun hp => ?_⟩
    · obtain ⟨_, _, _, hkeeps⟩ := accounted_keeps (censusResult s c .failed none) true (s.tank c.tank)
      show Tank.latestCensus (PerTank.get (PerTank.set ..) _) = _
      rw [PerTank.get_set_same]
      exact congrArg Tank.latestCensus hkeeps
    · have hpre : ((s.drive (ackErrorActs c.address ph)).tank c.tank).delivery = some d := hd
      dsimp only
      rw [accounted_awaitingPre _ hpre hp, movedEvents_awaitingPre _ _ hpre hp, List.append_nil]
      exact ⟨rfl, rfl⟩
    · have hpost : ((s.drive (ackErrorActs c.address ph)).tank c.tank).delivery = some d := hd
      dsimp only
      rw [accounted_completing _ hpost hp, movedEvents_completing _ _ hpost hp, closingEvents_eq]
      exact ⟨rfl, rfl⟩
  · obtain ⟨pre, k, hpre, hlatest, hvariance, hstrikes, hhold, hsettings, htank, hevents⟩ := readingTested_effect s c b
    set r := censusResult s c (ReadingBlock.outcome b) (some (ReadingBlock.reading b))
    refine ⟨s.censusCompletes c b, r, pre, checkedEvents c.tank r k, exec_censusTransaction b hpower hc hwait, ?_, hevents,
      hpre, fun hnot => ?_, fun v hok hstill hv => ?_⟩
    · rw [htank, (checked_keeps r k).1, hlatest]
    · rw [htank, checked, checkedEvents, testedNet_none hnot]
      exact ⟨hvariance, hstrikes, hhold, rfl⟩
    · have hbook : (checked r k).book = k.book := (checked_keeps r k).2.2.1
      dsimp only
      rw [htank, hbook, checked, checkedEvents, testedNet_some hok hstill hv, Option.elim_some, Option.elim_some,
        ← hsettings, ← hstrikes, ← hhold]
      exact tested_cases c.tank v.net k
  · have hself : s.applyOwn t false net = s := rfl
    refine ⟨fun hp => ?_, fun hp => ?_, hself⟩
    · simp only [State.applyOwn, hd, hp]
      rfl
    · have happly : s.applyOwn t true net = s.completeDelivery t d net := by
        simp only [State.applyOwn, hd, hp]
      rw [happly, completeDelivery_eq]
      rfl
  · obtain ⟨hother, hbook, hwater, hbays⟩ := varianceTest_frame s t net
    have htank : (s.varianceTest t net).tank t = tested net (s.tank t) := by rw [varianceTest_eq, entered_tank]
    have hjournal : (s.varianceTest t net).journal = s.journalAfter (testedEvents t net (s.tank t)) := by
      rw [varianceTest_eq]
      rfl
    obtain ⟨hlatest, hno, hstrike, hthird⟩ := tested_cases t net (s.tank t)
    rw [htank] at hbook hwater
    dsimp only
    rw [htank, hjournal]
    refine ⟨hlatest, hother, hbook, hwater, hbays, fun h => ?_, fun h => ?_, fun h h2 => ?_, fun h h2 => ?_⟩
    · obtain ⟨hn, hh, he⟩ := hno h
      exact ⟨hn, hh, by rw [he]; rfl⟩
    · by_cases h2 : (s.tank t).strikes = 2
      · rw [(hthird h h2).1, h2]
        rfl
      · exact (hstrike h h2).1
    · obtain ⟨-, hh, he⟩ := hthird h h2
      exact ⟨by rw [he]; rfl, hh⟩
    · obtain ⟨-, hh, he⟩ := hstrike h h2
      exact ⟨by rw [he]; rfl, hh⟩

/-! ## STRAP SET -/

/-- R126: from each point to the next the level strictly rises and the volume does not fall. -/
theorem risingPoints_iff (ps : List StrapPoint) : risingPoints ps = true ↔
    ∀ i p q, ps[i]? = some p → ps[i + 1]? = some q → p.level < q.level ∧ p.litres ≤ q.litres := by
  induction ps with
  | nil => simp [risingPoints]
  | cons a rest ih =>
    cases rest with
    | nil => simp [risingPoints]
    | cons b rest =>
      simp only [risingPoints, Bool.and_eq_true, decide_eq_true_iff, ih]
      refine ⟨fun ⟨hstep, hrest⟩ i p q hp hq => ?_, fun h => ⟨h 0 a b rfl rfl, fun i => h (i + 1)⟩⟩
      cases i with
      | zero =>
        cases hp
        cases hq
        exact hstep
      | succ i => exact hrest i p q hp hq

/-- R126: a table passes with at least two points that rise. -/
theorem tablePasses_iff (ps : List StrapPoint) : tablePasses ps = true ↔
    2 ≤ ps.length ∧ ∀ i p q, ps[i]? = some p → ps[i + 1]? = some q → p.level < q.level ∧ p.litres ≤ q.litres := by
  rw [tablePasses, Bool.and_eq_true, decide_eq_true_iff, risingPoints_iff]

/-- R125, R171: a piece is clamped when one of its points lies outside its ranges. -/
theorem any_outside (ps : List StrapPoint) :
    ps.any StrapPoint.outside = decide (∃ p ∈ ps, 50000 < p.level ∨ 200000 < p.litres) := by
  rw [Bool.eq_iff_iff, List.any_eq_true, decide_eq_true_iff]
  simp only [StrapPoint.outside, Bool.or_eq_true, outsideNat_iff, Nat.not_lt_zero, false_or]

/-- R125: the pieces STRAP SET may take: of one to eight points, within the table of 24. -/
def FitsTable (r : StrapSetReq) : Prop := r.points ≠ [] ∧ r.points.length ≤ 8 ∧ r.first + r.points.length ≤ 24

theorem not_fitsTable_iff (r : StrapSetReq) :
    ¬FitsTable r ↔ r.points.length = 0 ∨ 8 < r.points.length ∨ 24 < r.first + r.points.length := by
  rw [FitsTable, ← List.length_eq_zero_iff.ne]
  omega

/-- R125: a piece at index 0 starts the table again. -/
theorem takePiece_start {first : Nat} (piece : List StrapPoint) (k : Strapping) (h : first = 0) :
    k.takePiece first piece = some piece := if_pos h

/-- R125: a piece at the index after the last point held goes on with the table. -/
theorem takePiece_next {first : Nat} (piece : List StrapPoint) {ps : List StrapPoint} (h : first ≠ 0)
    (hnext : first = ps.length) : (Strapping.loading ps).takePiece first piece = some (ps ++ piece) :=
  (if_neg h).trans (if_pos hnext)

/-- R125: a piece at another index is refused. -/
theorem takePiece_gap {first : Nat} (piece : List StrapPoint) {ps : List StrapPoint} (h : first ≠ 0)
    (hgap : first ≠ ps.length) : (Strapping.loading ps).takePiece first piece = none :=
  (if_neg h).trans (if_neg hgap)

/-- R125: a table that is not loading takes a piece at index 0 alone. -/
theorem takePiece_idle {first : Nat} (piece : List StrapPoint) {k : Strapping} (hidle : ∀ ps, k ≠ .loading ps)
    (h : first ≠ 0) : k.takePiece first piece = none := by
  cases k with
  | loading ps => exact absurd rfl (hidle ps)
  | empty => exact if_neg h
  | complete ps => exact if_neg h

/-- R125: what every reply about a tank carries, its table being k. -/
def strapReply (s : State) (t : TankId) (k : Strapping) (stored : Option (List StrapPoint)) : ReplyFields :=
  .strapping t k.load k.points.length (gaugeOf k (s.probeTank t).failures) stored

theorem strapFields_taken (s : State) (t : TankId) (stored : Option (List StrapPoint)) :
    s.taken.strapFields t stored = strapReply s t (s.tank t).strapping stored := by
  simp only [State.strapFields, strapReply, taken_tank, taken_probeTank]

/-- The state with a tank's table replaced. -/
def strapped (s : State) (t : TankId) (k : Strapping) : State := s.setTank t { s.tank t with strapping := k }

theorem strapFields_strapped (s : State) (t : TankId) (k : Strapping) (stored : Option (List StrapPoint)) :
    (strapped s t k).strapFields t stored = strapReply s t k stored := by
  simp only [State.strapFields, strapped, State.tank_setTank_same]
  rfl

/-- R125: the refusals of a STRAP SET that names its tank. -/
theorem strapSet_refuses {r : StrapSetReq} {s : State} {t : TankId} (ht : tankOf r.tank = some t)
    (h : 1 < r.final ∨ ¬FitsTable r ∨
      (s.tank t).strapping.takePiece r.first (r.points.map StrapPoint.clamped) = none) :
    strapSet r s = (s, .refuseWith .invalid (s.strapFields t none)) := by
  unfold strapSet
  rw [ht, yesNo_eq]
  by_cases hfinal : r.final ≤ 1
  · rw [if_pos hfinal]
    rw [not_fitsTable_iff] at h
    dsimp only [State.loadStrap]
    split
    · rfl
    · rcases h with h | h | h
      · omega
      · contradiction
      · rw [h]
  · rw [if_neg hfinal]

/-- R125, R126: a STRAP SET whose piece is taken: the table goes on loading, or the final check decides it. -/
theorem strapSet_takes {r : StrapSetReq} {s : State} {t : TankId} {ps : List StrapPoint} (ht : tankOf r.tank = some t)
    (hfits : FitsTable r)
    (htake : (s.tank t).strapping.takePiece r.first (r.points.map StrapPoint.clamped) = some ps) :
    let reply (k : Strapping) : State × Reply := (strapped s t k,
      .okClamped (r.points.any StrapPoint.outside) (strapReply s t k
        (shownIf (r.points.any StrapPoint.outside) (r.points.map StrapPoint.clamped))))
    (r.final = 0 → strapSet r s = reply (.loading ps)) ∧
    (r.final = 1 → tablePasses ps = true → strapSet r s = reply (.complete ps)) ∧
    (r.final = 1 → tablePasses ps = false →
      strapSet r s = (strapped s t .empty, .refuseWith .invalid (strapReply s t .empty none))) := by
  have hload (final : Bool) : s.loadStrap t final r =
      let u := strapped s t (finishTable final ps)
      if final && !tablePasses ps then (u, .refuseWith .invalid (u.strapFields t none))
      else (u, .okClamped (r.points.any StrapPoint.outside) (u.strapFields t
        (shownIf (r.points.any StrapPoint.outside) (r.points.map StrapPoint.clamped)))) := by
    unfold State.loadStrap
    rw [if_neg (fun h => (not_fitsTable_iff r).2 h hfits)]
    dsimp only
    rw [htake]
    rfl
  intro reply
  refine ⟨fun hfinal => ?_, fun hfinal hpass => ?_, fun hfinal hfail => ?_⟩
  · simp [strapSet, ht, hfinal, yesNo, hload, finishTable, strapFields_strapped, reply]
  · simp [strapSet, ht, hfinal, yesNo, hload, finishTable, hpass, strapFields_strapped, reply]
  · simp [strapSet, ht, hfinal, yesNo, hload, finishTable, hfail, strapFields_strapped]

/-- R125: the outcome of a STRAP SET refused by its final mark, its size or its first index. -/
theorem exec_strapSet_refuses {s : State} {f : Frame} {r : StrapSetReq} {t : TankId} (hf : s.requestAt 0x25 = some f)
    (hr : parseStrapSet f.payload.tail = some r) (ht : tankOf r.tank = some t)
    (h : 1 < r.final ∨ ¬FitsTable r ∨
      (s.tank t).strapping.takePiece r.first (r.points.map StrapPoint.clamped) = none) :
    exec .strapSet s = answered f s.taken (.refuseWith .invalid (strapReply s t (s.tank t).strapping none)) := by
  have hexec : exec .strapSet s = answered f (strapSet r s.taken).1 (strapSet r s.taken).2 := request_served hf hr
  rw [hexec, strapSet_refuses ht (by rwa [taken_tank]), strapFields_taken]

/-- R125, R126: the outcomes of a STRAP SET whose piece is taken. -/
theorem exec_strapSet_takes {s : State} {f : Frame} {r : StrapSetReq} {t : TankId} {ps : List StrapPoint}
    (hf : s.requestAt 0x25 = some f) (hr : parseStrapSet f.payload.tail = some r) (ht : tankOf r.tank = some t)
    (hfits : FitsTable r)
    (htake : (s.tank t).strapping.takePiece r.first (r.points.map StrapPoint.clamped) = some ps) :
    let clamped := decide (∃ p ∈ r.points, 50000 < p.level ∨ 200000 < p.litres)
    let state (k : Strapping) := s.taken.setTank t { s.tank t with strapping := k }
    let taken (k : Strapping) := answered f (state k)
      (.okClamped clamped (strapReply s t k (shownIf clamped (r.points.map StrapPoint.clamped))))
    (r.final = 0 → exec .strapSet s = taken (.loading ps)) ∧
    (r.final = 1 → tablePasses ps = true → exec .strapSet s = taken (.complete ps)) ∧
    (r.final = 1 → tablePasses ps = false →
      exec .strapSet s = answered f (state .empty) (.refuseWith .invalid (strapReply s t .empty none))) := by
  have hexec : exec .strapSet s = answered f (strapSet r s.taken).1 (strapSet r s.taken).2 := request_served hf hr
  obtain ⟨hloading, hcomplete, hempty⟩ := strapSet_takes (s := s.taken) ht hfits (by rwa [taken_tank])
  simp only [strapped, strapReply, taken_tank, taken_probeTank, any_outside] at hloading hcomplete hempty
  refine ⟨fun hfinal => ?_, fun hfinal hpass => ?_, fun hfinal hfail => ?_⟩
  · rw [hexec, hloading hfinal]
    rfl
  · rw [hexec, hcomplete hfinal hpass]
    rfl
  · rw [hexec, hempty hfinal hfail]
    rfl

/-- Settles O52: STRAP SET takes the pieces of a table in order and checks the whole with the last (R125, R126). -/
theorem strapSetLoadsATable : Obligations.StrapSetLoadsATable := by
  refine ⟨fun s f r hf hr => ⟨fun ht => ?_, fun t ht => ?_⟩, tablePasses_iff⟩
  · have hexec : exec .strapSet s = answered f (strapSet r s.taken).1 (strapSet r s.taken).2 := request_served hf hr
    have hnone : strapSet r s.taken = (s.taken, .refuse .invalid) := by
      unfold strapSet
      rw [ht]
    rw [hexec, hnone]
    rfl
  · have hrefuses := exec_strapSet_refuses hf hr ht
    refine ⟨fun hbad => hrefuses ?_, fun hsome hmost hlast => ?_⟩
    · rw [not_fitsTable_iff, List.length_eq_zero_iff]
      tauto
    · have htakes {ps : List StrapPoint} := exec_strapSet_takes (ps := ps) hf hr ht ⟨hsome, hmost, hlast⟩
      refine ⟨fun hfirst => htakes ?_, fun ps hloading hfirst hnext => htakes ?_,
        fun ps hloading hfirst hgap => hrefuses (.inr (.inr ?_)), fun hidle hfirst => hrefuses (.inr (.inr ?_))⟩
      · exact takePiece_start _ _ hfirst
      · rw [hloading]
        exact takePiece_next _ hfirst hnext
      · rw [hloading]
        exact takePiece_gap _ hfirst hgap
      · exact takePiece_idle _ hidle hfirst

/-! ## POD SET -/

/-- R173: a range from 0 clamps at its upper end alone. -/
theorem clampNat_zero (hi n : Nat) : clampNat 0 hi n = min n hi := by
  rw [clampNat, if_neg (Nat.not_lt_zero n)]
  split <;> omega

/-- R173: CLAMPED goes by the ranges. -/
theorem podSet_clamps_iff (r : PodSetReq) : r.clamps = true ↔ r.censusPeriod < 30 ∨ 3600 < r.censusPeriod ∨
    r.watchDelay < 10 ∨ 600 < r.watchDelay ∨ r.deliveryWindow < 10 ∨ 240 < r.deliveryWindow ∨ 7 < r.yardS ∨
    r.yardD < 2 ∨ 127 < r.yardD ∨ 7 < r.trunkS ∨ r.trunkD < 2 ∨ 127 < r.trunkD := by
  simp only [PodSetReq.clamps, Bool.or_eq_true, outsideNat_iff, Nat.not_lt_zero, false_or, or_assoc]

/-- R119, R160, R173: what new pod settings change; the yard port takes its rate between frames. -/
theorem applyPodSettings_eq (s : State) (p : PodSettings) :
    s.applyPodSettings p = { s with
      podSettings := p, probe := { s.probe with censusTimer := p.censusPeriod * 1000 }
      watchTimer := s.watchTimer.map (fun _ => p.watchDelay * 1000)
      yard := if s.yard.betweenFrames then { s.yard with rate := p.yardRate } else s.yard
      yardMode := if s.yard.betweenFrames then s.yardTarget else s.yardMode } := by
  have hport : (({ s with podSettings := p } : State).startCensusTimer.restartWatch).yard = s.yard := rfl
  unfold State.applyPodSettings State.tryYardRate
  rw [hport]
  cases s.yard.betweenFrames <;> rfl

/-- Settles O59: POD SET stores its settings clamped; the census timer and a running watch delay timer start again (R173). -/
theorem podSetStoresClampedSettings : Obligations.PodSetStoresClampedSettings := by
  intro s f r hf hr p
  have hp : r.settings = p := by
    simp only [PodSetReq.settings, clampRate, clampNat_zero]
    rfl
  have hexec : exec .podSet s = answered f (s.taken.applyPodSettings p)
      (.okClamped r.clamps (.podSettings p p.yardRate.bitRate p.trunkRate.bitRate)) := by
    rw [← hp]
    exact request_served hf hr
  have hprobe : s.taken.probe = s.probe := by simp
  refine ⟨_, _, hexec, podSet_clamps_iff r, ?_, fun hhunting hidle => ?_, fun hbusy => ?_⟩
  · rw [applyPodSettings_eq, hprobe]
  · rw [applyPodSettings_eq, if_pos ((betweenFrames_iff _).2 ⟨hhunting, hidle⟩)]
  · have hbetween : ¬s.taken.yard.betweenFrames = true := by
      rw [betweenFrames_iff]
      tauto
    rw [applyPodSettings_eq, if_neg hbetween]

end Sys2Proof.Censuses
end

section
/-! PROOFS of the family of chapter 08. What makes a tank busy and what a request finds of its tank; the standing formed
again and its table; the requests of the Tank Account Unit and the delivery window's expiry, each against its rule. -/

namespace Sys2Proof.TankAccounts

open Sys2Proof Sys2Proof.Machine Sys2Proof.FleetRegister Sys2Proof.ServiceIntervals Sys2Proof.Authorising
  Sys2Proof.BaySequencing Sys2Proof.Censuses

/-! ## What a request finds of its tank -/

/-- 00, Terms: the active states. -/
theorem active_iff (st : BayState) :
    st.active = true ↔ st = .granted ∨ st = .flowing ∨ st = .trimming ∨ st = .closing := by
  cases st <;> simp [BayState.active]

/-- R131, R133, R140: a tank is busy by the settings and the states of the bays. -/
theorem tankBusy_iff_states (s : State) (t : TankId) : s.tankBusy t = true ↔ ∃ b, (s.bay b).settings.tank = t ∧
    ((s.bay b).state = .granted ∨ (s.bay b).state = .flowing ∨ (s.bay b).state = .trimming ∨
      (s.bay b).state = .closing) := by
  simp only [tankBusy_iff, active_iff]

/-- A request taken and the wake leave a tank as busy as it was. -/
theorem taken_tankBusy (s : State) (t : TankId) : s.taken.tankBusy t = s.tankBusy t := by
  rw [Bool.eq_iff_iff, tankBusy_iff, tankBusy_iff]
  simp only [taken_bay]

/-- R139: RECEIVING goes by the delivery record. -/
theorem receiving_false_iff (k : Tank) : k.receiving = false ↔ k.delivery = none := by
  rw [Tank.receiving, Option.isSome_eq_false_iff, Option.isNone_iff_eq_none]

/-- A payload of a tank and a figure of four bytes. -/
theorem parseTwo_tankFigure (n a b c d : Byte) :
    parseTwo 1 4 [n, a, b, c, d] = some (n.toNat, beNat [a, b, c, d]) := by
  have : fieldsOf [1, 4] [n, a, b, c, d] = some [beNat [n], beNat [a, b, c, d]] := rfl
  simp [parseTwo, this, beNat_one]

/-- R171: a value of a range from 0 is clamped when it lies past the upper end. -/
theorem outsideNat_zero (hi n : Nat) : outsideNat 0 hi n = decide (hi < n) := by
  rw [Bool.eq_iff_iff, outsideNat_iff, decide_eq_true_iff]
  omega

/-! ## The standing -/

/-- R134: a standing that is formed the same is not touched. -/
theorem reformStanding_same {s : State} {t : TankId}
    (h : formStanding (s.tank t).settings (s.tank t).book = (s.tank t).standing) : s.reformStanding t = s := if_pos h

/-- R134: a change of standing is logged. -/
theorem reformStanding_journal {s : State} {t : TankId}
    (h : formStanding (s.tank t).settings (s.tank t).book ≠ (s.tank t).standing) : (s.reformStanding t).journal =
      s.journal.logEvent s.stamp (.stockStanding t (formStanding (s.tank t).settings (s.tank t).book)) := by
  rw [State.reformStanding, if_neg h]
  rfl

/-- R134: the table of the standings; the reserve level is at most the ration level. -/
theorem formStanding_table (k : TankSettings) (book : Int) (h : k.reserveLevel ≤ k.rationLevel) :
    ((k.rationLevel : Int) * 1000000 < book → formStanding k book = .normal) ∧
    (book ≤ (k.rationLevel : Int) * 1000000 → (k.reserveLevel : Int) * 1000000 < book → formStanding k book = .ration) ∧
    (book ≤ (k.reserveLevel : Int) * 1000000 → 0 < book → formStanding k book = .reserve) ∧
    (book ≤ 0 → formStanding k book = .empty) := by
  refine ⟨fun hration => if_pos hration, fun hration hreserve => ?_, fun hreserve hbook => ?_, fun hbook => ?_⟩
  · rw [formStanding, if_neg (by omega), if_pos hreserve]
  · rw [formStanding, if_neg (by omega), if_neg (by omega), if_pos hbook]
  · rw [formStanding, if_neg (by omega), if_neg (by omega), if_neg (by omega)]

/-! ## TANK SET -/

/-- R130, R131: CLAMPED goes by the ranges, the ration level's ending at the capacity and the reserve level's at the ration
level. -/
theorem tankSet_clamps_iff (r : TankSetReq) : r.clamps = true ↔
    r.capacity < 1000 ∨ 200000 < r.capacity ∨ 2000 < r.expansion ∨ (r.settings false).capacity < r.rationLevel ∨
      (r.settings false).rationLevel < r.reserveLevel ∨ 3 < r.reservePriority ∨ r.rationPercent < 10 ∨
      100 < r.rationPercent ∨ r.tolerance < 1 ∨ 10000 < r.tolerance ∨ 50000 < r.waterLimit ∨ r.probeAddress < 8 ∨
      119 < r.probeAddress ∨ 600 < r.settleTime := by
  simp only [TankSetReq.clamps, Bool.or_eq_true, outsideNat_iff, Nat.not_lt_zero, false_or, or_assoc]

/-- R131: a TANK SET that names no tank or has no hold setting is INVALID. -/
theorem tankSet_invalid {r : TankSetReq} (h : tankOf r.tank = none ∨ 1 < r.holdEnable) (s : State) :
    tankSet r s = (s, .refuse .invalid) := by
  unfold tankSet
  rcases h with h | h
  · rw [h]
  · rw [yesNo_eq, if_neg (Nat.not_le.2 h)]
    cases tankOf r.tank <;> rfl

/-- R131: a TANK SET whose fields name a tank and a hold setting is refused with BUSY or stored. -/
theorem tankSet_eq {r : TankSetReq} {t : TankId} (ht : tankOf r.tank = some t) (hhold : r.holdEnable ≤ 1) (s : State) :
    tankSet r s =
      if s.tankBusy t = true ∨ (s.tank t).receiving = true then (s, .refuse .busy)
      else
        let cfg := r.settings (decide (r.holdEnable = 1))
        ((s.setTank t { s.tank t with settings := cfg }).reformStanding t,
          .okClamped r.clamps (.tankSettings t cfg (formStanding cfg (s.tank t).book))) := by
  simp [tankSet, ht, yesNo_eq, hhold, State.reformStanding_tank]

/-! ## STOCK SET and TANK CLEAR -/

/-- R14: whole litres are reported in centilitres without rounding. -/
theorem toCl_litres (n : Nat) : toCl ((n : Int) * 1000000) = n * 100 := by
  have hmod : (n : Int) * 1000000 % 10000 = 0 := by omega
  have hdiv : (n : Int) * 1000000 / 10000 = n * 100 := by omega
  simp [toCl, convRound, hmod, hdiv]

/-- R133: a STOCK SET that names a tank is refused with BUSY, or sets the book and its mark. -/
theorem stockSet_eq {r : Nat × Nat} {t : TankId} (ht : tankOf r.1 = some t) (s : State) :
    stockSet r s =
      if s.tankBusy t = true then (s, .refuse .busy)
      else
        let k := s.tank t
        let litres := clampNat 0 k.settings.capacity r.2
        let book : Int := litres * 1000000
        (((s.setTank t { k with book := book, stockSet := true }).log
            (.stockSet t (toCl k.book) (litres * 100))).reformStanding t,
          .okClamped (decide (k.settings.capacity < r.2))
            (.stockSet t (toCl k.book) (litres * 100) (formStanding k.settings book))) := by
  have hlogged (u : State) (e : EventKind) : (u.log e).tank t = u.tank t := State.tank_congr (by simp) t
  simp [stockSet, ht, State.setStock, State.reformStanding_tank, hlogged, toCl_litres, outsideNat_zero]

/-- R133: STOCK SET. -/
theorem stockSet_answers {s : State} {f : Frame} {ref n a b c d : Byte} (hf : s.requestAt 0x31 = some f)
    (hp : f.payload = [ref, n, a, b, c, d]) :
    exec .stockSet s = answered f (stockSet (n.toNat, beNat [a, b, c, d]) s.taken).1
      (stockSet (n.toNat, beNat [a, b, c, d]) s.taken).2 :=
  request_served hf (by rw [hp]; exact parseTwo_tankFigure ..)

/-- R138: TANK CLEAR. -/
theorem tankClear_answers {s : State} {f : Frame} {ref n : Byte} (hf : s.requestAt 0x30 = some f)
    (hp : f.payload = [ref, n]) :
    exec .tankClear s = answered f (tankClear n.toNat s.taken).1 (tankClear n.toNat s.taken).2 :=
  request_served hf (by rw [hp]; exact parseOne_byte n)

/-- Settles O53: the settings, the book and the holds as the site sets them, and the standing that follows (R130, R131, R133,
R134, R138). -/
theorem tankSetStockSetAndTankClear : Obligations.TankSetStockSetAndTankClear := by
  refine ⟨fun s f r hf hr => ?_, fun s f ref n a b c d hf hp => ?_, fun s f ref n hf hp => ?_,
    fun s t => ⟨s.reformStanding_tank t, reformStanding_same, reformStanding_journal⟩, formStanding_table,
    tankBusy_iff_states⟩
  · have hanswer : exec .tankSet s = answered f (tankSet r s.taken).1 (tankSet r s.taken).2 := request_served hf hr
    rw [hanswer]
    refine ⟨fun hbad => by rw [tankSet_invalid hbad]; rfl, fun t ht hhold => ?_⟩
    rw [tankSet_eq ht hhold, taken_tankBusy, taken_tank]
    refine ⟨fun hbusy => by rw [if_pos hbusy]; rfl, fun hidle hnone => ⟨r.clamps, ?_, tankSet_clamps_iff r⟩⟩
    rw [if_neg (by simp [hidle, hnone])]
    rfl
  · rw [stockSet_answers hf hp]
    refine ⟨fun ht => by simp [stockSet, ht, refused], fun t ht => ?_⟩
    rw [stockSet_eq ht, taken_tankBusy, taken_tank]
    refine ⟨fun hbusy => by rw [if_pos hbusy]; rfl, fun hidle => ?_⟩
    rw [if_neg (by simp [hidle])]
    rfl
  · rw [tankClear_answers hf hp]
    refine ⟨fun ht => by simp [tankClear, ht, refused], fun t ht => ?_⟩
    simp [tankClear, ht, taken_tank, Tank.clear, Tank.receiving]

/-! ## Deliveries -/

/-- R140: a DELIVERY OPEN that names a tank is refused by its bays, then by its record, or creates the record. -/
theorem deliveryOpen_eq {r : Nat × Nat} {t : TankId} (ht : tankOf r.1 = some t) (s : State) :
    deliveryOpen r s =
      if s.tankBusy t = true then (s, .refuse .busy)
      else if (s.tank t).delivery ≠ none then (s, .refuse .stateRefused)
      else
        let docket := clampNat 0 200000 r.2
        let w := s.podSettings.deliveryWindow
        ((s.setTank t { s.tank t with delivery := some (Delivery.fresh docket w) }).raiseCensus t .pre,
          .okClamped (decide (200000 < r.2)) (.deliveryOpen t docket w)) := by
  simp [deliveryOpen, ht, outsideNat_zero, Tank.receiving, Option.isSome_iff_ne_none]

/-- R142: a DELIVERY CLOSE by the phase of the delivery it finds. -/
theorem deliveryClose_phases {n : Nat} {t : TankId} {s : State} {d : Delivery} (ht : tankOf n = some t)
    (hd : (s.tank t).delivery = some d) :
    (d.phase = .completing → deliveryClose n s = (s, .refuse .stateRefused)) ∧
    (d.phase = .awaitingPre → deliveryClose n s = (s, .refuse .busy)) ∧
    (d.phase = .opened →
      deliveryClose n s = (s.closeDelivery t d d.expired, .okWith (.deliveryClose t .completing))) := by
  simp only [deliveryClose, ht, hd]
  exact ⟨fun hphase => by rw [hphase], fun hphase => by rw [hphase], fun hphase => by rw [hphase]⟩

/-- R142: a DELIVERY CLOSE finds no delivery. -/
theorem deliveryClose_none {n : Nat} {t : TankId} {s : State} (ht : tankOf n = some t) (hd : (s.tank t).delivery = none) :
    deliveryClose n s = (s, .refuse .stateRefused) := by
  simp only [deliveryClose, ht, hd]

/-- R145: a DELIVERY ABORT finds no delivery. -/
theorem deliveryAbort_none {n : Nat} {t : TankId} {s : State} (ht : tankOf n = some t) (hd : (s.tank t).delivery = none) :
    deliveryAbort n s = (s, .refuse .stateRefused) := by
  simp only [deliveryAbort, ht, hd]

/-- R145: a COMPLETING delivery is past its abort; any other is removed. -/
theorem deliveryAbort_eq {n : Nat} {t : TankId} {s : State} {d : Delivery} (ht : tankOf n = some t)
    (hd : (s.tank t).delivery = some d) :
    deliveryAbort n s =
      if d.phase = .completing then (s, .refuse .stateRefused)
      else (((s.setTank t { s.tank t with delivery := none }).disown t).log (.deliveryAborted t), .okWith .nothing) := by
  cases hphase : d.phase <;> simp [deliveryAbort, ht, hd, hphase]

/-- R140: DELIVERY OPEN. -/
theorem deliveryOpen_answers {s : State} {f : Frame} {ref n a b c d : Byte} (hf : s.requestAt 0x32 = some f)
    (hp : f.payload = [ref, n, a, b, c, d]) :
    exec .deliveryOpen s = answered f (deliveryOpen (n.toNat, beNat [a, b, c, d]) s.taken).1
      (deliveryOpen (n.toNat, beNat [a, b, c, d]) s.taken).2 :=
  request_served hf (by rw [hp]; exact parseTwo_tankFigure ..)

/-- R142: DELIVERY CLOSE. -/
theorem deliveryClose_answers {s : State} {f : Frame} {ref n : Byte} (hf : s.requestAt 0x33 = some f)
    (hp : f.payload = [ref, n]) :
    exec .deliveryClose s = answered f (deliveryClose n.toNat s.taken).1 (deliveryClose n.toNat s.taken).2 :=
  request_served hf (by rw [hp]; exact parseOne_byte n)

/-- R145: DELIVERY ABORT. -/
theorem deliveryAbort_answers {s : State} {f : Frame} {ref n : Byte} (hf : s.requestAt 0x34 = some f)
    (hp : f.payload = [ref, n]) :
    exec .deliveryAbort s = answered f (deliveryAbort n.toNat s.taken).1 (deliveryAbort n.toNat s.taken).2 :=
  request_served hf (by rw [hp]; exact parseOne_byte n)

/-! ## The delivery window -/

/-- R144: a window has run out when a delivery that is not COMPLETING has one that stands at 0. -/
theorem windowRanOut_iff (s : State) (t : TankId) : s.windowRanOut t = true ↔
    ∃ d, (s.tank t).delivery = some d ∧ d.phase ≠ .completing ∧ d.window = some 0 := by
  unfold State.windowRanOut
  cases (s.tank t).delivery <;> simp

/-- R144: a census of the tank in flight is its delivery's own no more. -/
theorem disown_inFlight_own {s : State} {t : TankId} {c : CensusInFlight} (hc : (s.disown t).probe.inFlight = some c)
    (ht : c.tank = t) : c.own = false := by
  by_contra hown
  have hmark : ownCensus (s.disown t) = some (c.tank, c.purpose) :=
    (ownCensus_iff ..).2 ⟨c, hc, Bool.eq_true_of_not_eq_false hown, rfl⟩
  exact ((disown_own s t _).1 hmark).2 ht

/-- R144: what the expiry does to the delivery it finds. -/
theorem windowExpires_eq {s : State} {t : TankId} {d : Delivery} (hd : (s.tank t).delivery = some d) :
    s.windowExpires t = (s.disown t).closeDelivery t d true := by
  simp only [State.windowExpires, hd]

/-- Settles O54: a delivery is opened, closed, expires or is aborted by its phase (R140, R142, R144, R145). -/
theorem deliveryRequestsAndWindow : Obligations.DeliveryRequestsAndWindow := by
  refine ⟨fun s f ref n a b c d hf hp => ?_, fun s f ref n hf hp => ?_, fun s t d hpower hd hphase hwindow => ⟨?_, ?_⟩,
    fun s t h => ?_, fun s f ref n hf hp => ?_, tankBusy_iff_states⟩
  · rw [deliveryOpen_answers hf hp]
    refine ⟨fun ht => by simp [deliveryOpen, ht, refused], fun t ht => ?_⟩
    have hpod : s.taken.podSettings = s.podSettings := by simp
    rw [deliveryOpen_eq ht, taken_tankBusy, taken_tank, hpod]
    refine ⟨fun hbusy => by rw [if_pos hbusy]; rfl, fun hidle hd => ?_, fun hidle hd => ?_⟩
    · rw [if_neg (by simp [hidle]), if_pos hd]
      rfl
    · rw [if_neg (by simp [hidle]), if_neg (not_not.2 hd)]
      rfl
  · rw [deliveryClose_answers hf hp]
    refine ⟨fun ht => by simp [deliveryClose, ht, refused], fun t ht => ⟨fun hd => ?_, fun d hd => ?_⟩⟩
    · rw [deliveryClose_none ht ((taken_tank s t).symm ▸ hd)]
      rfl
    · obtain ⟨hcompleting, hpre, hopened⟩ := deliveryClose_phases ht ((taken_tank s t).symm ▸ hd)
      refine ⟨fun hphase => ?_, fun hphase => ?_, fun hphase => ?_⟩
      · rw [hcompleting hphase]
        rfl
      · rw [hpre hphase]
        rfl
      · rw [hopened hphase, State.closeDelivery, taken_tank]
  · have hoccasion : (s.powered && s.windowRanOut t) = true := by
      rw [hpower, (windowRanOut_iff s t).2 ⟨d, hd, hphase, hwindow⟩]
      rfl
    have hexec : exec (.windowTimerExpiry t) s = .next (s.windowExpires t).settled :=
      event_occurs (fun u => u.windowExpires t) s hoccasion
    rw [hexec, windowExpires_eq hd]
    rfl
  · exact fun c => disown_inFlight_own
  · have hnot : s.windowRanOut t = false := by
      rw [← Bool.not_eq_true, windowRanOut_iff]
      exact fun ⟨d, hd, _, hwindow⟩ => h d hd hwindow
    simp [exec, execWindowTimerExpiry, event, hnot]
  · rw [deliveryAbort_answers hf hp]
    refine ⟨fun ht => by simp [deliveryAbort, ht, refused], fun t ht => ⟨fun hd => ?_, fun d hd => ?_⟩⟩
    · rw [deliveryAbort_none ht ((taken_tank s t).symm ▸ hd)]
      rfl
    · rw [deliveryAbort_eq ht ((taken_tank s t).symm ▸ hd), taken_tank]
      refine ⟨fun hphase => ?_, fun hphase => ?_⟩
      · rw [if_pos hphase]
        rfl
      · rw [if_neg hphase]

end Sys2Proof.TankAccounts
end

section
/-! PROOFS of the family of chapter 09. What the laws of the journal read of a state, and the entries a command can make
there; each law is kept entry by entry, and every command makes entries alone. Then logging, and the journal's requests. -/

namespace Sys2Proof.JournalRings

open Sys2Proof Sys2Proof.Machine Sys2Proof.FleetRegister Sys2Proof.ServiceIntervals Sys2Proof.Authorising
open Sys2Proof.BaySequencing Sys2Proof.Censuses

/-! ## One ring -/

section
variable {α : Type} {base span : Nat} {g : Machine.Ring α}

/-- R149: a pointer so far into its ring advances by one within it. -/
theorem advancePtr_mod (base : Nat) {span : Nat} (n : Nat) (h : 0 < span) :
    advancePtr base span (base + n % span) = base + (n + 1) % span := by
  have hlt := Nat.mod_lt n h
  rw [show (n + 1) % span = (n % span + 1) % span from (Nat.mod_add_mod ..).symm]
  generalize n % span = m at hlt ⊢
  unfold advancePtr
  split
  · rw [Nat.mod_eq_of_lt (by omega), Nat.add_assoc]
  · rw [show m + 1 = span by omega, Nat.mod_self, Nat.add_zero]

/-- R149: a record joins a ring that has room. -/
theorem push_lawful (r : α) (room : g.records.length < span) (h : g.lawful base span) :
    (g.push base span r).lawful base span := by
  obtain ⟨low, high, hwrite, -⟩ := h
  refine ⟨low, high, ?_, ?_⟩
  · show advancePtr base span g.writePtr = _
    rw [hwrite, advancePtr_mod _ _ (by omega)]
    simp [Machine.Ring.push, Nat.add_assoc]
  · simpa [Machine.Ring.push] using room

/-- R149: a ring's oldest record leaves it. -/
theorem dropOldest_lawful (h : g.lawful base span) : (g.dropOldest base span).lawful base span := by
  obtain ⟨low, high, hwrite, hheld⟩ := h
  unfold Machine.Ring.dropOldest
  split
  · exact ⟨low, high, hwrite, hheld⟩
  · rename_i r rest hr
    rw [hr, List.length_cons] at hwrite hheld
    have hpos : 0 < span := by omega
    have hptr : advancePtr base span g.readPtr = base + (g.readPtr - base + 1) % span := by
      rw [← advancePtr_mod base _ hpos, Nat.mod_eq_of_lt (by omega), Nat.add_sub_cancel' low]
    have hlt := Nat.mod_lt (g.readPtr - base + 1) hpos
    refine ⟨?_, ?_, ?_, ?_⟩
    · show base ≤ advancePtr base span g.readPtr
      omega
    · show advancePtr base span g.readPtr < base + span
      omega
    · show g.writePtr = base + (advancePtr base span g.readPtr - base + rest.length) % span
      rw [hwrite, hptr, Nat.add_sub_cancel_left, Nat.mod_add_mod]
      congr 2
      omega
    · show rest.length ≤ span
      omega

/-- R150: a ring laid out anew without records. -/
theorem empty_lawful (empty : g.records = []) (read : g.readPtr = base) (write : g.writePtr = base) (pos : 0 < span) :
    g.lawful base span := by
  unfold Machine.Ring.lawful
  simp [empty, read, write, pos]

/-- The records of a ring whose oldest is dropped. -/
theorem dropOldest_records (base span : Nat) (g : Machine.Ring α) : (g.dropOldest base span).records = g.records.tail := by
  unfold Machine.Ring.dropOldest
  split
  · rename_i hr
    rw [hr]
    rfl
  · rename_i hr
    rw [hr]
    rfl

theorem dropOldest_nextSeq (base span : Nat) (g : Machine.Ring α) : (g.dropOldest base span).nextSeq = g.nextSeq := by
  unfold Machine.Ring.dropOldest
  split <;> rfl

theorem dropOldest_writePtr (base span : Nat) (g : Machine.Ring α) : (g.dropOldest base span).writePtr = g.writePtr := by
  unfold Machine.Ring.dropOldest
  split <;> rfl

/-- R157: a release keeps the ring's pointers. -/
theorem release_lawful (n : Nat) (h : g.lawful base span) : (Machine.Ring.release base span n g).lawful base span := by
  induction n generalizing g with
  | zero => exact h
  | succ n ih => exact ih (dropOldest_lawful h)

/-- R157: a release leaves the newer records, and the write pointer and the next sequence, wherever the pointers stand. -/
theorem release_shape (base span n : Nat) (g : Machine.Ring α) : Machine.Ring.release base span n g =
    { g with records := g.records.drop n, readPtr := (Machine.Ring.release base span n g).readPtr } := by
  induction n generalizing g with
  | zero => rfl
  | succ n ih =>
    refine (ih (g.dropOldest base span)).trans ?_
    rw [dropOldest_records, dropOldest_writePtr, dropOldest_nextSeq, List.drop_tail]
    rfl

/-- R151: a record that takes the next number joins consecutive ones. -/
theorem push_numbered {seqOf : α → Nat} {r : α} (hr : seqOf r = g.nextSeq) (h : g.numbered seqOf) :
    (g.push base span r).numbered seqOf := by
  obtain ⟨hnext, hheld⟩ := h
  refine ⟨Nat.mod_lt _ (by decide), fun k x hx => ?_⟩
  show seqOf x < _ ∧ (seqOf x + ((g.records ++ [r]).length - k)) % 4294967296 = (g.nextSeq + 1) % 4294967296
  rw [List.length_append, List.length_singleton]
  by_cases hk : k < g.records.length
  · obtain ⟨hlt, hseq⟩ := hheld k x (by simpa [Machine.Ring.push, List.getElem?_append_left hk] using hx)
    refine ⟨hlt, ?_⟩
    rw [← hseq, Nat.mod_add_mod]
    congr 1
    omega
  · have hx : [r][k - g.records.length]? = some x := by
      rwa [← List.getElem?_append_right (by omega)]
    obtain ⟨hlast, hx⟩ := List.getElem?_eq_some_iff.1 hx
    rw [List.length_singleton, Nat.lt_one_iff] at hlast
    obtain rfl : r = x := by simpa [hlast] using hx
    rw [hr, show g.records.length + 1 - k = 1 by omega]
    exact ⟨hnext, rfl⟩

/-- R151: the records left when the oldest leaves carry consecutive numbers still. -/
theorem dropOldest_numbered {seqOf : α → Nat} (h : g.numbered seqOf) : (g.dropOldest base span).numbered seqOf := by
  obtain ⟨hnext, hheld⟩ := h
  refine ⟨(dropOldest_nextSeq base span g).symm ▸ hnext, fun k x hx => ?_⟩
  rw [dropOldest_records, List.getElem?_tail] at hx
  obtain ⟨hlt, hseq⟩ := hheld _ _ hx
  refine ⟨hlt, ?_⟩
  rw [dropOldest_records, dropOldest_nextSeq, List.length_tail, ← hseq]
  congr 2
  omega

/-- R151, R157: a release keeps the consecutive numbers. -/
theorem release_numbered {seqOf : α → Nat} (n : Nat) (h : g.numbered seqOf) :
    (Machine.Ring.release base span n g).numbered seqOf := by
  induction n generalizing g with
  | zero => exact h
  | succ n ih => exact ih (dropOldest_numbered h)

/-- R151: a ring without records is numbered by its next sequence alone. -/
theorem numbered_empty {seqOf : α → Nat} (empty : g.records = []) (next : g.nextSeq < 4294967296) : g.numbered seqOf :=
  ⟨next, fun k x hx => by simp [empty] at hx⟩

end

/-! ## What the laws read -/

/-- What the laws of R149, R151 and R152 read of a state: the journal, and which bays are active. -/
structure Ledger where
  journal : Journal
  active : BayId → Bool

/-- The ledger of a state. -/
def ledger (s : State) : Ledger := { journal := s.journal, active := fun b => (s.bay b).state.active }

/-- The number of active bays. -/
def activeBays (active : BayId → Bool) : Nat := (bayList.filter active).length

/-- R149, R152, on the ledger. -/
structure Ledger.lawful (l : Ledger) : Prop where
  low : 16 ≤ l.journal.issueSpan
  high : l.journal.issueSpan ≤ 1008
  issues : l.journal.issues.lawful 0 l.journal.issueSpan
  events : l.journal.events.lawful l.journal.issueSpan l.journal.eventSpan
  room : l.journal.issues.records.length + l.journal.reservations ≤ l.journal.issueSpan
  reserved : l.journal.reservations = activeBays l.active
  overwrites : l.journal.overwrites ≤ 65535

/-- R151, on the ledger. -/
structure Ledger.numbered (l : Ledger) : Prop where
  issues : l.journal.issues.numbered IssueRecord.seq
  events : l.journal.events.numbered EventRecord.seq

theorem journalLaw_iff (s : State) : JournalLaw s ↔ (ledger s).lawful :=
  ⟨fun ⟨low, high, issues, events, room, reserved, overwrites⟩ =>
      ⟨low, high, issues, events, room, reserved, overwrites⟩,
    fun ⟨low, high, issues, events, room, reserved, overwrites⟩ =>
      ⟨low, high, issues, events, room, reserved, overwrites⟩⟩

theorem sequenceLaw_iff (s : State) : SequenceLaw s ↔ (ledger s).numbered :=
  ⟨fun ⟨issues, events⟩ => ⟨issues, events⟩, fun ⟨issues, events⟩ => ⟨issues, events⟩⟩

theorem activeBays_eq (f : BayId → Bool) :
    activeBays f = (f .b1).toNat + (f .b2).toNat + (f .b3).toNat + (f .b4).toNat := by
  have hcons : ∀ (b : BayId) (l : List BayId), ((b :: l).filter f).length = (f b).toNat + (l.filter f).length := by
    intro b l
    cases hb : f b <;> simp [hb, Nat.add_comm]
  simp [activeBays, bayList, hcons, Nat.add_assoc]

/-- A bay's change of activity changes the number of active bays by as much. -/
theorem activeBays_update (f : BayId → Bool) (b : BayId) (x : Bool) :
    activeBays (Function.update f b x) + (f b).toNat = activeBays f + x.toNat := by
  rw [activeBays_eq, activeBays_eq]
  cases b <;> simp [Function.update] <;> omega

/-! ## The entries a command makes -/

/-- One entry in the journal, with the change of the bays that goes with it. -/
inductive Entry : Ledger → Ledger → Prop
  /-- R154: an event is logged. -/
  | log (l : Ledger) (t : Stamp) (k : EventKind) : Entry l { l with journal := l.journal.logEvent t k }
  /-- R66: a bay is granted, where the issue ring has room. -/
  | reserve {l : Ledger} {b : BayId} (idle : l.active b = false)
      (room : l.journal.issues.records.length + l.journal.reservations < l.journal.issueSpan) :
      Entry l { journal := l.journal.reserve, active := Function.update l.active b true }
  /-- R85: the issue of an active bay is complete. -/
  | write {l : Ledger} {b : BayId} (active : l.active b = true) (r : IssueRecord) :
      Entry l { journal := l.journal.writeIssue r, active := Function.update l.active b false }
  /-- R157. -/
  | release (l : Ledger) (ring : RingId) (n : Nat) : Entry l { l with journal := l.journal.releaseFrom ring n }
  /-- R150. -/
  | layout {l : Ledger} (span : Nat) (low : 16 ≤ span) (high : span ≤ 1008) (idle : l.journal.idle = true) :
      Entry l { l with journal := l.journal.layout span }
  /-- R159: a cold start. -/
  | cold (l : Ledger) : Entry l { journal := Journal.cold, active := fun _ => false }

/-- R149, R154: an event keeps the ring's pointers, over the oldest record in a full ring. -/
theorem logEvent_events_lawful {j : Journal} (t : Stamp) (k : EventKind) (high : j.issueSpan ≤ 1008)
    (h : j.events.lawful j.issueSpan j.eventSpan) : (j.logEvent t k).events.lawful j.issueSpan j.eventSpan := by
  unfold Journal.logEvent
  dsimp only
  split
  · exact push_lawful _ ‹_› h
  · refine push_lawful _ ?_ (dropOldest_lawful h)
    obtain ⟨-, -, -, hheld⟩ := h
    have hspan : 16 ≤ j.eventSpan := by
      show 16 ≤ 1024 - j.issueSpan
      omega
    rw [dropOldest_records, List.length_tail]
    omega

theorem logEvent_overwrites_le {j : Journal} (t : Stamp) (k : EventKind) (h : j.overwrites ≤ 65535) :
    (j.logEvent t k).overwrites ≤ 65535 := by
  unfold Journal.logEvent
  dsimp only
  split
  · exact h
  · exact Nat.min_le_right ..

/-- R149, R152: every entry keeps the journal's room and one reservation for each active bay. -/
theorem Entry.keeps_lawful {l m : Ledger} (h : Entry l m) (hl : l.lawful) : m.lawful := by
  obtain ⟨low, high, issues, events, room, reserved, overwrites⟩ := hl
  cases h with
  | log t k =>
    obtain ⟨hissues, hspan, hreservations⟩ := Journal.logEvent_issues t k l.journal
    have hevents := logEvent_events_lawful t k high events
    have hoverwrites := logEvent_overwrites_le t k overwrites
    constructor <;> simp only [Journal.eventSpan, hissues, hspan, hreservations] <;> assumption
  | @reserve b idle hroom =>
    have hcount := activeBays_update l.active b true
    rw [idle, Bool.toNat_false, Bool.toNat_true, ← reserved] at hcount
    exact ⟨low, high, issues, events, hroom, hcount.symm, overwrites⟩
  | @write b active r =>
    have hcount := activeBays_update l.active b false
    rw [active, Bool.toNat_false, Bool.toNat_true, ← reserved] at hcount
    have hroom : l.journal.issues.records.length < l.journal.issueSpan := by omega
    refine ⟨low, high, push_lawful _ hroom issues, events, ?_, ?_, overwrites⟩
    · show (l.journal.issues.records ++ [_]).length + (l.journal.reservations - 1) ≤ l.journal.issueSpan
      rw [List.length_append, List.length_singleton]
      omega
    · show l.journal.reservations - 1 = activeBays (Function.update l.active b false)
      omega
  | release ring n =>
    cases ring with
    | issue =>
      refine ⟨low, high, release_lawful n issues, events, ?_, reserved, overwrites⟩
      show (Machine.Ring.release 0 l.journal.issueSpan n l.journal.issues).records.length + l.journal.reservations ≤
        l.journal.issueSpan
      rw [release_shape, List.length_drop]
      omega
    | event => exact ⟨low, high, issues, release_lawful n events, room, reserved, overwrites⟩
  | layout span hlow hhigh idle =>
    simp only [Journal.idle, Bool.and_eq_true, List.isEmpty_iff, beq_iff_eq] at idle
    obtain ⟨⟨hissues, hevents⟩, hreservations⟩ := idle
    have hevent : 0 < 1024 - span := by omega
    refine ⟨hlow, hhigh, empty_lawful hissues rfl rfl (Nat.lt_of_lt_of_le (by decide) hlow),
      empty_lawful (g := { l.journal.events with readPtr := span, writePtr := span }) hevents rfl rfl hevent, ?_,
      reserved, overwrites⟩
    simp [Journal.layout, hissues, hreservations]
  | cold =>
    exact ⟨by decide, by decide, empty_lawful rfl rfl rfl (by decide), empty_lawful rfl rfl rfl (by decide), by decide,
      rfl, by decide⟩

/-- R151: every entry keeps the numbers of both rings. -/
theorem Entry.keeps_numbered {l m : Ledger} (h : Entry l m) (hl : l.numbered) : m.numbered := by
  obtain ⟨issues, events⟩ := hl
  cases h with
  | log t k =>
    obtain ⟨hissues, -⟩ := Journal.logEvent_issues t k l.journal
    refine ⟨hissues.symm ▸ issues, ?_⟩
    show (l.journal.logEvent t k).events.numbered EventRecord.seq
    unfold Journal.logEvent
    dsimp only
    split
    · exact push_numbered rfl events
    · exact push_numbered (dropOldest_nextSeq ..).symm (dropOldest_numbered events)
  | reserve => exact ⟨issues, events⟩
  | write active r => exact ⟨push_numbered rfl issues, events⟩
  | release ring n =>
    cases ring with
    | issue => exact ⟨release_numbered n issues, events⟩
    | event => exact ⟨issues, release_numbered n events⟩
  | layout span low high idle =>
    simp only [Journal.idle, Bool.and_eq_true, List.isEmpty_iff] at idle
    obtain ⟨⟨hissues, hevents⟩, -⟩ := idle
    obtain ⟨hissueNext, -⟩ := issues
    obtain ⟨heventNext, -⟩ := events
    exact ⟨numbered_empty hissues hissueNext, numbered_empty hevents heventNext⟩
  | cold => exact ⟨numbered_empty rfl (by decide), numbered_empty rfl (by decide)⟩

/-- What a command does to the ledger: entries one after another, or none. -/
def Books (s t : State) : Prop := Relation.ReflTransGen Entry (ledger s) (ledger t)

theorem Books.keeps_journalLaw {s t : State} (h : Books s t) (hs : JournalLaw s) : JournalLaw t := by
  rw [journalLaw_iff] at hs ⊢
  exact h.head_induction_on (motive := fun l _ => l.lawful → (ledger t).lawful) id
    (fun first _ ih hl => ih (first.keeps_lawful hl)) hs

theorem Books.keeps_sequenceLaw {s t : State} (h : Books s t) (hs : SequenceLaw s) : SequenceLaw t := by
  rw [sequenceLaw_iff] at hs ⊢
  exact h.head_induction_on (motive := fun l _ => l.numbered → (ledger t).numbered) id
    (fun first _ ih hl => ih (first.keeps_numbered hl)) hs

/-- One entry, which leaves the ledger so. -/
theorem Books.entry {s t : State} {m : Ledger} (h : Entry (ledger s) m) (ht : ledger t = m) : Books s t :=
  .single (ht ▸ h)

theorem Books.refl (s : State) : Books s s := Relation.ReflTransGen.refl

theorem Books.trans {s u t : State} (h1 : Books s u) (h2 : Books u t) : Books s t := Relation.ReflTransGen.trans h1 h2

theorem Books.of_ledger {s t : State} (h : ledger t = ledger s) : Books s t := by
  unfold Books
  rw [h]

/-- Operations made one after another. -/
theorem Books.foldl {α : Type} {f : State → α → State} (hf : ∀ s a, Books s (f s a)) (l : List α) (s : State) :
    Books s (l.foldl f s) := by
  induction l generalizing s with
  | nil => exact .refl s
  | cons a l ih => exact (hf s a).trans (ih _)

/-! ## The shared operations -/

/-- An operation that leaves the journal and the bays. -/
theorem Books.of_frame {s t : State} (h : t.journal = s.journal ∧ t.bays = s.bays) : Books s t := by
  obtain ⟨hjournal, hbays⟩ := h
  exact .of_ledger (by simp only [ledger, hjournal, State.bay, hbays])

/-- An operation that leaves the bays and logs events. -/
theorem Books.of_events {s t : State} (ks : List EventKind) (journal : t.journal = s.journalAfter ks)
    (bays : t.bays = s.bays) : Books s t := by
  induction ks using List.reverseRecOn generalizing t with
  | nil => exact .of_frame ⟨journal, bays⟩
  | append_singleton ks k ih =>
    rw [State.journalAfter_append] at journal
    refine .trans (ih (t := { s with journal := s.journalAfter ks }) rfl rfl) (.entry (.log _ s.stamp k) ?_)
    simp only [ledger, journal, State.bay, bays]
    rfl

theorem books_log (s : State) (k : EventKind) : Books s (s.log k) := .of_events [k] rfl (by simp)

theorem books_logAll (s : State) (ks : List EventKind) : Books s (s.logAll ks) :=
  .of_events ks (by rw [State.logAll_eq]) (by simp)

theorem books_changePod (s : State) (p : PodState) : Books s (s.changePod p) :=
  .trans (.of_frame ⟨rfl, rfl⟩ : Books s { s with pod := p }) (books_log ..)

theorem books_setTank (s : State) (t : TankId) (k : Tank) : Books s (s.setTank t k) := .of_frame ⟨rfl, rfl⟩

/-- R134: a standing that changes is logged. -/
theorem books_reformStanding (s : State) (t : TankId) : Books s (s.reformStanding t) := by
  unfold State.reformStanding
  dsimp only
  split
  · exact .refl s
  · exact (books_setTank ..).trans (books_log ..)

theorem books_debit (s : State) (t : TankId) (n : Nat) : Books s (s.debit t n) := by
  unfold State.debit
  split
  · exact .refl s
  · exact .trans (books_setTank .. : Books s (s.addToBook t _)) (books_reformStanding ..)

/-- What one bay's change makes of the active bays. -/
theorem active_set (s : State) (b : BayId) (y : Bay) :
    (fun k => ((s.bays.set b y).get k).state.active) = Function.update (ledger s).active b y.state.active := by
  funext k
  by_cases hk : k = b
  · subst hk
    simp
  · simp [hk, ledger, State.bay]

/-- A change of a bay that leaves it active, or inactive. -/
theorem books_setBay {s : State} {b : BayId} {y : Bay} (h : y.state.active = (s.bay b).state.active) :
    Books s (s.setBay b y) := by
  refine .of_ledger ?_
  have hactive := active_set s b y
  rw [h, show (s.bay b).state.active = (ledger s).active b from rfl, Function.update_eq_self] at hactive
  exact congrArg (Ledger.mk s.journal) hactive

/-- A change of a bay that ends in no issue where there was none. -/
theorem books_setBay_inactive {s : State} {b : BayId} {y : Bay} (before : (s.bay b).state.active = false)
    (after : y.state.active = false) : Books s (s.setBay b y) :=
  books_setBay (after.trans before.symm)

/-- R49: a charge logs SERVICE events. -/
theorem chargeVehicle_journal (s : State) (tag : Nat) (limp : Bool) (cl : Nat) :
    ∃ ks, (s.chargeVehicle tag limp cl).journal = s.journalAfter ks := by
  unfold State.chargeVehicle
  split
  · exact ⟨[], rfl⟩
  · exact ⟨_, by rw [State.logAll_eq]; rfl⟩

/-- The events of a completion follow its record (R85 to R87). -/
theorem complete_journal (s : State) (b : BayId) (c : CloseCause) : ∃ ks : List EventKind, (s.complete b c).journal =
    ks.foldl (fun j k => j.logEvent s.stamp k) (s.journal.writeIssue (issueRecord b c ((s.bay b).finish c) s.stamp)) := by
  unfold State.complete
  dsimp only
  generalize hu : (s.setBay b ((s.bay b).finish c).totalize).setJournal _ = u
  generalize hv : State.startSettle _ _ = v
  obtain ⟨ks, hcharged⟩ := chargeVehicle_journal u ((s.bay b).finish c).serving.tag ((s.bay b).finish c).serving.limp
    (clOf ((s.bay b).finish c).net)
  have hjournal : v.journal = u.journalAfter ks := by
    rw [← hv, ← hcharged]
    simp
  have hstamp : v.stamp = s.stamp := by
    rw [← hv, ← hu]
    simp [State.stamp]
  refine ⟨ks ++ (v.bay b).faultEvents b c, ?_⟩
  rw [State.moveOn_journal, List.foldl_append, State.journalAfter, hjournal, hstamp, ← hu]
  rfl

/-- R85, R152: a completion writes an active bay's record into its reservation. -/
theorem books_complete {s : State} {b : BayId} (c : CloseCause) (active : (s.bay b).state.active = true) :
    Books s (s.complete b c) := by
  obtain ⟨ks, hjournal⟩ := complete_journal s b c
  let r := issueRecord b c ((s.bay b).finish c) s.stamp
  let written : State := { s with bays := (s.complete b c).bays, journal := s.journal.writeIssue r }
  have hwritten : Books s written := by
    refine .entry (.write (b := b) active r) ?_
    have hactive := active_set s b (((s.bay b).ended c).movedOn c)
    obtain ⟨hended, -⟩ := movedOn_frame c (s.bay b)
    rw [hended, ← State.complete_bays] at hactive
    exact congrArg (Ledger.mk _) hactive
  exact hwritten.trans (.of_events ks hjournal rfl)

/-- R80, R82, R90: an issue ended from outside the bay. -/
theorem books_endIssue (s : State) (c : CloseCause) (b : BayId) : Books s (s.endIssue c b) := by
  unfold State.endIssue
  split
  · exact books_complete c (by simp [*, BayState.active])
  · exact books_setBay (by simp [*, BayState.active, Bay.toClosing, Bay.enter, Bay.order])
  · exact books_setBay (by simp [*, BayState.active, Bay.toClosing, Bay.enter, Bay.order])
  · exact .refl s

/-- A bay changed within its issue, and then its issue completed. -/
theorem books_setBay_complete {s : State} {b : BayId} {y : Bay} (c : CloseCause) (state : y.state = (s.bay b).state)
    (active : (s.bay b).state.active = true) : Books s ((s.setBay b y).complete b c) :=
  .trans (books_setBay (by rw [state])) (books_complete c (by simpa [state] using active))

/-! ## Tags -/

/-- R66: a grant at an inactive bay takes a reservation, for which the issue ring has room. -/
theorem books_grantAt {s : State} {b : BayId} {v w : Vehicle} (hours : Option Nat) (wake : Bool)
    (idle : (s.bay b).state.active = false) (passes : lateChecks b v s = none) : Books s (s.grantAt b w hours wake) := by
  obtain ⟨-, -, room, -⟩ := lateChecks_none passes
  obtain ⟨hjournal, -⟩ := grantAt_reserves_arms s b w hours wake
  refine .entry (.reserve (b := b) idle room) ?_
  have hactive := active_set s b ((s.bay b).takeGrant (grantCopy b w hours s))
  obtain ⟨rate, hgrant⟩ := grantAt_eq s b w hours wake
  rw [hgrant]
  exact congrArg (Ledger.mk _) hactive

theorem books_refuseTag (s : State) (b : BayId) (tag : Nat) (c : RefusalCode) (wake : Bool) :
    Books s (s.refuseTag b tag c wake) := by
  have hbays := refuseTag_bays s b tag c wake
  obtain ⟨-, h | h⟩ := refuseTag_events s b tag c wake
  · exact .of_frame ⟨h, hbays⟩
  · exact .of_events _ h hbays

/-- R47: the events of the hours. -/
theorem books_hoursStep (s : State) (v : Vehicle) (hours : Option Nat) : Books s (s.hoursStep v hours).1 :=
  .trans (u := s.setFleet (setVehicle (v.applyHours (s.classOf v).hourCeiling hours).1 s.fleet)) (.of_frame ⟨rfl, rfl⟩)
    (books_logAll ..)

/-- R59: the decision. -/
theorem books_decideTag (s : State) (b : BayId) (r : TagRead) (wake : Bool) : Books s (s.decideTag b r wake) := by
  unfold State.decideTag
  split
  · exact books_refuseTag ..
  · exact .of_frame (by simp [State.repeatGrant])
  · rename_i v hallow
    obtain ⟨-, -, hidle⟩ := earlyChecks_allow hallow
    have hhours := books_hoursStep s v r.hours
    dsimp only
    split
    · exact hhours.trans (books_refuseTag ..)
    · refine hhours.trans (books_grantAt _ _ ?_ ‹_›)
      have hbay : ((s.hoursStep v r.hours).1.bay b) = s.bay b := State.bay_congr (by simp [State.hoursStep]) b
      rw [hbay, hidle]
      rfl

/-- R163, R178: a TAG frame taken. -/
theorem books_takeTag (s : State) (b : BayId) (payload : List Byte) : Books s (s.takeTag b payload) := by
  have hwake : Books s (if (s.pod == .watch) = true then s.changePod .inService else s) := by
    split
    · exact books_changePod ..
    · exact .refl s
  unfold State.takeTag
  dsimp only
  split
  · exact hwake.trans (books_decideTag ..)
  · split
    · exact (books_changePod s .inService).trans (.of_frame (by simp))
    · exact .refl s

/-! ## Tallies and valve reports -/

/-- R92: unassigned flow is logged, and leaves a bay active that was. -/
theorem books_unaccounted (s : State) (b : BayId) :
    Books s (s.unaccounted b) ∧ ((s.unaccounted b).bay b).state.active = (s.bay b).state.active := by
  unfold State.unaccounted
  dsimp only
  split
  · have hkept : (if (s.bay b).state = .idle ∨ (s.bay b).state = .draining then
        ({ s.bay b with unassigned := 0 } : Bay).toFaulted else { s.bay b with unassigned := 0 }).state.active =
        (s.bay b).state.active := by
      split
      · rename_i h
        rcases h with h | h <;> rw [h] <;> rfl
      · rfl
    refine ⟨(books_log s _).trans (books_setBay ?_), by simpa using hkept⟩
    exact hkept
  · exact ⟨.refl s, rfl⟩

/-- R93: a fault at an inactive bay. -/
theorem books_faultIdle {s : State} {b : BayId} (cause : BayFaultCause) (h : (s.bay b).state.active = false) :
    Books s (s.faultIdle b cause) :=
  (books_setBay_inactive h rfl).trans (books_log ..)

theorem books_tallyInactive (s : State) (b : BayId) (t : Tally) : Books s (s.tallyInactive b t (s.bay b).state) := by
  obtain ⟨hbooks, hactive⟩ := books_unaccounted s b
  unfold State.tallyInactive
  dsimp only
  split
  · rename_i h
    obtain ⟨-, hstate⟩ := h
    refine hbooks.trans (books_faultIdle _ (hactive.trans ?_))
    rcases hstate with h | h <;> rw [h] <;> rfl
  · exact hbooks

theorem books_tallyGranted {s : State} {b : BayId} (t : Tally) (h : (s.bay b).state = .granted) :
    Books s (s.tallyGranted b t) := by
  unfold State.tallyGranted
  split
  · exact books_setBay_complete _ rfl (by rw [h]; rfl)
  · split
    · exact books_setBay (by rw [h]; rfl)
    · exact .refl s

theorem books_tallyClosing {s : State} {b : BayId} (t : Tally) (sample : Option Nat) (h : (s.bay b).state = .closing) :
    Books s (s.tallyClosing b t sample) := by
  obtain ⟨-, -, hstate⟩ := closingTally_frame t sample (s.bay b)
  unfold State.tallyClosing
  dsimp only
  split
  · exact books_setBay_complete _ hstate (by rw [h]; rfl)
  · exact books_setBay (by rw [hstate])

/-- R108: a tally handed over to a bay in the state it was taken in. -/
theorem books_handTally (s : State) (b : BayId) (t : Tally) (sample : Option Nat) :
    Books s (s.handTally b t sample (s.bay b).state) := by
  have hopen : (s.bay b).state.active = true → Books s (s.setBay b (tallyFlowing t sample (s.bay b))) := fun h => by
    obtain ⟨-, -, hactive⟩ := tallyFlowing_frame t sample h
    exact books_setBay (hactive.trans h.symm)
  unfold State.handTally
  split
  · exact books_tallyGranted t ‹_›
  · exact hopen (by simp [*, BayState.active])
  · exact hopen (by simp [*, BayState.active])
  · exact books_tallyClosing t sample ‹_›
  · exact books_tallyInactive ..

/-- R101: the work done for one tally. -/
theorem books_takeTally (s : State) (b : BayId) (t : Tally) : Books s (s.takeTally b t) := by
  unfold State.takeTally
  dsimp only
  generalize meter (s.bay b) (s.tank (s.bay b).settings.tank) t = m
  obtain ⟨-, -, state⟩ := addTally_frame m t.pulses (s.bay b)
  let u := (s.setBay b ((s.bay b).addTally m t.pulses)).debit (s.bay b).settings.tank m.net
  have hmetered : Books s u := (books_setBay (by rw [state])).trans (books_debit ..)
  have hstate : (u.bay b).state = (s.bay b).state := by simpa [u, State.bay] using state
  have hhanded := books_handTally u b t m.sample
  rw [hstate] at hhanded
  exact hmetered.trans hhanded

/-- R110: a valve report taken. -/
theorem books_takeValve (s : State) (b : BayId) (r : ReportedValve) : Books s (s.takeValve b r) := by
  unfold State.takeValve
  refine .trans (books_setBay (y := { s.bay b with reported := some r }) rfl) ?_
  generalize s.setBay b { s.bay b with reported := some r } = u
  have hfaulty : ∀ x : State, Books u x → Books u (if r.health = .faulty then x else u) := by
    intro x hx
    split
    · exact hx
    · exact .refl u
  have hclosing : (u.bay b).state.active = true → Books u (u.setBay b ((u.bay b).setValve.toClosing .valve)) :=
    fun h => books_setBay (by rw [h]; rfl)
  unfold State.handValve
  split
  · exact hfaulty _ (books_setBay_complete _ rfl (by simp [*, BayState.active]))
  · exact hfaulty _ (hclosing (by simp [*, BayState.active]))
  · exact hfaulty _ (hclosing (by simp [*, BayState.active]))
  · exact books_setBay (congrArg (fun x : Stance => x.state.active) (closingReport_stance r (u.bay b)))
  · exact hfaulty _ (books_faultIdle _ (by simp [*, BayState.active]))
  · exact hfaulty _ (books_faultIdle _ (by simp [*, BayState.active]))
  · exact .refl u
  · exact .refl u

/-! ## Censuses and deliveries -/

/-- R137: the water test logs its event and ends issues. -/
theorem books_waterTest (s : State) (t : TankId) (level : Nat) : Books s (s.waterTest t level) := by
  unfold State.waterTest
  split
  · refine .trans ((books_setTank ..).trans (books_log ..)) (.foldl (fun u b => ?_) _ _)
    split
    · exact books_endIssue ..
    · exact .refl u
  · exact .refl s

theorem books_varianceTest (s : State) (t : TankId) (net : Int) : Books s (s.varianceTest t net) := by
  unfold State.varianceTest
  dsimp only
  split
  · split
    · split
      · exact ((books_setTank ..).trans (books_log ..)).trans (books_setTank ..)
      · exact (books_setTank ..).trans (books_log ..)
    · exact books_setTank ..
  · exact books_setTank ..

theorem books_censusTests (s : State) (r : CensusResult) : Books s (s.censusTests r) := by
  unfold State.censusTests
  split
  · dsimp only
    split
    · exact (books_waterTest ..).trans (books_varianceTest ..)
    · exact books_waterTest ..
  · exact .refl s

/-- R143: a delivery's completion is logged. -/
theorem books_completeDelivery (s : State) (t : TankId) (d : Delivery) (net : Option Int) :
    Books s (s.completeDelivery t d net) := by
  unfold State.completeDelivery
  dsimp only
  have hbook : Books s (s.addToBook t (d.docket * 1000000)) := books_setTank ..
  exact ((hbook.trans (books_setTank ..)).trans (books_log ..)).trans (books_reformStanding ..)

/-- R141, R143: a delivery's own result. -/
theorem books_applyOwn (s : State) (t : TankId) (own : Bool) (net : Option Int) : Books s (s.applyOwn t own net) := by
  unfold State.applyOwn
  split
  · split
    · exact books_setTank ..
    · exact books_completeDelivery ..
    · exact .refl s
  · exact .refl s

/-- R122: the hand-off of a census result. -/
theorem books_handOff (s : State) (c : CensusInFlight) (outcome : CensusOutcome) (reading : Option Reading) :
    Books s (s.handOff c outcome reading) := by
  have hgauge : ∀ t failed, Books s (s.gaugeStep t failed) := fun t failed =>
    .trans (.of_frame ⟨rfl, rfl⟩ : Books s (s.setProbeTank t _)) (books_logAll ..)
  have htaken : ∀ (u : State) r own, Books u (u.takeResult r own) := fun u r own =>
    ((books_setTank ..).trans (books_applyOwn ..)).trans (books_censusTests ..)
  exact ((hgauge ..).trans (htaken ..)).trans (.of_frame ⟨rfl, rfl⟩)

theorem books_ackFails (s : State) (c : CensusInFlight) (phase : AckPhase) : Books s (s.ackFails c phase) := by
  have hdrive : Books s (s.drive (ackErrorActs c.address phase)) := .of_frame ⟨rfl, rfl⟩
  unfold State.ackFails
  dsimp only
  split
  · exact hdrive.trans (.of_frame ⟨rfl, rfl⟩)
  · exact hdrive.trans (books_handOff ..)

/-- R145: an abort is logged. -/
theorem books_deliveryAbort (n : Nat) (s : State) : Books s (deliveryAbort n s).1 := by
  have habort : ∀ t, Books s (((s.setTank t { s.tank t with delivery := none }).disown t).log (.deliveryAborted t)) :=
    fun t => .trans (.of_frame ⟨rfl, rfl⟩) (books_log ..)
  unfold deliveryAbort
  split
  · exact .refl s
  split
  · exact .refl s
  split
  · exact .refl s
  · exact habort _

theorem books_stockSet (r : Nat × Nat) (s : State) : Books s (stockSet r s).1 := by
  unfold stockSet
  split
  · exact .refl s
  · split
    · exact .refl s
    · exact ((books_setTank ..).trans (books_log ..)).trans (books_reformStanding ..)

theorem books_tankSet (r : TankSetReq) (s : State) : Books s (tankSet r s).1 := by
  unfold tankSet
  split
  · split
    · exact .refl s
    · exact (books_setTank ..).trans (books_reformStanding ..)
  · exact .refl s

/-! ## The other requests -/

/-- R76: BAY SET finds the bay inactive and leaves it so. -/
theorem books_baySet (r : BaySetReq) (s : State) : Books s (baySet r s).1 := by
  unfold baySet
  split
  · split
    · exact .refl s
    · rename_i hrefused
      simp only [BayState.refusesSet, Bool.or_eq_true, not_or, Bool.not_eq_true] at hrefused
      obtain ⟨-, hinactive⟩ := configure_frame _ hrefused.1
      exact books_setBay_inactive hrefused.1 hinactive
  · exact .refl s

theorem books_bayStop (n : Nat) (s : State) : Books s (bayStop n s).1 := by
  unfold bayStop
  split
  · exact .refl s
  · exact books_endIssue ..

/-- R90: BAY RELEASE finds the bay FAULTED. -/
theorem books_bayRelease (n : Nat) (s : State) : Books s (bayRelease n s).1 := by
  unfold bayRelease
  split
  · exact .refl s
  · split
    · rename_i h
      exact books_setBay_inactive (by simp [h, BayState.active]) rfl
    · exact .refl s

/-- R176: a halt ends issues. -/
theorem books_podSuspend (n : Nat) (s : State) : Books s (podSuspend n s).1 := by
  unfold podSuspend
  split
  · exact .refl s
  · split
    · exact .refl s
    · have hpod : Books s (if s.pod = .suspended then s else s.changePod .suspended) := by
        split
        · exact .refl s
        · exact books_changePod ..
      dsimp only
      split
      · exact hpod.trans (.foldl (fun u b => books_endIssue u .site b) _ _)
      · exact hpod

theorem books_podStart (r : Unit) (s : State) : Books s (podStart r s).1 := by
  unfold podStart
  split
  · split
    · exact .refl s
    · exact books_changePod ..
  · exact .refl s

theorem books_podResume (r : Unit) (s : State) : Books s (podResume r s).1 := by
  unfold podResume
  split
  · exact books_changePod ..
  · exact .refl s

/-- R54: a service done is logged. -/
theorem books_serviceDone (r : Nat × Nat) (s : State) : Books s (serviceDone r s).1 := by
  unfold serviceDone
  split
  · exact .refl s
  rename_i v _
  split
  · exact .refl s
  · exact .trans (.of_frame ⟨rfl, rfl⟩ : Books s (s.setFleet (setVehicle (v.service r.2) s.fleet))) (books_log ..)

/-- R150: JOURNAL LAYOUT divides an idle store, within the bounds of the span. -/
theorem books_journalLayout (span : Nat) (s : State) : Books s (journalLayout span s).1 := by
  unfold journalLayout
  split
  · exact .entry (.layout _ (clampNat_ge (by decide) span) (clampNat_le (by decide) span) ‹_›) rfl
  · exact .refl s

/-- R157: JOURNAL RELEASE drops the oldest records of a ring. -/
theorem books_journalRelease (r : Nat × Nat) (s : State) : Books s (journalRelease r s).1 := by
  unfold journalRelease
  split
  · exact .refl s
  · exact .entry (.release _ _ _) rfl

/-! ## Ports and time -/

/-- R162: a transmitter that takes a frame leaves the bays' states. -/
theorem books_takeNext (s : State) (p : PortId) : Books s (s.takeNext p) := by
  unfold State.takeNext
  split
  · rename_i b _
    exact .trans (books_setBay (b := b) (y := { s.bay b with slot := { (s.bay b).slot with pending := false } }) rfl)
      (.of_frame ⟨rfl, rfl⟩)
  · split
    · exact .refl s
    · cases p <;> exact .of_frame ⟨rfl, rfl⟩

/-- A port is no part of the ledger. -/
theorem books_setPort (s : State) (p : PortId) (x : Port) : Books s (s.setPort p x) := by
  cases p <;> exact .of_frame ⟨rfl, rfl⟩

/-- R161: what a receiver does leaves the ledger. -/
theorem books_frameEnds (s : State) (p : PortId) (e : RxEnd) : Books s (s.frameEnds p e) := by
  unfold State.frameEnds State.placeFrame
  repeat' split
  · exact .refl s
  · exact books_setPort ..
  · exact .refl s
  · exact (books_setPort ..).trans (.of_frame ⟨rfl, rfl⟩)
  · exact .refl s
  · exact books_setPort ..

theorem books_receiveChar (p : PortId) (s : State) (c : RxChar) : Books s (State.receiveChar p s c) := by
  unfold State.receiveChar
  dsimp only
  split
  · exact books_setPort ..
  · exact (books_setPort ..).trans (books_frameEnds ..)

theorem books_setYardMode (s : State) (m : RateMode) : Books s (s.setYardMode m) := .of_frame (by simp)

/-- R162: so does the last character of a frame. -/
theorem books_lastCharacter (s : State) (p : PortId) : Books s (s.lastCharacter p) := by
  unfold State.lastCharacter
  split
  · exact .refl s
  · exact books_setPort ..
  · dsimp only
    split
    · split
      · exact (books_setPort ..).trans (books_setYardMode ..)
      · exact books_setPort ..
    · exact books_setPort ..

theorem passFromTrunk_journal (s : State) (f : Frame) : (s.passFromTrunk f).journal = s.journal := by
  unfold State.passFromTrunk
  repeat' split
  all_goals simp

/-- R77: time that passes leaves the journal and the bays' states. -/
theorem books_elapse (s : State) (ms : Nat) : Books s (s.elapse ms) := by
  refine .of_ledger ?_
  have hactive : ∀ b, ((s.elapse ms).bay b).state = (s.bay b).state := fun b => by
    simp [State.elapse, State.bay, Bay.elapse]
  simp only [ledger, hactive]
  rfl

theorem books_idleStep (s : State) : Books s s.idleStep := by
  unfold State.idleStep
  dsimp only
  split
  · split
    · exact (books_elapse s 1).trans (.of_frame ⟨rfl, rfl⟩)
    · exact (books_elapse s 1).trans (.of_frame ⟨rfl, rfl⟩)
  · exact .refl s

/-! ## Starts -/

/-- R99: a warm start treats a bay. -/
theorem books_restartBay (s : State) (b : BayId) : Books s (s.restartBay b) := by
  unfold State.restartBay
  dsimp only
  split
  · exact books_complete _ ‹_›
  · split
    · rename_i h
      refine books_setBay_inactive (by rw [h]; rfl) ?_
      rw [Bay.toDraining_state]
      split <;> rfl
    · exact .refl s

/-- R181: each part of a warm start. -/
theorem books_warmPart (straps : Byte) {p : State → State} (hp : p ∈ warmParts straps) (s : State) : Books s (p s) := by
  simp only [warmParts, bayList, List.map_cons, List.map_nil, List.cons_append, List.nil_append, List.mem_cons,
    List.not_mem_nil, or_false] at hp
  rcases hp with rfl | rfl | rfl | rfl | rfl | rfl | rfl | rfl
  · exact .of_frame ⟨rfl, rfl⟩
  · exact books_log ..
  · unfold State.leaveWatch
    split
    · exact books_changePod ..
    · exact .refl s
  · exact books_restartBay ..
  · exact books_restartBay ..
  · exact books_restartBay ..
  · exact books_restartBay ..
  · refine .of_ledger ?_
    have hactive : ∀ b, ((s.mapBays (Bay.order .shut)).bay b).state = (s.bay b).state := fun b => by
      simp [State.mapBays, State.bay, Bay.order]
    simp only [ledger, hactive]
    rfl

theorem books_makeParts {ps : List (State → State)} (h : ∀ p ∈ ps, ∀ s, Books s (p s)) (s : State) :
    Books s (s.makeParts ps) := by
  induction ps generalizing s with
  | nil => exact .refl s
  | cons p ps ih => exact (h p List.mem_cons_self s).trans (ih (fun q hq => h q (List.mem_cons_of_mem _ hq)) _)

theorem books_restartProbe (s : State) : Books s s.restartProbe := by
  refine .of_frame ⟨?_, restartProbe_bays s⟩
  rw [restartProbe_eq]

/-- R159: a cold start makes the journal new and leaves no bay active. -/
theorem books_coldStart (straps : Byte) (s : State) : Books s (State.coldStart straps s) := by
  have hinactive : ∀ b, ((State.coldStart straps s).bay b).state.active = false := fun b => by cases b <;> rfl
  exact .entry (.cold _) (by simp only [ledger, hinactive]; rfl)

/-! ## Every command -/

/-- An event, whatever its occasion. -/
theorem event_books {o : Bool} {e : State → State} {s t : State} (h : event o e s = .next t)
    (he : o = true → Books s (e s)) : Books s t := by
  rw [event_eq] at h
  cases h
  split
  · exact (he ‹_›).trans (.of_frame (by simp))
  · exact .refl s

/-- R178: a request taken wakes a pod in WATCH. -/
theorem books_taken (s : State) : Books s s.taken := by
  have hpop : Books s s.popTrunk := .of_frame ⟨rfl, rfl⟩
  by_cases h : s.pod = .watch
  · rw [State.taken_woken h]
    exact (hpop.trans (books_changePod _ .inService)).trans (.of_frame (by simp))
  · rwa [State.taken_awake h]

/-- A request, whatever its fields. -/
theorem request_books {α : Type} {kind : Byte} {parse : List Byte → Option α} {bad : State → ReplyFields}
    {serve : α → State → State × Reply} (hserve : ∀ a s, Books s (serve a s).1) {s t : State}
    (h : request kind parse bad serve s = .next t) : Books s t := by
  have hanswer : ∀ (f : Frame) (u : State) (r : Reply), Books s.taken u → answered f u r = .next t → Books s t := by
    intro f u r hu ha
    cases ha
    exact (books_taken s).trans (hu.trans (.of_frame (by split <;> simp)))
  rcases request_cases kind parse bad serve s with h' | ⟨f, -, ⟨a, -, h'⟩ | ⟨-, h'⟩⟩
  · rw [h'] at h
    cases h
    exact .refl s
  · rw [h'] at h
    exact hanswer f _ _ (hserve ..) h
  · rw [h'] at h
    exact hanswer f _ _ (.refl _) h

/-- A request whose owner leaves the journal and the bays. -/
theorem request_frame_books {α : Type} {kind : Byte} {parse : List Byte → Option α} {bad : State → ReplyFields}
    {serve : α → State → State × Reply}
    (hserve : ∀ a s, (serve a s).1.journal = s.journal ∧ (serve a s).1.bays = s.bays) {s t : State}
    (h : request kind parse bad serve s = .next t) : Books s t :=
  request_books (fun a s => .of_frame (hserve a s)) h

/-- R181: a warm start, whole or cut. -/
theorem warmStart_books {w : StartRun} {s t : State} (h : execWarmStart w s = .next t) : Books s t := by
  unfold execWarmStart at h
  split at h
  · exact event_books h fun _ => (books_makeParts (fun _ hp => books_warmPart _ hp) s).trans (books_restartProbe _)
  · cases h
    split
    · exact (books_makeParts (fun _ hp => books_warmPart _ (List.mem_of_mem_take hp)) s).trans
        (.of_frame ⟨rfl, rfl⟩)
    · exact .refl s

theorem powerLoss_books {s t : State} (h : execMainPowerLoss s = .next t ∨ execBackupSupplyLoss s = .next t) :
    Books s t := by
  unfold execMainPowerLoss execBackupSupplyLoss at h
  rcases h with h | h <;> split at h <;> cases h <;> exact .of_frame ⟨rfl, rfl⟩

/-- R59: a TAG frame taken. -/
theorem tag_books {s t : State} (h : execTag s = .next t) : Books s t := by
  unfold execTag at h
  split at h
  · split at h
    · exact event_books h fun _ => .trans (.of_frame ⟨rfl, rfl⟩ : Books s s.popYard) (books_takeTag ..)
    · cases h; exact .refl s
  · cases h; exact .refl s

/-- R101: a TALLY frame taken. -/
theorem tally_books {s t : State} (h : execTally s = .next t) : Books s t := by
  unfold execTally at h
  split at h
  · split at h
    · refine event_books h fun _ => .trans (.of_frame ⟨rfl, rfl⟩ : Books s s.popYard) ?_
      split
      · exact books_takeTally ..
      · exact .refl _
    · cases h; exact .refl s
  · cases h; exact .refl s

/-- R110: a VALVE STATUS frame taken. -/
theorem valveStatus_books {s t : State} (h : execValveStatus s = .next t) : Books s t := by
  unfold execValveStatus at h
  split at h
  · split at h
    · refine event_books h fun _ => .trans (.of_frame ⟨rfl, rfl⟩ : Books s s.popYard) ?_
      split
      · exact books_takeValve ..
      · exact .refl _
    · cases h; exact .refl s
  · cases h; exact .refl s

/-- R165, R166: frames passed on or dropped. -/
theorem stationData_books {s t : State} (h : execStationData s = .next t) : Books s t := by
  unfold execStationData at h
  split at h
  · exact event_books h fun _ => .of_frame (by split <;> simp)
  · cases h; exact .refl s

theorem passThrough_books {p : PortId} {s t : State} (h : execPassThrough p s = .next t) : Books s t := by
  unfold execPassThrough at h
  repeat' split at h
  · exact event_books h fun _ => .of_frame (by simp)
  · cases h; exact .refl s
  · exact event_books h fun _ => .of_frame ⟨passFromTrunk_journal .., (forward_bays s _).2⟩
  · cases h; exact .refl s

theorem frameDrop_books {p : PortId} {s t : State} (h : execFrameDrop p s = .next t) : Books s t := by
  unfold execFrameDrop at h
  repeat' split at h
  · exact event_books h fun _ => .of_frame (by simp)
  · cases h; exact .refl s
  · exact event_books h fun _ => .of_frame (by simp)
  · cases h; exact .refl s

theorem transmitFrame_books {p : PortId} {part : SendPart} {s t : State} (h : execTransmitFrame p part s = .next t) :
    Books s t := by
  unfold execTransmitFrame at h
  cases part with
  | take => exact event_books h fun _ => books_takeNext ..
  | last => exact event_books h fun _ => books_lastCharacter ..

/-- R80, R82, R84, R88: the expiries of the bay timers. -/
theorem openTimer_books {b : BayId} {s t : State}
    (h : execNoFlowTimerExpiry b s = .next t ∨ execGapTimerExpiry b s = .next t) : Books s t := by
  have hactive : ∀ st : BayState, st.valveOpen = true → st.active = true := fun st => by
    cases st <;> simp [BayState.valveOpen, BayState.active]
  have hclosing : ∀ c, (s.bay b).state.valveOpen = true → Books s (s.setBay b ((s.bay b).toClosing c)) := fun c ho =>
    books_setBay (hactive _ ho).symm
  rcases h with h | h <;> refine event_books h fun ho => hclosing _ ?_ <;>
    · simp only [Bool.and_eq_true] at ho
      obtain ⟨⟨-, hopen⟩, -⟩ := ho
      exact hopen

theorem armTimer_books {b : BayId} {s t : State} (h : execArmTimerExpiry b s = .next t) : Books s t := by
  refine event_books h fun ho => books_complete _ ?_
  simp only [Bool.and_eq_true, beq_iff_eq] at ho
  obtain ⟨⟨-, hstate⟩, -⟩ := ho
  rw [hstate]
  rfl

theorem drainTimer_books {b : BayId} {s t : State} (h : execDrainTimerExpiry b s = .next t) : Books s t := by
  refine event_books h fun ho => books_setBay_inactive ?_ rfl
  simp only [Bool.and_eq_true, beq_iff_eq] at ho
  obtain ⟨⟨-, hstate⟩, -⟩ := ho
  rw [hstate]
  rfl

theorem closeTimer_books {b : BayId} {s t : State} (h : execCloseTimerExpiry b s = .next t) : Books s t := by
  refine event_books h fun ho => ?_
  simp only [Bool.and_eq_true, beq_iff_eq] at ho
  obtain ⟨⟨-, hclosing⟩, -⟩ := ho
  refine books_setBay_complete _ ?_ (by rw [hclosing]; rfl)
  split <;> rfl

/-- R117, R122: the events of the probe bus. -/
theorem ackError_books {phase : AckPhase} {s t : State} (h : execAckError phase s = .next t) : Books s t := by
  unfold execAckError at h
  split at h
  · exact event_books h fun _ => books_ackFails ..
  · cases h; exact .refl s

theorem retryWait_books {s t : State} (h : execRetryWaitExpiry s = .next t) : Books s t := by
  unfold execRetryWaitExpiry at h
  split at h
  · exact event_books h fun _ => .of_frame ⟨rfl, rfl⟩
  · cases h; exact .refl s

theorem censusTransaction_books {d : ReadingBlock} {s t : State} (h : execCensusTransaction d s = .next t) : Books s t := by
  unfold execCensusTransaction at h
  split at h
  · exact event_books h fun _ => .trans (.of_frame ⟨rfl, rfl⟩) (books_handOff (s.drive (completionActs _)) _ _ _)
  · cases h; exact .refl s

/-- R123, R144: the timers of a tank. -/
theorem windowExpires_journal (s : State) (t : TankId) : (s.windowExpires t).journal = s.journal := by
  unfold State.windowExpires State.closeDelivery
  split <;> simp

theorem tankTimer_books {k : TankId} {s t : State}
    (h : execSettleTimerExpiry k s = .next t ∨ execWindowTimerExpiry k s = .next t) : Books s t := by
  rcases h with h | h
  · exact event_books h fun _ => .of_frame ⟨rfl, rfl⟩
  · exact event_books h fun _ => .of_frame ⟨windowExpires_journal .., windowExpires_bays ..⟩

/-- R161: the events of a receiver. -/
theorem frameReceive_books {p : PortId} {cs : List RxChar} {s t : State} (h : execFrameReceive p cs s = .next t) :
    Books s t :=
  event_books h fun _ => .foldl (books_receiveChar p) cs s

theorem startCharacter_books {p : PortId} {e : Bool} {s t : State} (h : execStartCharacter p e s = .next t) : Books s t :=
  event_books h fun _ => books_receiveChar ..

theorem gapTimeout_books {p : PortId} {s t : State} (h : execCharacterGapTimeout p s = .next t) : Books s t :=
  event_books h fun _ => (books_setPort ..).trans (books_frameEnds ..)

theorem rateSettingApplied_books {p : PortId} {s t : State} (h : execRateSettingApplied p s = .next t) : Books s t :=
  event_books h fun _ => by cases p <;> exact .of_frame ⟨rfl, rfl⟩

/-- R125: a piece of a strapping table is the tank's. -/
theorem strapSet_journal (r : StrapSetReq) (s : State) : (strapSet r s).1.journal = s.journal := by
  unfold strapSet State.loadStrap
  split
  · dsimp only
    split
    · rfl
    split
    · rfl
    · split <;> rfl
  all_goals rfl

/-- R178: the watch delay timer's expiry. -/
theorem watchDelay_books {s t : State} (h : execWatchDelayTimerExpiry s = .next t) : Books s t :=
  event_books h fun _ => (books_changePod s .watch).trans (.of_frame (by simp [State.enterWatch]))

/-- Every command makes entries alone. -/
theorem exec_books (c : Instr) {s t : State} (h : exec c s = .next t) : Books s t := by
  cases c with
  | coldStart straps => exact event_books h fun _ => books_coldStart straps s
  | warmStart start => exact warmStart_books h
  | mainPowerLoss => exact powerLoss_books (.inl h)
  | podClockTick => exact event_books h fun _ => (books_elapse ..).trans (.of_frame ⟨rfl, rfl⟩)
  | frameReceive port chars => exact frameReceive_books h
  | characterGapTimeout port => exact gapTimeout_books h
  | rateSettingApplied port => exact rateSettingApplied_books h
  | transmitFrame port part => exact transmitFrame_books h
  | tag => exact tag_books h
  | tally => exact tally_books h
  | valveStatus => exact valveStatus_books h
  | stationData => exact stationData_books h
  | passThrough port => exact passThrough_books h
  | frameDrop port => exact frameDrop_books h
  | armTimerExpiry bay => exact armTimer_books h
  | noFlowTimerExpiry bay => exact openTimer_books (.inl h)
  | gapTimerExpiry bay => exact openTimer_books (.inr h)
  | closeTimerExpiry bay => exact closeTimer_books h
  | drainTimerExpiry bay => exact drainTimer_books h
  | censusTimerExpiry => exact event_books h fun _ => .of_frame (by simp [State.censusTimerExpires])
  | settleTimerExpiry tank => exact tankTimer_books (.inl h)
  | windowTimerExpiry tank => exact tankTimer_books (.inr h)
  | watchDelayTimerExpiry => exact watchDelay_books h
  | retryWaitExpiry => exact retryWait_books h
  | ackError phase => exact ackError_books h
  | censusTransaction data => exact censusTransaction_books h
  | fleetPut => exact request_frame_books (fun r u => by unfold fleetPut; (repeat' split) <;> simp) h
  | fleetDelete => exact request_frame_books (fun r u => by unfold fleetDelete; (repeat' split) <;> simp) h
  | classSet => exact request_frame_books (fun r u => by unfold classSet; split <;> exact ⟨rfl, rfl⟩) h
  | baySet => exact request_books books_baySet h
  | tankSet => exact request_books books_tankSet h
  | strapSet => exact request_frame_books (fun r u => ⟨strapSet_journal r u, strapSet_bays r u⟩) h
  | podSet => exact request_frame_books (fun r u => by simp [podSet, State.applyPodSettings]) h
  | podStart => exact request_books books_podStart h
  | podSuspend => exact request_books books_podSuspend h
  | podResume => exact request_books books_podResume h
  | podReset => exact request_frame_books (fun _ _ => ⟨rfl, rfl⟩) h
  | timeSet => exact request_frame_books (fun _ _ => ⟨rfl, rfl⟩) h
  | shiftRoll => exact request_frame_books (fun _ _ => ⟨rfl, rfl⟩) h
  | bayStop => exact request_books books_bayStop h
  | bayRelease => exact request_books books_bayRelease h
  | serviceDone => exact request_books books_serviceDone h
  | tankClear => exact request_frame_books (fun r u => by unfold tankClear; split <;> simp) h
  | stockSet => exact request_books books_stockSet h
  | deliveryOpen => exact request_frame_books (fun r u => by unfold deliveryOpen; (repeat' split) <;> simp) h
  | deliveryClose =>
    exact request_frame_books (fun r u => by unfold deliveryClose State.closeDelivery; (repeat' split) <;> simp) h
  | deliveryAbort => exact request_books books_deliveryAbort h
  | censusNow => exact request_frame_books (fun r u => by unfold censusNow; split <;> simp) h
  | journalLayout => exact request_books books_journalLayout h
  | journalRelease => exact request_books books_journalRelease h
  | linkClear => exact request_frame_books (fun _ _ => ⟨rfl, rfl⟩) h
  | podStatus => exact request_frame_books (fun _ _ => ⟨rfl, rfl⟩) h
  | bayStatus => exact request_frame_books (fun r u => by unfold bayStatus; split <;> exact ⟨rfl, rfl⟩) h
  | tankStatus => exact request_frame_books (fun r u => by unfold tankStatus; split <;> exact ⟨rfl, rfl⟩) h
  | fleetGet => exact request_frame_books (fun _ _ => ⟨rfl, rfl⟩) h
  | fleetNext => exact request_frame_books (fun _ _ => ⟨rfl, rfl⟩) h
  | journalRead => exact request_frame_books (fun r u => by unfold journalRead; split <;> exact ⟨rfl, rfl⟩) h
  | linkStatus => exact request_frame_books (fun _ _ => ⟨rfl, rfl⟩) h
  | backupSupplyLoss => exact powerLoss_books (.inr h)
  | startCharacter port parityError => exact startCharacter_books h

/-- Every step makes entries alone. -/
theorem step_books {s t : State} (h : step s = .next t) : Books s t := by
  unfold step at h
  split at h
  · rename_i c rest _
    exact .trans (.of_frame ⟨rfl, rfl⟩ : Books s { s with pending := rest }) (exec_books c h)
  · cases h
    exact books_idleStep s

/-- Settles O12: a step changes the journal and which bays are active by entries alone; each entry keeps the rings, the one
reservation for each active bay, and the consecutive numbers (R149, R151, R152). -/
theorem journalKeepsItsRoomAndItsNumbers : Obligations.JournalKeepsItsRoomAndItsNumbers :=
  ⟨fun _ _ hs h => (step_books h).keeps_journalLaw hs, fun _ _ hs h => (step_books h).keeps_sequenceLaw hs⟩

/-! ## Logging -/

/-- R151, R154: a record takes the next number, in a ring with room and in a full one. -/
theorem logEvent_nextSeq (t : Stamp) (k : EventKind) (j : Journal) :
    (j.logEvent t k).events.nextSeq = (j.events.nextSeq + 1) % 4294967296 := by
  unfold Journal.logEvent
  dsimp only
  split
  · rfl
  · show ((j.events.dropOldest _ _).nextSeq + 1) % 4294967296 = _
    rw [dropOldest_nextSeq]

/-- R151: the next sequence of a ring returns to 0 after its last value. -/
theorem nextSeq_wraps (n : Nat) :
    (n + 1) % 4294967296 = if n = 4294967295 then 0 else (n + 1) % 4294967296 := by
  split
  · rename_i h
    rw [h]
  · rfl

/-- Settles O57: the number and the place of a logged event, in a ring with room and in a full one (R149, R151, R154). -/
theorem eventRingOverwritesItsOldest : Obligations.EventRingOverwritesItsOldest := by
  intro t k j e u
  obtain ⟨hissues, hspan, hreservations⟩ := Journal.logEvent_issues t k j
  have hrecords := Journal.logEvent_events t k j
  refine ⟨hissues, hspan, hreservations, (logEvent_nextSeq t k j).trans (nextSeq_wraps _), ?_, fun room => ?_,
    fun r rest hr full => ?_⟩
  · show (j.logEvent t k).events.records.getLast? = some e
    rw [hrecords, List.getLast?_concat]
  · have hlogged : u = { j with events := j.events.push j.issueSpan j.eventSpan e } := if_pos room
    rw [hlogged]
    exact ⟨rfl, rfl, rfl⟩
  · have hfull : ¬j.events.records.length < j.eventSpan := Nat.not_lt.2 full
    refine ⟨?_, ?_⟩
    · show (j.logEvent t k).events.records = _
      rw [hrecords, if_neg hfull, hr]
      rfl
    · show (j.logEvent t k).overwrites = _
      rw [Journal.logEvent, if_neg hfull]
      rfl

/-! ## The rings as replies give them -/

/-- R156, R157: the held count, and the oldest sequence or the next one with the empty mark. -/
theorem ringSummary_reports {α : Type} (seqOf : α → Nat) (g : Machine.Ring α) (aux overwrites : Nat) :
    let r := ringSummary seqOf g aux overwrites
    r.held = g.records.length ∧ r.aux = aux ∧ r.overwrites = overwrites ∧
      (∀ x rest, g.records = x :: rest → r.oldest = seqOf x ∧ r.empty = false) ∧
      (g.records = [] → r.oldest = g.nextSeq ∧ r.empty = true) := by
  cases h : g.records <;> simp +contextual [ringSummary, h]

/-- R157: a ring after a release, and the summary of it. -/
theorem release_reports {α : Type} (seqOf : α → Nat) (base span n : Nat) (g : Machine.Ring α) (aux overwrites : Nat) :
    let u := Machine.Ring.release base span n g
    let r := ringSummary seqOf u aux overwrites
    u = { g with records := g.records.drop n, readPtr := u.readPtr } ∧
      (base ≤ g.readPtr → g.readPtr < base + span →
        u.readPtr = base + (g.readPtr - base + min n g.records.length) % span) ∧
      r.held = g.records.length - n ∧ r.aux = aux ∧ r.overwrites = overwrites ∧
      (∀ x rest, g.records.drop n = x :: rest → r.oldest = seqOf x ∧ r.empty = false) ∧
      (g.records.drop n = [] → r.oldest = g.nextSeq ∧ r.empty = true) := by
  intro u r
  have hshape : u = { g with records := g.records.drop n, readPtr := u.readPtr } := release_shape base span n g
  have hrecords : u.records = g.records.drop n := (congrArg Machine.Ring.records hshape :)
  have hnext : u.nextSeq = g.nextSeq := (congrArg Machine.Ring.nextSeq hshape :)
  obtain ⟨held, haux, hoverwrites, oldest, empty⟩ := ringSummary_reports seqOf u aux overwrites
  rw [hrecords] at held oldest empty
  rw [hnext] at empty
  exact ⟨hshape, fun low high => congrArg Machine.Ring.readPtr (Machine.Ring.release_eq base span n g low high),
    held.trans List.length_drop, haux, hoverwrites, oldest, empty⟩

/-- R156, R157: a ring code above 1 names no ring. -/
theorem ringOf_none {n : Nat} (h : 1 < n) : ringOf n = none := by
  unfold ringOf
  split
  · omega
  · omega
  · rfl

/-! ## The journal's requests -/

theorem parseOne_span (a b : Byte) : parseOne 2 [a, b] = some (beNat [a, b]) := by
  have : fieldsOf [2] [a, b] = some [beNat [a, b]] := rfl
  simp [parseOne, this]

theorem parseTwo_release (k a b : Byte) : parseTwo 1 2 [k, a, b] = some (k.toNat, beNat [a, b]) := by
  have : fieldsOf [1, 2] [k, a, b] = some [beNat [k], beNat [a, b]] := rfl
  simp [parseTwo, this, beNat_one]

theorem parseThree_read (k o1 o0 c : Byte) :
    parseThree 1 2 1 [k, o1, o0, c] = some (k.toNat, beNat [o1, o0], c.toNat) := by
  have : fieldsOf [1, 2, 1] [k, o1, o0, c] = some [beNat [k], beNat [o1, o0], beNat [c]] := rfl
  simp [parseThree, this, beNat_one]

/-- R150: JOURNAL LAYOUT. -/
theorem journalLayout_answers {s : State} {f : Frame} {ref a b : Byte} (hf : s.requestAt 0x36 = some f)
    (hp : f.payload = [ref, a, b]) : exec .journalLayout s =
      answered f (journalLayout (beNat [a, b]) s.taken).1 (journalLayout (beNat [a, b]) s.taken).2 :=
  request_served hf (by rw [hp]; exact parseOne_span ..)

/-- R157: JOURNAL RELEASE. -/
theorem journalRelease_answers {s : State} {f : Frame} {ref k a b : Byte} (hf : s.requestAt 0x37 = some f)
    (hp : f.payload = [ref, k, a, b]) : exec .journalRelease s =
      answered f (journalRelease (k.toNat, beNat [a, b]) s.taken).1 (journalRelease (k.toNat, beNat [a, b]) s.taken).2 :=
  request_served hf (by rw [hp]; exact parseTwo_release ..)

/-- R156: JOURNAL READ. -/
theorem journalRead_answers {s : State} {f : Frame} {ref k o1 o0 c : Byte} (hf : s.requestAt 0x3E = some f)
    (hp : f.payload = [ref, k, o1, o0, c]) : exec .journalRead s =
      answered f (journalRead (k.toNat, beNat [o1, o0], c.toNat) s.taken).1
        (journalRead (k.toNat, beNat [o1, o0], c.toNat) s.taken).2 :=
  request_served hf (by rw [hp]; exact parseThree_read ..)

/-- R150: a store is idle with both rings empty and nothing reserved. -/
theorem idle_iff (j : Journal) :
    j.idle = true ↔ j.issues.records = [] ∧ j.events.records = [] ∧ j.reservations = 0 := by
  simp [Journal.idle, and_assoc]

/-- R150: a store without reservations divided anew. -/
theorem layout_eq {span : Nat} {j : Journal} (h : j.reservations = 0) : j.layout span =
    { issueSpan := span, issues := { j.issues with readPtr := 0, writePtr := 0 }, reservations := 0
      events := { j.events with readPtr := span, writePtr := span }, overwrites := j.overwrites } := by
  simp only [Journal.layout, h]

/-- R157: a release lowers the held count of its ring by as many records as it drops. -/
theorem releaseFrom_held (ring : RingId) (n : Nat) (j : Journal) :
    (j.releaseFrom ring n).held ring = j.held ring - n := by
  cases ring with
  | issue =>
    show (Machine.Ring.release 0 j.issueSpan n j.issues).records.length = j.issues.records.length - n
    rw [release_shape, List.length_drop]
  | event =>
    show (Machine.Ring.release j.issueSpan j.eventSpan n j.events).records.length = j.events.records.length - n
    rw [release_shape, List.length_drop]

/-- R157, R171: a release of a ring; the reply counts the records dropped, and shows the count where it was clamped. -/
theorem journalRelease_eq {k : Nat} {ring : RingId} (h : ringOf k = some ring) (m : Nat) (s : State) :
    let j := s.journal.releaseFrom ring (min m 1024)
    journalRelease (k, m) s = (s.setJournal j, .okClamped (decide (1024 < m)) (.journalRelease ring
      (min (min m 1024) (s.journal.held ring)) (j.summary ring) (if 1024 < m then some 1024 else none))) := by
  intro j
  have hdropped : s.journal.held ring - j.held ring = min (min m 1024) (s.journal.held ring) := by
    rw [releaseFrom_held]
    omega
  have hshown : shownIf (decide (1024 < m)) (min m 1024) = if 1024 < m then some 1024 else none := by
    by_cases hm : 1024 < m
    · simp [hm, Nat.min_eq_right hm.le]
    · simp [hm]
  rw [← hdropped, ← hshown]
  simp only [journalRelease, h]
  rfl

/-- R150: JOURNAL LAYOUT, refused and taken. -/
theorem journalLayout_effect {s : State} {f : Frame} {ref a b : Byte} (hf : s.requestAt 0x36 = some f)
    (hp : f.payload = [ref, a, b]) :
    let j := s.taken.journal
    let span := clampNat 16 1008 (beNat [a, b])
    (j.issues.records ≠ [] ∨ j.events.records ≠ [] ∨ j.reservations ≠ 0 →
      exec .journalLayout s = refused f s .busy) ∧
    (j.issues.records = [] → j.events.records = [] → j.reservations = 0 →
      exec .journalLayout s = answered f (s.taken.setJournal (j.layout span))
        (.okClamped (outsideNat 16 1008 (beNat [a, b])) (.journalLayout span (1024 - span)))) := by
  intro j span
  rw [journalLayout_answers hf hp, journalLayout]
  refine ⟨fun hbusy => ?_, fun hissues hevents hreservations => ?_⟩
  · have hidle : ¬s.taken.journal.idle = true := fun h => by
      obtain ⟨hissues, hevents, hreservations⟩ := (idle_iff _).1 h
      exact hbusy.elim (· hissues) (·.elim (· hevents) (· hreservations))
    rw [if_neg hidle]
    rfl
  · rw [if_pos ((idle_iff _).2 ⟨hissues, hevents, hreservations⟩)]
    rfl

/-- R157: JOURNAL RELEASE of a ring. -/
theorem journalRelease_effect {s : State} {f : Frame} {ref k a b : Byte} {ring : RingId} (hf : s.requestAt 0x37 = some f)
    (hp : f.payload = [ref, k, a, b]) (hk : ringOf k.toNat = some ring) :
    let j := s.taken.journal.releaseFrom ring (min (beNat [a, b]) 1024)
    exec .journalRelease s = answered f (s.taken.setJournal j) (.okClamped (decide (1024 < beNat [a, b]))
      (.journalRelease ring (min (min (beNat [a, b]) 1024) (s.taken.journal.held ring)) (j.summary ring)
        (if 1024 < beNat [a, b] then some 1024 else none))) := by
  rw [journalRelease_answers hf hp, journalRelease_eq hk]

/-- Settles O58: LAYOUT by whether the store is idle; RELEASE and READ by the ring that the code names (R150, R154, R156,
R157, R171). -/
theorem journalRequestsActOnTheRings : Obligations.JournalRequestsActOnTheRings := by
  refine ⟨fun s f ref a b hf hp => ?_, fun s f ref k a b hf hp => ?_,
    fun s f ref k o1 o0 c hf hp => ?_⟩
  · obtain ⟨busy, laid⟩ := journalLayout_effect hf hp
    refine ⟨busy, fun hissues hevents hreservations => (laid hissues hevents hreservations).trans ?_⟩
    rw [layout_eq hreservations]
    rfl
  · intro j n count
    refine ⟨fun hk => ?_, fun hk => ?_, fun hk => ?_⟩
    · rw [journalRelease_answers hf hp, journalRelease, ringOf_none hk]
      rfl
    · subst hk
      obtain ⟨shape, pointer, reports⟩ :=
        release_reports IssueRecord.seq 0 j.issueSpan n j.issues j.reservations j.overwrites
      refine ⟨_, _, journalRelease_effect (ring := .issue) hf hp rfl, shape, fun high => ?_, reports⟩
      simpa using pointer (Nat.zero_le _) (by simpa using high)
    · subst hk
      obtain ⟨shape, pointer, reports⟩ :=
        release_reports EventRecord.seq j.issueSpan j.eventSpan n j.events j.overwrites j.overwrites
      refine ⟨_, _, journalRelease_effect (ring := .event) hf hp rfl, shape, fun low high => ?_, reports⟩
      have hspan : j.issueSpan + j.eventSpan = 1024 := Nat.add_sub_cancel' (low.trans high.le)
      exact pointer low (hspan.symm ▸ high)
  · intro o j
    rw [journalRead_answers hf hp]
    refine ⟨fun hk => ?_, fun hk => ?_, fun hk => ?_⟩
    · rw [journalRead, ringOf_none hk]
      rfl
    · subst hk
      exact ⟨_, rfl, ringSummary_reports IssueRecord.seq j.issues j.reservations j.overwrites⟩
    · subst hk
      exact ⟨_, rfl, ringSummary_reports EventRecord.seq j.events j.overwrites j.overwrites⟩

end Sys2Proof.JournalRings
end

section
/-! PROOFS of the family of chapter 10. What a port holds once it is set; how a receiver takes the characters of a frame,
one by one, and what it does as the frame ends; the losses of power; a request taken from the trunk queue, with the wake it
brings and its wrong lengths; LINK STATUS and LINK CLEAR. -/

namespace Sys2Proof.LinkPorts

open Sys2Proof Sys2Proof.Machine Sys2Proof.FleetRegister Sys2Proof.ServiceIntervals Sys2Proof.BaySequencing

/-! ## Setting a port -/

@[simp] theorem setPort_port_same (s : State) (p : PortId) (x : Port) : (s.setPort p x).port p = x := by
  cases p <;> rfl

@[simp] theorem setPort_setPort (s : State) (p : PortId) (x y : Port) : (s.setPort p x).setPort p y = s.setPort p y := by
  cases p <;> rfl

@[simp] theorem setPort_port_self (s : State) (p : PortId) : s.setPort p (s.port p) = s := by
  cases p <;> rfl

@[simp] theorem setPort_silent (s : State) (p : PortId) (x : Port) : (s.setPort p x).silent p = s.silent p := by
  cases p <;> rfl

/-- A port set to the receiver it has. -/
theorem setPort_receiver_self {s : State} {p : PortId} {r : Receiver} (h : (s.port p).receiver = r) :
    s.setPort p { s.port p with receiver := r } = s := by
  subst h
  exact setPort_port_self s p

/-- R163: every port but the yard port in WATCH sets its flags. -/
theorem silent_false_iff (s : State) (p : PortId) : s.silent p = false ↔ p = .trunk ∨ s.pod ≠ .watch := by
  cases p <;> simp [State.silent]

theorem silent_watch {s : State} (h : s.pod = .watch) : s.silent .yard = true := by simp [State.silent, h]

/-! ## How a frame ends -/

/-- R161: a frame with an error sets its flag. -/
theorem frameEnds_bad {s : State} {p : PortId} (h : s.silent p = false) (e : RxError) :
    s.frameEnds p (.bad e) = s.setPort p { s.port p with flags := (s.port p).flags.raise e } := by
  simp [State.frameEnds, h]

/-- R163: in WATCH the yard port drops it without a flag. -/
theorem frameEnds_bad_silent {s : State} {p : PortId} (h : s.silent p = true) (e : RxError) :
    s.frameEnds p (.bad e) = s := by
  simp [State.frameEnds, h]

/-- R161: a correct frame joins a queue with room, or sets OVERRUN. -/
theorem frameEnds_good {s : State} {p : PortId} (h : s.silent p = false) (f : Frame) :
    s.frameEnds p (.good f) = if (s.port p).rx.length < rxCap p then s.placeFrame p f
      else s.setPort p { s.port p with flags := { (s.port p).flags with overrun := true } } := by
  simp [State.frameEnds, h]

/-- R163: in WATCH the yard port keeps a waking TAG for which there is room, and nothing else. -/
theorem frameEnds_good_silent {s : State} {p : PortId} (h : s.silent p = true) (f : Frame) :
    s.frameEnds p (.good f) =
      if (s.port p).rx.length < rxCap p ∧ wakingTag s.station f = true then s.placeFrame p f else s := by
  by_cases hroom : (s.port p).rx.length < rxCap p
  · by_cases hwake : wakingTag s.station f = true <;> simp [State.frameEnds, h, hroom, hwake]
  · simp [State.frameEnds, h, hroom]

/-- R163: a waking TAG is one from a reader station to the pod. -/
theorem wakingTag_iff (station : Byte) (f : Frame) : wakingTag station f = true ↔
    f.kind = 0x10 ∧ (readerBay f.src).isSome = true ∧ f.dst = station := by
  simp [wakingTag, and_assoc]

/-- R161: the state once an error ends the frame of a receiver, which returns to hunting. -/
def badFrame (p : PortId) (e : RxError) (s : State) : State :=
  (s.setPort p { s.port p with receiver := .hunting }).frameEnds p (.bad e)

/-- R161: the error sets its flag. -/
theorem badFrame_heard {s : State} {p : PortId} (h : s.silent p = false) (e : RxError) :
    badFrame p e s = s.setPort p { s.port p with receiver := .hunting, flags := (s.port p).flags.raise e } := by
  rw [badFrame, frameEnds_bad (by simpa using h)]
  simp

/-- R163: at the yard port in WATCH the receiver returns to hunting, and that is all. -/
theorem badFrame_silent {s : State} (h : s.pod = .watch) (e : RxError) :
    badFrame .yard e s = { s with yard := { s.yard with receiver := .hunting } } := by
  rw [badFrame, frameEnds_bad_silent (by simpa using silent_watch h)]
  rfl

/-! ## One character -/

/-- R161: a character that ends no frame. -/
theorem receiveChar_goesOn {s : State} {p : PortId} {c : RxChar} {r r' : Receiver} (hs : (s.port p).receiver = r)
    (h : takeChar r c = (r', none)) : State.receiveChar p s c = s.setPort p { s.port p with receiver := r' } := by
  simp [State.receiveChar, hs, h]

/-- R161: a character that ends one. -/
theorem receiveChar_ends {s : State} {p : PortId} {c : RxChar} {r r' : Receiver} {e : RxEnd}
    (hs : (s.port p).receiver = r) (h : takeChar r c = (r', some e)) :
    State.receiveChar p s c = (s.setPort p { s.port p with receiver := r' }).frameEnds p e := by
  simp [State.receiveChar, hs, h]

theorem takeChar_hunting_start : takeChar .hunting { data := 0xA5, parityError := false, stopMissing := false } =
    (.inside [], none) := rfl

theorem takeChar_hunting_parity : takeChar .hunting { data := 0xA5, parityError := true, stopMissing := false } =
    (.hunting, some (.bad .parity)) := rfl

theorem takeChar_hunting_other {c : RxChar} (h : c.data ≠ 0xA5) : takeChar .hunting c = (.hunting, none) := if_neg h

theorem takeChar_inside_parity (got : List Byte) {c : RxChar} (h : c.parityError = true) :
    takeChar (.inside got) c = (.hunting, some (.bad .parity)) := by
  simp [takeChar, h]

theorem takeChar_inside_stop (got : List Byte) {c : RxChar} (hp : c.parityError = false) (h : c.stopMissing = true) :
    takeChar (.inside got) c = (.hunting, some (.bad .framing)) := by
  simp [takeChar, hp, h]

theorem takeChar_inside_good (got : List Byte) (x : Byte) : takeChar (.inside got) (goodChar x) = takeInside got x := rfl

/-- A character without error is a `goodChar`. -/
theorem goodChar_data {c : RxChar} (hp : c.parityError = false) (hs : c.stopMissing = false) : goodChar c.data = c := by
  cases c
  cases hp
  cases hs
  rfl

/-- R161: a length above 56 ends the frame. -/
theorem takeChar_inside_tooLong {got : List Byte} {x : Byte} (h3 : got.length = 3) (hx : 56 < x.toNat) :
    takeChar (.inside got) (goodChar x) = (.hunting, some (.bad .framing)) := by
  have hlength : ((got ++ [x]).getD 3 0).toNat = x.toNat := by simp [← h3]
  rw [takeChar_inside_good]
  unfold takeInside
  dsimp only
  rw [if_neg (by simp [h3]), hlength, if_pos hx]

/-! ## The characters of a frame -/

/-- R161: the characters since the start character that do not yet end a frame: the header is not whole, or its length is
allowed and the payload and the check are not whole. -/
def Unfinished (got : List Byte) : Prop :=
  got.length < 4 ∨ ((got.getD 3 0).toNat ≤ 56 ∧ got.length < 4 + (got.getD 3 0).toNat + 2)

/-- R161: fewer characters of an unfinished frame are unfinished. -/
theorem Unfinished.init {got : List Byte} {x : Byte} (h : Unfinished (got ++ [x])) : Unfinished got := by
  by_cases h4 : got.length < 4
  · exact .inl h4
  · have hlength : (got ++ [x]).getD 3 0 = got.getD 3 0 := List.getD_append _ _ _ _ (by omega)
    rw [Unfinished, hlength, List.length_append, List.length_singleton] at h
    right
    omega

/-- R161: a receiver stays inside an unfinished frame. -/
theorem takeChar_unfinished {got : List Byte} {x : Byte} (h : Unfinished (got ++ [x])) :
    takeChar (.inside got) (goodChar x) = (.inside (got ++ [x]), none) := by
  rw [takeChar_inside_good]
  unfold takeInside
  dsimp only
  split
  · rfl
  · obtain ⟨hmax, hmore⟩ := h.resolve_left ‹_›
    rw [if_neg (show ¬56 < _ by omega), if_pos hmore]

/-- R161: the last character of the check ends a frame. -/
theorem takeChar_last {got : List Byte} (x : Byte) (hmax : (got.getD 3 0).toNat ≤ 56)
    (hlast : got.length = 4 + (got.getD 3 0).toNat + 1) :
    takeChar (.inside got) (goodChar x) = (.hunting, some (endFrame (got ++ [x]) (got.getD 3 0).toNat)) := by
  rw [takeChar_inside_good]
  have hlength : (got ++ [x]).getD 3 0 = got.getD 3 0 := List.getD_append _ _ _ _ (by omega)
  unfold takeInside
  dsimp only
  rw [hlength, List.length_append, List.length_singleton, if_neg (by omega), if_neg (show ¬56 < _ by omega),
    if_neg (by omega)]

/-- R161: a hunting receiver takes a start character and an unfinished frame. -/
theorem receiveChars_unfinished {s : State} {p : PortId} (hs : (s.port p).receiver = .hunting) (got : List Byte)
    (h : Unfinished got) : s.receiveChars p ((0xA5 :: got).map goodChar) =
      s.setPort p { s.port p with receiver := .inside got } := by
  induction got using List.reverseRecOn with
  | nil => exact receiveChar_goesOn hs takeChar_hunting_start
  | append_singleton got x ih =>
    have htaken := ih h.init
    rw [State.receiveChars] at htaken ⊢
    rw [← List.cons_append, List.map_append, List.foldl_append, htaken]
    exact (receiveChar_goesOn (by simp) (takeChar_unfinished h)).trans (by simp)

/-- R170: the bytes of a frame that its check covers. -/
def covered (f : Frame) : List Byte := [f.dst, f.src, f.kind, BitVec.ofNat 8 f.payload.length] ++ f.payload

theorem covered_length (f : Frame) : (covered f).length = 4 + f.payload.length := by
  simp [covered]
  omega

theorem covered_append_length_byte {f : Frame} (h : f.payload.length ≤ 56) (bs : List Byte) :
    ((covered f ++ bs).getD 3 0).toNat = f.payload.length := by
  have hbyte : ((covered f ++ bs).getD 3 0).toNat = f.payload.length % 256 := BitVec.toNat_ofNat ..
  omega

/-- R170: the characters of a frame: the bytes covered and the two bytes of their check. -/
theorem goodFrame_eq (f : Frame) : ∃ hi lo : Byte, (hi ++ lo : BitVec 16) = crc16 (covered f) ∧
    goodFrame f = (0xA5 :: (covered f ++ [hi])).map goodChar ++ [goodChar lo] := by
  obtain ⟨hi, lo, hwire, hcheck⟩ := wireBytes_eq f.dst f.src f.kind f.payload
  exact ⟨hi, lo, hcheck, by simp [goodFrame, hwire, covered]⟩

/-- R161, R170: the two bytes of the check decide how a frame ends. -/
theorem endFrame_covered (f : Frame) (hi lo : Byte) : endFrame (covered f ++ [hi, lo]) f.payload.length =
    if (hi ++ lo : BitVec 16) = crc16 (covered f) then .good f else .bad .check := by
  unfold endFrame
  dsimp only
  rw [← covered_length, List.take_left, List.drop_left, beNat_two, ← append_toNat]
  simp only [BitVec.toNat_inj]
  rfl

/-- R161, R170: a whole frame returns a hunting receiver to hunting, and its last character decides the check. -/
theorem receiveChars_frame {s : State} {p : PortId} {f : Frame} (hs : (s.port p).receiver = .hunting)
    (hlen : f.payload.length ≤ 56) (hi x : Byte) :
    s.receiveChars p ((0xA5 :: (covered f ++ [hi])).map goodChar ++ [goodChar x]) =
      s.frameEnds p (if (hi ++ x : BitVec 16) = crc16 (covered f) then .good f else .bad .check) := by
  have hbyte := covered_append_length_byte hlen [hi]
  have hlength : (covered f ++ [hi]).length = 4 + f.payload.length + 1 := by simp [covered_length]
  have hinside := receiveChars_unfinished hs (covered f ++ [hi]) (.inr (by omega))
  have hends : takeChar (.inside (covered f ++ [hi])) (goodChar x) = (.hunting,
      some (if (hi ++ x : BitVec 16) = crc16 (covered f) then .good f else .bad .check)) := by
    rw [takeChar_last x (by omega) (by omega), hbyte, List.append_assoc, ← endFrame_covered]
    rfl
  rw [State.receiveChars] at hinside ⊢
  rw [List.foldl_append, hinside]
  refine (receiveChar_ends (by simp) hends).trans ?_
  simp [setPort_receiver_self hs]

/-- R161, R170: a whole and correct frame. -/
theorem receiveChars_goodFrame {s : State} {p : PortId} {f : Frame} (hs : (s.port p).receiver = .hunting)
    (hlen : f.payload.length ≤ 56) : s.receiveChars p (goodFrame f) = s.frameEnds p (.good f) := by
  obtain ⟨hi, lo, hcheck, hframe⟩ := goodFrame_eq f
  rw [hframe, receiveChars_frame hs hlen, if_pos hcheck]

/-- R161: a frame with another last character fails its check. -/
theorem receiveChars_badCheck {s : State} {p : PortId} {f : Frame} (hs : (s.port p).receiver = .hunting)
    (hlen : f.payload.length ≤ 56) {x : Byte} (hx : (goodFrame f).getLast? ≠ some (goodChar x)) :
    s.receiveChars p ((goodFrame f).dropLast ++ [goodChar x]) = s.frameEnds p (.bad .check) := by
  obtain ⟨hi, lo, hcheck, hframe⟩ := goodFrame_eq f
  rw [hframe, List.getLast?_concat] at hx
  have hfails : (hi ++ x : BitVec 16) ≠ crc16 (covered f) := by
    rw [← hcheck, Ne, ← BitVec.toNat_inj, append_toNat, append_toNat, Nat.add_left_cancel_iff, BitVec.toNat_inj]
    rintro rfl
    exact hx rfl
  rw [hframe, List.dropLast_concat, receiveChars_frame hs hlen, if_neg hfails]

/-- R161: characters at a port of a part that runs. -/
theorem frameReceive_eq {s : State} (h : s.powered = true) (p : PortId) (cs : List RxChar) :
    exec (.frameReceive p cs) s = .next (s.receiveChars p cs).settled :=
  event_occurs (fun t => t.receiveChars p cs) s h

/-- Settles O21: a whole frame ends as its check, its queue and the mode of its port decide (R161, R163, R170, R177). -/
theorem correctFrameJoinsItsReceiveQueue : Obligations.CorrectFrameJoinsItsReceiveQueue := by
  intro s p f hpower hlen hs
  have hgood : exec (.frameReceive p (goodFrame f)) s = .next (s.frameEnds p (.good f)).settled := by
    rw [frameReceive_eq hpower, receiveChars_goodFrame hs hlen]
  have hbad : ∀ c : RxChar, c.parityError = false → c.stopMissing = false → (goodFrame f).getLast? ≠ some c →
      exec (.frameReceive p ((goodFrame f).dropLast ++ [c])) s = .next (s.frameEnds p (.bad .check)).settled := by
    intro c hparity hstop hother
    rw [← goodChar_data hparity hstop] at hother ⊢
    rw [frameReceive_eq hpower, receiveChars_badCheck hs hlen hother]
  refine ⟨fun hroom hheard => ?_, fun hfull hheard => ?_, fun hp hwatch hroom hkind hreader hdst => ?_,
    fun c hparity hstop hother hheard => ?_, fun c hparity hstop hother hp hwatch => ?_, fun hp hwatch hnot => ?_⟩
  · rw [hgood, frameEnds_good ((silent_false_iff s p).2 hheard), if_pos hroom]
    rfl
  · rw [hgood, frameEnds_good ((silent_false_iff s p).2 hheard), if_neg (Nat.not_lt.2 hfull)]
  · subst hp
    rw [hgood, frameEnds_good_silent (silent_watch hwatch),
      if_pos ⟨hroom, (wakingTag_iff _ f).2 ⟨hkind, hreader, hdst⟩⟩]
    rfl
  · rw [hbad c hparity hstop hother, frameEnds_bad ((silent_false_iff s p).2 hheard)]
    rfl
  · subst hp
    rw [hbad c hparity hstop hother, frameEnds_bad_silent (silent_watch hwatch)]
  · subst hp
    have hdropped : ¬((s.port .yard).rx.length < rxCap .yard ∧ wakingTag s.station f = true) := by
      rintro ⟨hroom, hwake⟩
      obtain ⟨hkind, hreader, hdst⟩ := (wakingTag_iff _ f).1 hwake
      rcases hnot with hfull | hkind' | hnone | hdst'
      · exact absurd hroom (Nat.not_lt.2 hfull)
      · exact hkind' hkind
      · simp [hnone] at hreader
      · exact hdst' hdst
    rw [hgood, frameEnds_good_silent (silent_watch hwatch), if_neg hdropped]

/-! ## Errors of reception -/

/-- R161: one character at a port of a part that runs. -/
theorem frameReceive_one {s : State} (h : s.powered = true) (p : PortId) (c : RxChar) :
    exec (.frameReceive p [c]) s = .next (State.receiveChar p s c).settled := frameReceive_eq h p [c]

/-- R161: a gap at a receiver inside a frame. -/
theorem characterGapTimeout_eq {s : State} {p : PortId} {got : List Byte} (h : s.powered = true)
    (hs : (s.port p).receiver = .inside got) : exec (.characterGapTimeout p) s = .next (badFrame p .framing s).settled :=
  event_occurs (badFrame p .framing) s (by simp [h, hs])

/-- R161: a start character at a hunting receiver. -/
theorem startCharacter_eq {s : State} {p : PortId} (h : s.powered = true) (hs : (s.port p).receiver = .hunting)
    (e : Bool) : exec (.startCharacter p e) s =
      .next (State.receiveChar p s { data := 0xA5, parityError := e, stopMissing := false }).settled :=
  event_occurs (fun t => State.receiveChar p t { data := 0xA5, parityError := e, stopMissing := false }) s
    (by simp [h, hs])

/-- R161: which character inside a frame ends it, and with which error. -/
theorem receiveChar_inside {s : State} {p : PortId} {got : List Byte} {c : RxChar}
    (hs : (s.port p).receiver = .inside got) :
    (c.parityError = true → State.receiveChar p s c = badFrame p .parity s) ∧
    (c.parityError = false → c.stopMissing = true → State.receiveChar p s c = badFrame p .framing s) ∧
    (c.parityError = false → c.stopMissing = false → got.length = 3 → 56 < c.data.toNat →
      State.receiveChar p s c = badFrame p .framing s) := by
  refine ⟨fun hparity => ?_, fun hparity hstop => ?_, fun hparity hstop h3 hlong => ?_⟩
  · exact receiveChar_ends hs (takeChar_inside_parity got hparity)
  · exact receiveChar_ends hs (takeChar_inside_stop got hparity hstop)
  · have hlength := takeChar_inside_tooLong h3 hlong
    rw [goodChar_data hparity hstop] at hlength
    exact receiveChar_ends hs hlength

/-- Settles O22: each error ends the frame as `badFrame` says, in WATCH without a flag; a hunting receiver waits for a
start character (R161, R163). -/
theorem receptionErrorsSetTheirFlag : Obligations.ReceptionErrorsSetTheirFlag := by
  refine ⟨fun s p got c hpower hs hheard => ?_, fun s got c hpower hs hwatch => ?_, fun s p hpower hs => ?_⟩
  · obtain ⟨parity, stop, long⟩ := receiveChar_inside (c := c) hs
    have hdropped := badFrame_heard ((silent_false_iff s p).2 hheard)
    rw [frameReceive_one hpower, characterGapTimeout_eq hpower hs]
    refine ⟨fun hparity => ?_, fun hparity hstop => ?_, fun hparity hstop h3 hlong => ?_, ?_⟩
    · rw [parity hparity, hdropped]
      rfl
    · rw [stop hparity hstop, hdropped]
      rfl
    · rw [long hparity hstop h3 hlong, hdropped]
      rfl
    · rw [hdropped]
      rfl
  · intro dropped
    have hs : (s.port .yard).receiver = .inside got := hs
    obtain ⟨parity, stop, long⟩ := receiveChar_inside (c := c) hs
    have hdropped := badFrame_silent hwatch
    rw [frameReceive_one hpower, characterGapTimeout_eq hpower hs]
    refine ⟨?_, fun hparity => ?_, fun hparity hstop => ?_, fun hparity hstop h3 hlong => ?_⟩
    · rw [hdropped]
    · rw [parity hparity, hdropped]
    · rw [stop hparity hstop, hdropped]
    · rw [long hparity hstop h3 hlong, hdropped]
  · have hsame := setPort_receiver_self hs
    rw [startCharacter_eq hpower hs, startCharacter_eq hpower hs, receiveChar_goesOn hs takeChar_hunting_start,
      receiveChar_ends hs takeChar_hunting_parity, hsame]
    refine ⟨rfl, fun hheard => ?_, fun hp hwatch => ?_, fun c hother => ?_⟩
    · rw [frameEnds_bad ((silent_false_iff s p).2 hheard)]
      rfl
    · rw [frameEnds_bad_silent (hp ▸ silent_watch hwatch)]
    · rw [frameReceive_one hpower, receiveChar_goesOn hs (takeChar_hunting_other hother), hsame]

/-! ## Losses of power -/

/-- Settles O19: the losses of power by whether main power is present, and `exec_unpowered` for every other command (R169,
R180). -/
theorem powerLossKeepsTheRetainedStateUntilAStart : Obligations.PowerLossKeepsTheRetainedStateUntilAStart := by
  exact ⟨fun s hpower => if_pos hpower, fun s hpower => if_neg (by simp [hpower]), fun s hpower => if_pos hpower,
    fun c s => exec_unpowered⟩

/-! ## A request taken -/

/-- R164, R171: which frames are taken as requests, by the tables of `framesArePassedOnRefusedOrDropped`. -/
theorem classifyTrunk_request_iff {n : Byte} (h1 : 1 ≤ n.toNat) (h239 : n.toNat ≤ 239) (f : Frame) :
    (classifyTrunk n f = .request ∨ classifyTrunk n f = .broadcast) ↔
      f.payload ≠ [] ∧ ((f.dst = n ∧ 0x20 ≤ f.kind.toNat ∧ f.kind.toNat ≤ 0x3F) ∨
        (f.dst = 255 ∧ (f.kind = 0x2B ∨ f.kind = 0x2C))) := by
  obtain ⟨own, all, yard, other⟩ := framesArePassedOnRefusedOrDropped.1 n f h1 h239
  have hboth : f.dst = n → f.dst = 255 → False := by
    rintro rfl hall
    rw [hall] at h239
    exact absurd h239 (by decide)
  by_cases hown : f.dst = n
  · rw [own hown]
    split
    · obtain ⟨hlow, hhigh, hpayload⟩ := ‹_ ∧ _ ∧ f.payload ≠ []›
      exact ⟨fun _ => ⟨hpayload, .inl ⟨hown, hlow, hhigh⟩⟩, fun _ => .inl rfl⟩
    · rename_i hnot
      refine ⟨fun h => by simp at h, ?_⟩
      rintro ⟨hpayload, ⟨-, hlow, hhigh⟩ | ⟨hall, -⟩⟩
      · exact absurd ⟨hlow, hhigh, hpayload⟩ hnot
      · exact (hboth hown hall).elim
  · by_cases hall : f.dst = 255
    · rw [all hall]
      split
      · obtain ⟨hkind, hpayload⟩ := ‹_ ∧ f.payload ≠ []›
        exact ⟨fun _ => ⟨hpayload, .inr ⟨hall, hkind⟩⟩, fun _ => .inr rfl⟩
      · rename_i hnot
        refine ⟨fun h => by simp at h, ?_⟩
        rintro ⟨hpayload, ⟨hown', -⟩ | ⟨-, hkind⟩⟩
        · exact absurd hown' hown
        · exact absurd ⟨hkind, hpayload⟩ hnot
    · have hclass : classifyTrunk n f = .passThrough ∨ classifyTrunk n f = .drop := by
        by_cases hyard : 240 ≤ f.dst.toNat ∧ f.dst.toNat ≤ 251
        · exact .inl (yard hyard.1 hyard.2)
        · exact .inr (other hown hall (by omega))
      refine ⟨fun h => by rcases hclass with h' | h' <;> simp [h'] at h, ?_⟩
      rintro ⟨-, ⟨hown', -⟩ | ⟨hall', -⟩⟩
      · exact absurd hown' hown
      · exact absurd hall' hall

/-- R164, R182: the oldest frame of the trunk queue may be taken. -/
theorem trunkHead_iff {s : State} {f : Frame} {rest : List Frame} (h : s.trunk.rx = f :: rest) :
    s.trunkHead = some f ↔ s.powered = true ∧ s.resetPending = false ∧ s.trunk.tx.length < 6 := by
  simp [State.trunkHead, h, Config.trunkTxCap, and_assoc]

/-- R164: it is a request that may be taken. -/
theorem requestAt_iff (s : State) (f : Frame) : s.requestAt f.kind = some f ↔ s.trunkHead = some f ∧
    (classifyTrunk s.station f = .request ∨ classifyTrunk s.station f = .broadcast) := by
  unfold State.requestAt
  cases hhead : s.trunkHead with
  | none => simp
  | some g =>
    dsimp only
    constructor
    · intro h
      split at h
      · cases h
        exact ⟨rfl, And.right ‹_›⟩
      · cases h
    · rintro ⟨h, hclass⟩
      cases h
      exact if_pos ⟨rfl, hclass⟩

/-- R164, R167: a frame with no payload, not even the reference, is no request. -/
theorem classifyTrunk_noPayload {n : Byte} {f : Frame} (h : f.payload = []) :
    ¬(classifyTrunk n f = .request ∨ classifyTrunk n f = .broadcast) := by
  simp only [classifyTrunk, h, List.isEmpty_nil, Bool.not_true, Bool.and_false, Bool.false_eq_true, if_false]
  repeat' split
  all_goals simp

theorem requestAt_payload {s : State} {k : Byte} {f : Frame} (h : s.requestAt k = some f) : f.payload ≠ [] := by
  obtain ⟨-, -, -, -, -, hclass⟩ := State.requestAt_some h
  exact fun hnone => classifyTrunk_noPayload hnone hclass

/-- R171, R178: what a wake by a request makes of the state. -/
theorem taken_watch_eq {s : State} (h : s.pod = .watch) : s.taken = { s.popTrunk with
      pod := .inService, journal := s.journal.logEvent s.stamp (.podState .watch .inService), yardTarget := .run
      yardMode := s.taken.yardMode, yard := { s.yard with rate := s.taken.yard.rate }
      watchTimer := s.taken.watchTimer } := by
  have hjournal : (s.popTrunk.changePod .inService).journal =
      s.journal.logEvent s.stamp (.podState .watch .inService) := by
    rw [← h]
    rfl
  rw [State.taken_woken h, (yardMode_eq ..).1, ← hjournal]
  split <;> rfl

/-- R160, R163: the wake puts the yard port in RUN mode once it is between frames. -/
theorem taken_yardMode {s : State} (h : s.pod = .watch) (hhunting : s.yard.receiver = .hunting)
    (hfree : s.yard.sending = none) : s.taken.yardMode = .run := by
  have hbetween : (s.popTrunk.changePod .inService).yard.betweenFrames = true :=
    (betweenFrames_iff _).2 ⟨hhunting, hfree⟩
  rw [State.taken_woken h, (yardMode_eq ..).1, if_pos hbetween]
  rfl

/-- R177: the wake lets the watch delay timer follow its conditions (log 39). -/
theorem taken_watchTimer {s : State} (h : s.pod = .watch) : s.taken.watchTimer =
    if s.taken.watchReady then some (s.watchTimer.getD (s.podSettings.watchDelay * 1000)) else none := by
  rw [State.taken_woken h]
  generalize hu : (s.popTrunk.changePod .inService).setYardMode .run = u
  have htimer : u.watchTimer = s.watchTimer := by simp [← hu]
  have hsettings : u.podSettings = s.podSettings := by simp [← hu]
  rw [← htimer, ← hsettings]
  rfl

/-! ## Wrong lengths -/

theorem parseNone_wrongLength {bs : List Byte} (h : bs.length ≠ 0) : parseNone bs = none :=
  if_neg (mt List.length_eq_zero_iff.2 h)

theorem parseOne_wrongLength {w : Nat} {bs : List Byte} (h : bs.length ≠ w) : parseOne w bs = none := by
  simp [parseOne, fieldsOf_wrongLength (ws := [w]) (by simpa using h)]

theorem parseTwo_wrongLength {w1 w2 : Nat} {bs : List Byte} (h : bs.length ≠ w1 + w2) : parseTwo w1 w2 bs = none := by
  simp [parseTwo, fieldsOf_wrongLength (ws := [w1, w2]) (by simpa using h)]

theorem parseThree_wrongLength {w1 w2 w3 : Nat} {bs : List Byte} (h : bs.length ≠ w1 + w2 + w3) :
    parseThree w1 w2 w3 bs = none := by
  simp [parseThree, fieldsOf_wrongLength (ws := [w1, w2, w3]) (by simpa [Nat.add_assoc] using h)]

theorem parseBaySet_wrongLength {bs : List Byte} (h : bs.length ≠ 25) : parseBaySet bs = none := by
  simp [parseBaySet, fieldsOf_wrongLength (ws := [1, 1, 1, 4, 2, 2, 2, 2, 2, 2, 2, 2, 2]) h]

theorem parseTankSet_wrongLength {bs : List Byte} (h : bs.length ≠ 26) : parseTankSet bs = none := by
  simp [parseTankSet, fieldsOf_wrongLength (ws := [1, 4, 2, 4, 4, 1, 1, 2, 1, 2, 2, 2]) h]

theorem parsePodSet_wrongLength {bs : List Byte} (h : bs.length ≠ 10) : parsePodSet bs = none := by
  simp [parsePodSet, fieldsOf_wrongLength (ws := [2, 2, 2, 1, 1, 1, 1]) h]

/-- R167: a request whose fields fill `m` bytes is INVALID at any other length. -/
theorem request_wrongLength {α : Type} {m n : Nat} {kind : Byte} {parse : List Byte → Option α}
    {bad : State → ReplyFields} {serve : α → State → State × Reply} {s : State} {f : Frame}
    (hparse : ∀ {bs : List Byte}, bs.length ≠ m → parse bs = none) (hf : s.requestAt kind = some f)
    (hn : f.payload.length ≠ n) (hm : n = m + 1) :
    ∃ fields, request kind parse bad serve s =
      answered f s.taken { result := .invalid, clamped := false, fields := fields } := by
  have hpos : 0 < f.payload.length := List.length_pos_iff.2 (requestAt_payload hf)
  refine ⟨bad s.taken, request_badLength hf (hparse ?_)⟩
  rw [List.length_tail]
  omega

/-- R167: each request of fixed length at another length. -/
theorem fixedRequest_wrongLength {c : Instr} {kind : Byte} {n : Nat} {s : State} {f : Frame}
    (hc : fixedRequest c = some (kind, n)) (hf : s.requestAt kind = some f) (hn : f.payload.length ≠ n) :
    ∃ fields, exec c s = answered f s.taken { result := .invalid, clamped := false, fields := fields } := by
  cases c with
  | podStart | podResume | podReset | shiftRoll | podStatus | linkStatus =>
    cases hc
    exact request_wrongLength parseNone_wrongLength hf hn rfl
  | fleetDelete | podSuspend | timeSet | bayStop | bayRelease | tankClear | deliveryClose | deliveryAbort | censusNow
  | journalLayout | linkClear | bayStatus | tankStatus =>
    cases hc
    exact request_wrongLength parseOne_wrongLength hf hn rfl
  | serviceDone | stockSet | deliveryOpen | journalRelease | fleetGet | fleetNext =>
    cases hc
    exact request_wrongLength parseTwo_wrongLength hf hn rfl
  | classSet | journalRead =>
    cases hc
    exact request_wrongLength parseThree_wrongLength hf hn rfl
  | baySet =>
    cases hc
    exact request_wrongLength parseBaySet_wrongLength hf hn rfl
  | tankSet =>
    cases hc
    exact request_wrongLength parseTankSet_wrongLength hf hn rfl
  | podSet =>
    cases hc
    exact request_wrongLength parsePodSet_wrongLength hf hn rfl
  | _ => cases hc

/-- Settles O26: when a request may be taken, the wake it brings, and its wrong lengths (R163, R164, R167, R171, R177, R178,
R182). -/
theorem requestIsTakenWakesAndIsChecked : Obligations.RequestIsTakenWakesAndIsChecked := by
  refine ⟨fun s f rest hqueue hlow hhigh => ⟨?_, ?_⟩, fun s => State.taken_awake, fun s hwatch => ?_,
    fun c kind n s f => fixedRequest_wrongLength, fun s f hf hparse => ?_, fun s f => request_badLength⟩
  · rw [requestAt_iff, trunkHead_iff hqueue, classifyTrunk_request_iff hlow hhigh, and_assoc, and_assoc]
  · simp [State.popTrunk, hqueue]
  · have hwoken := taken_watch_eq hwatch
    have hjournal : s.taken.journal = s.journal.logEvent s.stamp (.podState .watch .inService) := by rw [hwoken]
    have htimer := taken_watchTimer hwatch
    refine ⟨by rw [hwoken], by rw [hwoken], hjournal, by simp [State.taken], by simp, by simp, by simp, by simp,
      taken_yardMode hwatch, fun hready => ?_, fun hready => ?_, ?_⟩
    · rw [htimer, if_pos hready]
    · rw [htimer, hready]
      rfl
    · rw [hjournal]
      exact hwoken
  · have hanswer : exec .fleetPut s = answered f s.taken (.refuseWith .invalid (countFields s.taken)) :=
      request_badLength hf hparse
    rw [hanswer, countFields, taken_fleet]

/-! ## LINK STATUS and LINK CLEAR -/

/-- The wake leaves the trunk port, from which the request was taken. -/
theorem taken_trunk (s : State) : s.taken.trunk = { s.trunk with rx := s.trunk.rx.tail } := by
  simp [State.taken, State.popTrunk]

/-- R161, R178: the wake leaves the flags of the yard port. -/
theorem taken_yard_flags (s : State) : s.taken.yard.flags = s.yard.flags := by
  by_cases h : s.pod = .watch
  · rw [taken_watch_eq h]
  · simp [State.taken_awake h]

/-- R170: the bits of a mask of two bytes. -/
theorem mask_testBit (a b : Byte) (i : Nat) :
    (beNat [a, b]).testBit i = if i < 8 then b.getLsbD i else a.getLsbD (i - 8) := by
  rw [beNat_two, ← append_toNat, BitVec.testBit_toNat, BitVec.getLsbD_append]

/-- R168, R170: bits 0 to 3 of the mask name the yard port's flags. -/
theorem less_yard (x : PortFlags) (a b : Byte) : x.less (beNat [a, b]) 0 =
    { parity := x.parity && !b.getLsbD 0, framing := x.framing && !b.getLsbD 1, check := x.check && !b.getLsbD 2,
      overrun := x.overrun && !b.getLsbD 3 } := by
  simp only [PortFlags.less, mask_testBit]
  rfl

/-- R168, R170: bits 4 to 7 name the trunk port's. -/
theorem less_trunk (x : PortFlags) (a b : Byte) : x.less (beNat [a, b]) 4 =
    { parity := x.parity && !b.getLsbD 4, framing := x.framing && !b.getLsbD 5, check := x.check && !b.getLsbD 6,
      overrun := x.overrun && !b.getLsbD 7 } := by
  simp only [PortFlags.less, mask_testBit]
  rfl

/-- R168: LINK CLEAR on any state. -/
theorem linkClear_state (s : State) (a b : Byte) : (linkClear (beNat [a, b]) s).1 =
    { s with
      yard := { s.yard with flags := s.yard.flags.less (beNat [a, b]) 0 }
      trunk := { s.trunk with flags := s.trunk.flags.less (beNat [a, b]) 4 }
      forwardDrops := if a.getLsbD 0 then 0 else s.forwardDrops } := by
  have hcount : (beNat [a, b]).testBit 8 = a.getLsbD 0 := mask_testBit a b 8
  simp only [linkClear, hcount]

/-- R168: it answers with what stands after it. -/
theorem linkClear_reply (n : Nat) (s : State) : (linkClear n s).2 = .okWith (.linkClear (linkClear n s).1.yard.flags
    (linkClear n s).1.trunk.flags (linkClear n s).1.forwardDrops) := rfl

/-- Settles O25: both requests are served on the state as taken (R167, R168, R170). -/
theorem linkStatusAndLinkClear : Obligations.LinkStatusAndLinkClear := by
  refine ⟨fun s f ref hf hp => ?_, fun s f ref a b hf hp => ?_⟩
  · have hanswer : exec .linkStatus s = answered f (linkStatus () s.taken).1 (linkStatus () s.taken).2 :=
      request_served hf (by rw [hp]; rfl)
    rw [hanswer]
    simp [linkStatus, portReport, taken_trunk, Rate.bitRate, Config.mainOscillator]
  · have hanswer : exec .linkClear s =
        answered f (linkClear (beNat [a, b]) s.taken).1 (linkClear (beNat [a, b]) s.taken).2 :=
      request_served hf (by rw [hp]; rfl)
    rw [hanswer, linkClear_reply, linkClear_state]
    simp only [less_yard, less_trunk, taken_yard_flags, taken_trunk, State.taken_frame]

end Sys2Proof.LinkPorts
end

section
/-! PROOFS of the family of chapter 11 on the pod's states and its clock. What a command can do to the pod state, to the
activity of the bays and to the watch delay timer, said once for all of them; the laws of BLANK and WATCH; then the clock. -/

namespace Sys2Proof.PodStates

open Sys2Proof Sys2Proof.Machine Sys2Proof.FleetRegister Sys2Proof.ServiceIntervals Sys2Proof.Authorising
open Sys2Proof.BaySequencing Sys2Proof.Censuses Sys2Proof.JournalRings

/-! ## Pods that are BLANK or in WATCH -/

/-- R174, R177: the pod states in which no bay may be active. -/
def Closed (p : PodState) : Prop := p = .blank ∨ p = .watch

/-- Where the pod is BLANK or in WATCH afterwards, it was so before, and no bay has become active. -/
structure Rests (s t : State) : Prop where
  pod : Closed t.pod → t.pod = s.pod
  bays : Closed t.pod → ∀ b, (t.bay b).state.active = true → (s.bay b).state.active = true

theorem Rests.trans {s u t : State} (h1 : Rests s u) (h2 : Rests u t) : Rests s t := by
  have hclosed : Closed t.pod → Closed u.pod := fun h => h2.pod h ▸ h
  exact ⟨fun h => (h2.pod h).trans (h1.pod (hclosed h)), fun h b hb => h1.bays (hclosed h) b (h2.bays h b hb)⟩

/-- Nothing is asked of what leaves the pod IN SERVICE or SUSPENDED. -/
theorem Rests.of_open {s t : State} (h : t.pod = .inService ∨ t.pod = .suspended) : Rests s t := by
  have hopen : ¬Closed t.pod := by
    rintro (hc | hc) <;> simp [hc] at h
  exact ⟨fun hc => absurd hc hopen, fun hc => absurd hc hopen⟩

/-- An operation that makes no bay active and leaves the pod state. -/
theorem Rests.of_quieter {s t : State} (h : Quieter s t) (pod : t.pod = s.pod) : Rests s t :=
  ⟨fun _ => pod, fun _ b hb => (h.bays b hb).1⟩

theorem Rests.of_calm {s t : State} (h : Calm s t) (pod : t.pod = s.pod) : Rests s t := .of_quieter h.quieter pod

/-- An operation that leaves the pod state and the bays. -/
theorem Rests.of_frame {s t : State} (h : t.pod = s.pod ∧ t.bays = s.bays) : Rests s t := by
  obtain ⟨hpod, hbays⟩ := h
  exact ⟨fun _ => hpod, fun _ b hb => by rwa [State.bay_congr hbays] at hb⟩

theorem Rests.refl (s : State) : Rests s s := .of_frame ⟨rfl, rfl⟩

/-- Operations made one after another. -/
theorem Rests.foldl {α : Type} {f : State → α → State} (hf : ∀ s a, Rests s (f s a)) (l : List α) (s : State) :
    Rests s (l.foldl f s) := by
  induction l generalizing s with
  | nil => exact .refl s
  | cons a l ih => exact (hf s a).trans (ih _)

/-! ## The operations of the bays -/

theorem rests_complete (s : State) (b : BayId) (c : CloseCause) : Rests s (s.complete b c) :=
  .of_calm (calm_complete ..) (by simp)

theorem rests_endIssue (s : State) (c : CloseCause) (b : BayId) : Rests s (s.endIssue c b) :=
  .of_calm (calm_endIssue ..) (by simp)

theorem tallyInactive_pod (s : State) (b : BayId) (t : Tally) (taken : BayState) :
    (s.tallyInactive b t taken).pod = s.pod := by
  have hunaccounted : (s.unaccounted b).pod = s.pod := by
    unfold State.unaccounted
    dsimp only
    split <;> simp
  unfold State.tallyInactive State.faultIdle
  dsimp only
  split <;> simp [hunaccounted]

/-- R108: a tally handed over leaves the pod state. -/
theorem handTally_pod (s : State) (b : BayId) (t : Tally) (sample : Option Nat) (taken : BayState) :
    (s.handTally b t sample taken).pod = s.pod := by
  unfold State.handTally
  split
  · unfold State.tallyGranted
    repeat' split
    all_goals simp
  · exact State.setBay_pod ..
  · exact State.setBay_pod ..
  · unfold State.tallyClosing
    dsimp only
    split <;> simp
  · exact tallyInactive_pod ..

/-- R101: the work done for one tally. -/
theorem rests_takeTally (s : State) (b : BayId) (t : Tally) : Rests s (s.takeTally b t) :=
  .of_calm (calm_takeTally ..) ((handTally_pod ..).trans (by simp))

/-- R110: a valve report taken. -/
theorem rests_takeValve (s : State) (b : BayId) (r : ReportedValve) : Rests s (s.takeValve b r) := by
  refine .of_calm (calm_takeValve ..) ?_
  unfold State.takeValve State.handValve State.faultIdle
  repeat' split
  all_goals simp

/-- R58, R178: a TAG leaves the pod as the wake has it. -/
theorem takeTag_pod (s : State) (b : BayId) (payload : List Byte) :
    (s.takeTag b payload).pod = if s.pod = .watch then .inService else s.pod := by
  have hdecided : ∀ (u : State) r wake, (u.decideTag b r wake).pod = u.pod := by
    intro u r wake
    unfold State.decideTag State.refuseTag State.repeatGrant State.grantAt State.hoursStep
    repeat' (first | split | dsimp only)
    all_goals simp
  have hwoken : (s.changePod .inService).pod = .inService := rfl
  unfold State.takeTag
  by_cases h : s.pod = .watch <;> cases parseTag payload <;> simp [h, hdecided, hwoken]

/-! ## The operations of the tanks and the ports -/

/-- R137: the water test ends issues. -/
theorem rests_waterTest (s : State) (t : TankId) (level : Nat) : Rests s (s.waterTest t level) := by
  unfold State.waterTest
  split
  · refine .trans (.of_frame (by simp)) (.foldl (fun u b => ?_) _ _)
    split
    · exact rests_endIssue ..
    · exact .refl u
  · exact .refl s

theorem rests_varianceTest (s : State) (t : TankId) (net : Int) : Rests s (s.varianceTest t net) := by
  have hset : ∀ (u : State) k, Rests u (u.setTank t k) := fun _ _ => .of_frame ⟨rfl, rfl⟩
  have hlog : ∀ (u : State) k, Rests u (u.log k) := fun _ _ => .of_frame (by simp)
  unfold State.varianceTest
  dsimp only
  split
  · split
    · split
      · exact ((hset ..).trans (hlog ..)).trans (hset ..)
      · exact (hset ..).trans (hlog ..)
    · exact hset ..
  · exact hset ..

theorem rests_censusTests (s : State) (r : CensusResult) : Rests s (s.censusTests r) := by
  unfold State.censusTests
  split
  · dsimp only
    split
    · exact (rests_waterTest ..).trans (rests_varianceTest ..)
    · exact rests_waterTest ..
  · exact .refl s

theorem rests_applyOwn (s : State) (t : TankId) (own : Bool) (net : Option Int) : Rests s (s.applyOwn t own net) := by
  unfold State.applyOwn State.completeDelivery State.recordPre
  refine .of_frame ?_
  repeat' split
  all_goals simp

/-- R122: the hand-off of a census result. -/
theorem rests_handOff (s : State) (c : CensusInFlight) (outcome : CensusOutcome) (reading : Option Reading) :
    Rests s (s.handOff c outcome reading) := by
  have hgauge : ∀ t failed, Rests s (s.gaugeStep t failed) := fun t failed => .of_frame (by simp [State.gaugeStep])
  have htaken : ∀ (u : State) r own, Rests u (u.takeResult r own) := fun u r own =>
    .trans (.trans (.of_frame ⟨rfl, rfl⟩ : Rests u (u.setTank r.tank _)) (rests_applyOwn ..)) (rests_censusTests ..)
  exact ((hgauge ..).trans (htaken ..)).trans (.of_frame ⟨rfl, rfl⟩)

theorem rests_ackFails (s : State) (c : CensusInFlight) (phase : AckPhase) : Rests s (s.ackFails c phase) := by
  have hdrive : Rests s (s.drive (ackErrorActs c.address phase)) := .of_frame ⟨rfl, rfl⟩
  unfold State.ackFails
  dsimp only
  split
  · exact hdrive.trans (.of_frame ⟨rfl, rfl⟩)
  · exact hdrive.trans (rests_handOff ..)

theorem setPort_pod (s : State) (p : PortId) (x : Port) : (s.setPort p x).pod = s.pod := by cases p <;> rfl

theorem frameEnds_pod (s : State) (p : PortId) (e : RxEnd) : (s.frameEnds p e).pod = s.pod := by
  unfold State.frameEnds State.placeFrame
  repeat' split
  all_goals simp [setPort_pod]

/-- R161: a character at a receiver. -/
theorem rests_receiveChar (p : PortId) (s : State) (c : RxChar) : Rests s (State.receiveChar p s c) := by
  refine .of_frame ⟨?_, receiveChar_bays ..⟩
  unfold State.receiveChar
  dsimp only
  split <;> simp [frameEnds_pod, setPort_pod]

/-- R162: a transmitter takes a frame, or sends its last character. -/
theorem rests_takeNext (s : State) (p : PortId) : Rests s (s.takeNext p) := by
  refine .of_calm (calm_takeNext ..) ?_
  unfold State.takeNext State.takeSlot
  repeat' split
  all_goals simp [setPort_pod]

theorem rests_lastCharacter (s : State) (p : PortId) : Rests s (s.lastCharacter p) := by
  refine .of_frame ⟨?_, lastCharacter_bays ..⟩
  unfold State.lastCharacter
  repeat' (first | split | dsimp only)
  all_goals simp [setPort_pod]

theorem rests_passFromTrunk (s : State) (f : Frame) : Rests s (s.passFromTrunk f) := by
  unfold State.passFromTrunk
  refine .of_frame ?_
  repeat' split
  all_goals simp

/-! ## The owners of requests -/

theorem rests_baySet (r : BaySetReq) (s : State) : Rests s (baySet r s).1 := by
  refine .of_calm (calm_baySet r s) ?_
  unfold baySet
  repeat' split
  all_goals rfl

theorem rests_bayStop (n : Nat) (s : State) : Rests s (bayStop n s).1 := by
  unfold bayStop
  split
  · exact .refl s
  · exact rests_endIssue ..

theorem rests_bayRelease (n : Nat) (s : State) : Rests s (bayRelease n s).1 := by
  refine .of_calm (calm_bayRelease n s) ?_
  unfold bayRelease
  repeat' split
  all_goals rfl

/-- R175: POD START puts the pod IN SERVICE. -/
theorem rests_podStart (r : Unit) (s : State) : Rests s (podStart r s).1 := by
  unfold podStart
  split
  · split
    · exact .refl s
    · exact .of_open (.inl rfl)
  · exact .refl s

/-- R176: POD SUSPEND suspends it, and a halt ends issues. -/
theorem rests_podSuspend (n : Nat) (s : State) : Rests s (podSuspend n s).1 := by
  unfold podSuspend
  split
  · exact .refl s
  · split
    · exact .refl s
    · have hpod : Rests s (if s.pod = .suspended then s else s.changePod .suspended) := by
        split
        · exact .refl s
        · exact .of_open (.inr rfl)
      dsimp only
      split
      · exact hpod.trans (.foldl (fun u b => rests_endIssue u .site b) _ _)
      · exact hpod

theorem rests_podResume (r : Unit) (s : State) : Rests s (podResume r s).1 := by
  unfold podResume
  split
  · exact .of_open (.inl rfl)
  · exact .refl s

/-- R171, R178: a request taken wakes a pod in WATCH. -/
theorem rests_taken (s : State) : Rests s s.taken := by
  have hpod := taken_pod s
  split at hpod
  · exact .of_open (.inl hpod)
  · exact .of_frame ⟨hpod, by simp⟩

/-! ## How a command ends -/

/-- What a command or a millisecond makes of a state, as far as the pod state, the activity of the bays and the watch delay
timer go. -/
inductive Ends (s : State) : State → Prop
  /-- It changes neither whether the watch delay timer runs nor a condition of it. -/
  | untimed {t : State} (rests : Rests s t) (power : t.powered = s.powered)
      (timer : t.watchTimer.isSome = s.watchTimer.isSome) (ready : t.watchReady = s.watchReady) : Ends s t
  /-- It ends as every event does (R121, R177). -/
  | settled {u : State} (rests : Rests s u) : Ends s u.settled
  /-- Main power is absent (R180). -/
  | dark {t : State} (rests : Rests s t) (power : t.powered = false) : Ends s t
  /-- A cold start (R180). -/
  | cold (straps : Byte) : Ends s (State.coldStart straps s)
  /-- A running watch delay timer puts the pod in WATCH (R177). -/
  | watch (power : s.powered = true) (runs : s.watchTimer.isSome = true) : Ends s s.enterWatch.settled

theorem Ends.refl (s : State) : Ends s s := .untimed (.refl s) rfl rfl rfl

/-- An event, whatever its occasion. -/
theorem event_ends {o : Bool} {e : State → State} {s t : State} (h : event o e s = .next t)
    (he : o = true → Rests s (e s)) : Ends s t := by
  rw [event_eq] at h
  cases h
  split
  · exact .settled (he ‹_›)
  · exact .refl s

/-- A request, whatever its fields. -/
theorem request_ends {α : Type} {kind : Byte} {parse : List Byte → Option α} {bad : State → ReplyFields}
    {serve : α → State → State × Reply} (hserve : ∀ a s, Rests s (serve a s).1) {s t : State}
    (h : request kind parse bad serve s = .next t) : Ends s t := by
  have hanswer : ∀ (f : Frame) (u : State) (r : Reply), Rests s.taken u → answered f u r = .next t → Ends s t := by
    intro f u r hu ha
    cases ha
    exact .settled ((rests_taken s).trans (hu.trans (.of_frame (by split <;> simp))))
  rcases request_cases kind parse bad serve s with h' | ⟨f, -, ⟨a, -, h'⟩ | ⟨-, h'⟩⟩
  · rw [h'] at h
    cases h
    exact .refl s
  · rw [h'] at h
    exact hanswer f _ _ (hserve ..) h
  · rw [h'] at h
    exact hanswer f _ _ (.refl _) h

/-- A request whose owner leaves the pod state and the bays. -/
theorem request_frame_ends {α : Type} {kind : Byte} {parse : List Byte → Option α} {bad : State → ReplyFields}
    {serve : α → State → State × Reply} (hserve : ∀ a s, (serve a s).1.pod = s.pod ∧ (serve a s).1.bays = s.bays)
    {s t : State} (h : request kind parse bad serve s = .next t) : Ends s t :=
  request_ends (fun a s => .of_frame (hserve a s)) h

/-! ## Starts and losses of power -/

theorem coldStart_ends {straps : Byte} {s t : State} (h : execColdStart straps s = .next t) : Ends s t := by
  unfold execColdStart at h
  rw [event_eq, coldStart_settled] at h
  cases h
  split
  · exact .cold straps
  · exact .refl s

/-- R99, R181: a warm start makes no bay active, and leaves the pod state but for WATCH. -/
theorem warmStart_ends {w : StartRun} {s t : State} (h : execWarmStart w s = .next t) : Ends s t := by
  have hwoken : ∀ u : State, Calm s u → u.pod = s.pod ∨ u.pod = .inService → Rests s u := by
    rintro u hu (hpod | hpod)
    · exact .of_calm hu hpod
    · exact .of_open (.inl hpod)
  unfold execWarmStart at h
  split at h
  · refine event_ends h fun _ => hwoken _
      ((calm_makeParts (fun _ hp => calm_warmPart _ hp) s).trans (calm_restartProbe _)) ?_
    have hpod : (s.warmStart w.straps).pod = if s.pod = .watch then .inService else s.pod := by rw [warmStart_frame]
    rw [hpod]
    split <;> simp
  · rename_i n _
    cases h
    split
    · have hparts : Calm s (s.makeParts ((warmParts w.straps).take n)) :=
        calm_makeParts (fun _ hp => calm_warmPart _ (List.mem_of_mem_take hp)) s
      obtain ⟨-, -, -, -, -, -, -, hpod⟩ := warmStartCut_keeps w.straps n s
      refine .dark (hwoken _ (hparts.trans (.of_frame ⟨rfl, rfl, rfl⟩)) ?_) rfl
      rw [hpod]
      split <;> simp
    · exact .refl s

theorem powerLoss_ends {s t : State} (h : execMainPowerLoss s = .next t ∨ execBackupSupplyLoss s = .next t) :
    Ends s t := by
  unfold execMainPowerLoss execBackupSupplyLoss at h
  rcases h with h | h <;> split at h <;> cases h
  · exact .dark (.of_frame ⟨rfl, rfl⟩) rfl
  · exact .refl s
  · exact .refl s
  · exact .dark (.of_frame ⟨rfl, rfl⟩) (Bool.eq_false_iff.2 ‹_›)

/-! ## Yard frames -/

/-- R59, R66, R178: a TAG is granted only where the pod is IN SERVICE, or wakes to it. -/
theorem tag_ends {s t : State} (h : exec .tag s = .next t) : Ends s t := by
  rcases tag_unmet_or_head h with rfl | ⟨f, b, hhead, hclass⟩
  · exact .refl t
  have hbays := tag_bays_or_grant h
  have hpod := takeTag_pod s.popYard b f.payload
  simp only [exec, execTag, hhead, hclass] at h
  rw [event_occurs _ _ rfl] at h
  cases h
  refine .settled ?_
  by_cases hopen : s.pod = .inService ∨ s.pod = .watch
  · refine .of_open (.inl (hpod.trans ?_))
    show (if s.pod = .watch then .inService else s.pod) = PodState.inService
    rcases hopen with h | h <;> simp [h]
  · refine .of_frame ⟨hpod.trans (if_neg fun h => hopen (.inr h)), ?_⟩
    rcases hbays with hbays | ⟨b, r, v, early, -⟩
    · simpa using hbays
    · exact absurd early.pod hopen

theorem tally_ends {s t : State} (h : execTally s = .next t) : Ends s t := by
  unfold execTally at h
  split at h
  · split at h
    · refine event_ends h fun _ => .trans (.of_frame ⟨rfl, rfl⟩ : Rests s s.popYard) ?_
      split
      · exact rests_takeTally ..
      · exact .refl _
    · cases h; exact .refl s
  · cases h; exact .refl s

theorem valveStatus_ends {s t : State} (h : execValveStatus s = .next t) : Ends s t := by
  unfold execValveStatus at h
  split at h
  · split at h
    · refine event_ends h fun _ => .trans (.of_frame ⟨rfl, rfl⟩ : Rests s s.popYard) ?_
      split
      · exact rests_takeValve ..
      · exact .refl _
    · cases h; exact .refl s
  · cases h; exact .refl s

theorem stationData_ends {s t : State} (h : execStationData s = .next t) : Ends s t := by
  unfold execStationData at h
  split at h
  · exact event_ends h fun _ => .of_frame (by split <;> simp)
  · cases h; exact .refl s

theorem passThrough_ends {p : PortId} {s t : State} (h : execPassThrough p s = .next t) : Ends s t := by
  unfold execPassThrough at h
  repeat' split at h
  · exact event_ends h fun _ => .of_frame (by simp)
  · cases h; exact .refl s
  · exact event_ends h fun _ => .trans (.of_frame ⟨rfl, rfl⟩ : Rests s s.popTrunk) (rests_passFromTrunk ..)
  · cases h; exact .refl s

theorem frameDrop_ends {p : PortId} {s t : State} (h : execFrameDrop p s = .next t) : Ends s t := by
  unfold execFrameDrop at h
  repeat' split at h
  · exact event_ends h fun _ => .of_frame ⟨rfl, rfl⟩
  · cases h; exact .refl s
  · exact event_ends h fun _ => .of_frame ⟨rfl, rfl⟩
  · cases h; exact .refl s

/-! ## Ports, timers and the probe bus -/

theorem frameReceive_ends {p : PortId} {cs : List RxChar} {s t : State} (h : execFrameReceive p cs s = .next t) :
    Ends s t :=
  event_ends h fun _ => .foldl (rests_receiveChar p) cs s

theorem startCharacter_ends {p : PortId} {e : Bool} {s t : State} (h : execStartCharacter p e s = .next t) : Ends s t :=
  event_ends h fun _ => rests_receiveChar ..

theorem gapTimeout_ends {p : PortId} {s t : State} (h : execCharacterGapTimeout p s = .next t) : Ends s t :=
  event_ends h fun _ => .of_frame
    ⟨(frameEnds_pod ..).trans (setPort_pod ..), (frameEnds_bays ..).trans (setPort_bays ..)⟩

theorem rateSettingApplied_ends {p : PortId} {s t : State} (h : execRateSettingApplied p s = .next t) : Ends s t :=
  event_ends h fun _ => by cases p <;> exact .of_frame ⟨rfl, rfl⟩

theorem transmitFrame_ends {p : PortId} {part : SendPart} {s t : State} (h : execTransmitFrame p part s = .next t) :
    Ends s t := by
  unfold execTransmitFrame at h
  cases part with
  | take => exact event_ends h fun _ => rests_takeNext ..
  | last => exact event_ends h fun _ => rests_lastCharacter ..

/-- R82: the no-flow and the gap timer expire at a bay whose valve stands open, which is active. -/
theorem openTimer_ends {b : BayId} {s t : State}
    (h : execNoFlowTimerExpiry b s = .next t ∨ execGapTimerExpiry b s = .next t) : Ends s t := by
  have hactive : ∀ st : BayState, st.valveOpen = true → st.active = true := fun st => by
    cases st <;> simp [BayState.valveOpen, BayState.active]
  have hclosing : ∀ c, (s.bay b).state.valveOpen = true → Rests s (s.setBay b ((s.bay b).toClosing c)) := fun c ho =>
    .of_calm (calm_setBay (.of_active (hactive _ ho) rfl)) rfl
  rcases h with h | h <;> refine event_ends h fun ho => hclosing _ ?_ <;>
    · simp only [Bool.and_eq_true] at ho
      obtain ⟨⟨-, hopen⟩, -⟩ := ho
      exact hopen

theorem armTimer_ends {b : BayId} {s t : State} (h : execArmTimerExpiry b s = .next t) : Ends s t :=
  event_ends h fun _ => rests_complete ..

theorem closeTimer_ends {b : BayId} {s t : State} (h : execCloseTimerExpiry b s = .next t) : Ends s t := by
  refine event_ends h fun _ => .of_calm (calm_setBay_complete _ ?_) (by simp [State.closeExpires])
  split <;> exact .of_eq rfl rfl

theorem drainTimer_ends {b : BayId} {s t : State} (h : execDrainTimerExpiry b s = .next t) : Ends s t :=
  event_ends h fun _ => .of_calm (calm_setBay (.of_inactive rfl)) rfl

theorem tankTimer_ends {k : TankId} {s t : State}
    (h : execSettleTimerExpiry k s = .next t ∨ execWindowTimerExpiry k s = .next t) : Ends s t := by
  rcases h with h | h
  · exact event_ends h fun _ => .of_frame ⟨rfl, rfl⟩
  · refine event_ends h fun _ => .of_frame ⟨?_, windowExpires_bays ..⟩
    unfold State.windowExpires
    split <;> rfl

theorem ackError_ends {phase : AckPhase} {s t : State} (h : execAckError phase s = .next t) : Ends s t := by
  unfold execAckError at h
  split at h
  · exact event_ends h fun _ => rests_ackFails ..
  · cases h; exact .refl s

theorem retryWait_ends {s t : State} (h : execRetryWaitExpiry s = .next t) : Ends s t := by
  unfold execRetryWaitExpiry at h
  split at h
  · exact event_ends h fun _ => .of_frame ⟨rfl, rfl⟩
  · cases h; exact .refl s

theorem censusTransaction_ends {d : ReadingBlock} {s t : State} (h : execCensusTransaction d s = .next t) : Ends s t := by
  unfold execCensusTransaction at h
  split at h
  · rename_i c _
    have hdrive : Rests s (s.drive (completionActs c.address)) := .of_frame ⟨rfl, rfl⟩
    exact event_ends h fun _ => hdrive.trans (rests_handOff ..)
  · cases h; exact .refl s

/-- R177: the watch delay timer expires while it runs. -/
theorem watchDelay_ends {s t : State} (h : execWatchDelayTimerExpiry s = .next t) : Ends s t := by
  unfold execWatchDelayTimerExpiry at h
  rw [event_eq] at h
  cases h
  split
  · rename_i ho
    simp only [Bool.and_eq_true, Timer.ranOut_iff] at ho
    obtain ⟨⟨power, -⟩, out⟩ := ho
    exact .watch power (by simp [out])
  · exact .refl s

/-! ## Time -/

theorem rests_elapse (s : State) (ms : Nat) : Rests s (s.elapse ms) := .of_calm (calm_elapse ..) rfl

/-- R77, R177: time that passes stops no timer and changes no condition of the watch delay timer. -/
theorem elapse_watch (s : State) (ms : Nat) :
    (s.elapse ms).watchTimer.isSome = s.watchTimer.isSome ∧ (s.elapse ms).watchReady = s.watchReady := by
  have hbay : ∀ b, (s.elapse ms).bay b = (s.bay b).elapse ms := fun b => by simp [State.elapse, State.bay]
  refine ⟨by simp [State.elapse, Timer.after], ?_⟩
  simp only [State.watchReady, hbay]
  simp [State.elapse, Bay.elapse, Tank.elapse, Tank.receiving, Probe.elapse, PerTank.map]

theorem idleStep_ends (s : State) : Ends s s.idleStep := by
  obtain ⟨timer, ready⟩ := elapse_watch s 1
  unfold State.idleStep
  dsimp only
  split
  · split
    · exact .untimed ((rests_elapse s 1).trans (.of_frame ⟨rfl, rfl⟩)) rfl timer ready
    · exact .untimed ((rests_elapse s 1).trans (.of_frame ⟨rfl, rfl⟩)) rfl timer ready
  · exact .refl s

/-! ## Every command -/

theorem exec_ends (c : Instr) {s t : State} (h : exec c s = .next t) : Ends s t := by
  cases c with
  | coldStart straps => exact coldStart_ends h
  | warmStart start => exact warmStart_ends h
  | mainPowerLoss => exact powerLoss_ends (.inl h)
  | podClockTick => exact event_ends h fun _ => (rests_elapse ..).trans (.of_frame ⟨rfl, rfl⟩)
  | frameReceive port chars => exact frameReceive_ends h
  | characterGapTimeout port => exact gapTimeout_ends h
  | rateSettingApplied port => exact rateSettingApplied_ends h
  | transmitFrame port part => exact transmitFrame_ends h
  | tag => exact tag_ends h
  | tally => exact tally_ends h
  | valveStatus => exact valveStatus_ends h
  | stationData => exact stationData_ends h
  | passThrough port => exact passThrough_ends h
  | frameDrop port => exact frameDrop_ends h
  | armTimerExpiry bay => exact armTimer_ends h
  | noFlowTimerExpiry bay => exact openTimer_ends (.inl h)
  | gapTimerExpiry bay => exact openTimer_ends (.inr h)
  | closeTimerExpiry bay => exact closeTimer_ends h
  | drainTimerExpiry bay => exact drainTimer_ends h
  | censusTimerExpiry => exact event_ends h fun _ => .of_frame ⟨rfl, rfl⟩
  | settleTimerExpiry tank => exact tankTimer_ends (.inl h)
  | windowTimerExpiry tank => exact tankTimer_ends (.inr h)
  | watchDelayTimerExpiry => exact watchDelay_ends h
  | retryWaitExpiry => exact retryWait_ends h
  | ackError phase => exact ackError_ends h
  | censusTransaction data => exact censusTransaction_ends h
  | fleetPut => exact request_frame_ends (fun r u => by unfold fleetPut; (repeat' split) <;> simp) h
  | fleetDelete => exact request_frame_ends (fun r u => by unfold fleetDelete; (repeat' split) <;> simp) h
  | classSet => exact request_frame_ends (fun r u => by unfold classSet; split <;> exact ⟨rfl, rfl⟩) h
  | baySet => exact request_ends rests_baySet h
  | tankSet => exact request_frame_ends (fun r u => by unfold tankSet; (repeat' split) <;> simp) h
  | strapSet =>
    exact request_frame_ends
      (fun r u => by unfold strapSet State.loadStrap; (repeat' (first | split | dsimp only)) <;> simp) h
  | podSet => exact request_frame_ends (fun r u => by simp [podSet, State.applyPodSettings]) h
  | podStart => exact request_ends rests_podStart h
  | podSuspend => exact request_ends rests_podSuspend h
  | podResume => exact request_ends rests_podResume h
  | podReset => exact request_frame_ends (fun _ _ => ⟨rfl, rfl⟩) h
  | timeSet => exact request_frame_ends (fun _ _ => ⟨rfl, rfl⟩) h
  | shiftRoll => exact request_frame_ends (fun _ _ => ⟨rfl, rfl⟩) h
  | bayStop => exact request_ends rests_bayStop h
  | bayRelease => exact request_ends rests_bayRelease h
  | serviceDone => exact request_frame_ends (fun r u => by unfold serviceDone; (repeat' split) <;> simp) h
  | tankClear => exact request_frame_ends (fun r u => by unfold tankClear; split <;> simp) h
  | stockSet => exact request_frame_ends (fun r u => by unfold stockSet State.setStock; (repeat' split) <;> simp) h
  | deliveryOpen => exact request_frame_ends (fun r u => by unfold deliveryOpen; (repeat' split) <;> simp) h
  | deliveryClose =>
    exact request_frame_ends (fun r u => by unfold deliveryClose State.closeDelivery; (repeat' split) <;> simp) h
  | deliveryAbort => exact request_frame_ends (fun r u => by unfold deliveryAbort; (repeat' split) <;> simp) h
  | censusNow => exact request_frame_ends (fun r u => by unfold censusNow; split <;> simp) h
  | journalLayout => exact request_frame_ends (fun r u => by unfold journalLayout; split <;> simp) h
  | journalRelease => exact request_frame_ends (fun r u => by unfold journalRelease; split <;> simp) h
  | linkClear => exact request_frame_ends (fun _ _ => ⟨rfl, rfl⟩) h
  | podStatus => exact request_frame_ends (fun _ _ => ⟨rfl, rfl⟩) h
  | bayStatus => exact request_frame_ends (fun r u => by unfold bayStatus; split <;> exact ⟨rfl, rfl⟩) h
  | tankStatus => exact request_frame_ends (fun r u => by unfold tankStatus; split <;> exact ⟨rfl, rfl⟩) h
  | fleetGet => exact request_frame_ends (fun _ _ => ⟨rfl, rfl⟩) h
  | fleetNext => exact request_frame_ends (fun _ _ => ⟨rfl, rfl⟩) h
  | journalRead => exact request_frame_ends (fun r u => by unfold journalRead; split <;> exact ⟨rfl, rfl⟩) h
  | linkStatus => exact request_frame_ends (fun _ _ => ⟨rfl, rfl⟩) h
  | backupSupplyLoss => exact powerLoss_ends (.inr h)
  | startCharacter port parityError => exact startCharacter_ends h

/-- Every step ends so, from the state with what is left of the queue. -/
theorem step_ends {s t : State} (h : step s = .next t) : ∃ rest, Ends { s with pending := rest } t := by
  unfold step at h
  split at h
  · exact ⟨_, exec_ends _ h⟩
  · cases h
    exact ⟨s.pending, idleStep_ends s⟩

/-! ## BLANK -/

/-- R174: the pod is BLANK after a cold start, or where it was BLANK and no bay has become active. -/
theorem Ends.blank {s t : State} (h : Ends s t) (hpod : t.pod = .blank) :
    (∃ straps, t = State.coldStart straps s) ∨
      s.pod = .blank ∧ ∀ b, (t.bay b).state.active = true → (s.bay b).state.active = true := by
  have hrests : ∀ u, Rests s u → u.pod = .blank →
      s.pod = .blank ∧ ∀ b, (u.bay b).state.active = true → (s.bay b).state.active = true := fun u hu hp =>
    ⟨(hu.pod (.inl hp)).symm.trans hp, hu.bays (.inl hp)⟩
  cases h with
  | untimed rests => exact .inr (hrests _ rests hpod)
  | @settled u rests =>
    simp only [settled_bay]
    exact .inr (hrests u rests (by simpa using hpod))
  | dark rests => exact .inr (hrests _ rests hpod)
  | cold straps => exact .inl ⟨straps, rfl⟩
  | watch =>
    have hwatch : s.enterWatch.pod = .watch := by rw [(enterWatch_eq s).1]
    simp [hwatch] at hpod

/-- R152: every entry keeps one reservation for each active bay, whatever room the rings have. -/
theorem entry_keeps_reserved {l m : Ledger} (h : Entry l m) (hl : l.journal.reservations = activeBays l.active) :
    m.journal.reservations = activeBays m.active := by
  cases h with
  | log t k =>
    obtain ⟨-, -, hreservations⟩ := Journal.logEvent_issues t k l.journal
    exact hreservations.trans hl
  | @reserve b idle room =>
    have hcount := activeBays_update l.active b true
    rw [idle, Bool.toNat_false, Bool.toNat_true, ← hl] at hcount
    exact hcount.symm
  | @write b active r =>
    have hcount := activeBays_update l.active b false
    rw [active, Bool.toNat_false, Bool.toNat_true, ← hl] at hcount
    show l.journal.reservations - 1 = activeBays (Function.update l.active b false)
    omega
  | release ring n => cases ring <;> exact hl
  | layout => exact hl
  | cold => rfl

theorem books_keeps_reserved {s t : State} (h : Books s t) (hs : s.journal.reservations = activeBays (ledger s).active) :
    t.journal.reservations = activeBays (ledger t).active :=
  h.head_induction_on
    (motive := fun l _ =>
      l.journal.reservations = activeBays l.active → t.journal.reservations = activeBays (ledger t).active)
    id (fun first _ ih hl => ih (entry_keeps_reserved first hl)) hs

theorem activeBays_none {s : State} (h : ∀ b, (s.bay b).state.active = false) : activeBays (ledger s).active = 0 := by
  simp [activeBays_eq, ledger, h]

/-- R174: a step keeps a BLANK pod without active bays and reservations. -/
theorem step_keeps_blankLaw {s t : State} (hs : BlankLaw s) (h : step s = .next t) : BlankLaw t := by
  intro hpod
  obtain ⟨rest, hends⟩ := step_ends h
  rcases hends.blank hpod with ⟨straps, rfl⟩ | ⟨hblank, hbays⟩
  · exact ⟨reset_inactive, rfl⟩
  · obtain ⟨hinactive, hnone⟩ := hs hblank
    have hstill : ∀ b, (t.bay b).state.active = false := fun b =>
      Bool.eq_false_iff.2 fun ha => Bool.eq_false_iff.1 (hinactive b) (hbays b ha)
    refine ⟨hstill, ?_⟩
    rw [books_keeps_reserved (step_books h) (hnone.trans (activeBays_none hinactive).symm), activeBays_none hstill]

/-! ## The watch delay timer and WATCH -/

/-- R177: what ends an event leaves the timer as its conditions have it. -/
theorem settled_watch (s : State) : s.settled.watchTimer.isSome = true ↔ s.settled.watchReady = true := by
  show (if s.startCensus.watchReady then some _ else none : Timer).isSome = true ↔ s.startCensus.watchReady = true
  cases s.startCensus.watchReady <;> simp

/-- R177: a command keeps the timer running exactly under its conditions. -/
theorem Ends.keeps_watchTimer {s t : State} (h : Ends s t)
    (hs : s.powered = true → (s.watchTimer.isSome = true ↔ s.watchReady = true)) (ht : t.powered = true) :
    t.watchTimer.isSome = true ↔ t.watchReady = true := by
  cases h with
  | untimed rests power timer ready =>
    rw [timer, ready]
    exact hs (power.symm.trans ht)
  | settled => exact settled_watch _
  | dark rests power => simp [power] at ht
  | cold straps =>
    rw [← coldStart_settled]
    exact settled_watch _
  | watch => exact settled_watch _

/-- R177: no bay is active where the watch delay timer may run. -/
theorem watchReady_inactive {s : State} (h : s.watchReady = true) (b : BayId) : (s.bay b).state.active = false := by
  obtain ⟨-, hbays, -⟩ := (watchReady_iff s).1 h
  obtain ⟨hstate, -⟩ := hbays b
  rcases hstate with h | h <;> rw [h] <;> rfl

/-- R177: a pod enters WATCH without active bays, and none becomes active there. -/
theorem Ends.keeps_watch {s t : State} (h : Ends s t) (hs : WatchLaw s) (hpod : t.pod = .watch) (b : BayId) :
    (t.bay b).state.active = false := by
  obtain ⟨htimer, hwatch⟩ := hs
  have hrests : ∀ u, Rests s u → u.pod = .watch → (u.bay b).state.active = false := fun u hu hp =>
    Bool.eq_false_iff.2 fun ha =>
      Bool.eq_false_iff.1 (hwatch ((hu.pod (.inr hp)).symm.trans hp) b) (hu.bays (.inr hp) b ha)
  cases h with
  | untimed rests => exact hrests _ rests hpod
  | @settled u rests =>
    rw [settled_bay]
    exact hrests u rests (by simpa using hpod)
  | dark rests => exact hrests _ rests hpod
  | cold => cases hpod
  | watch power runs =>
    have hbay : s.enterWatch.bay b = s.bay b := State.bay_congr (by rw [(enterWatch_eq s).1]) b
    rw [settled_bay, hbay]
    exact watchReady_inactive ((htimer power).1 runs) b

theorem Ends.keeps_watchLaw {s t : State} (h : Ends s t) (hs : WatchLaw s) : WatchLaw t := by
  have hwatch := h.keeps_watch hs
  obtain ⟨htimer, -⟩ := hs
  exact ⟨h.keeps_watchTimer htimer, hwatch⟩

/-- Settles O14: `Ends` says what a step can do to the pod state, the bays' activity and the watch delay timer; a BLANK pod
grants nothing, and WATCH is entered from a timer whose conditions hold (R174, R175, R177). -/
theorem podStatesKeepTheirConditions : Obligations.PodStatesKeepTheirConditions := by
  refine ⟨fun _ _ => step_keeps_blankLaw, fun s t hs h => ?_⟩
  obtain ⟨rest, hends⟩ := step_ends h
  exact hends.keeps_watchLaw hs

/-! ## The clock -/

/-- R172: the clock counts on, from its last value to 0. -/
theorem tickClock_eq (s : State) : s.tickClock =
    { s with clock := if s.clock = 4294967295 then 0 else (s.clock + 1) % 4294967296, subMs := 0 } := by
  rw [← nextSeq_wraps]
  rfl

/-- R172: TIME SET, its four bytes read. -/
theorem timeSet_answers {s : State} {f : Frame} {ref a b c d : Byte} (hf : s.requestAt 0x2B = some f)
    (hp : f.payload = [ref, a, b, c, d]) : exec .timeSet s =
      answered f (timeSet (beNat [a, b, c, d]) s.taken).1 (timeSet (beNat [a, b, c, d]) s.taken).2 :=
  request_served hf (by rw [hp]; exact parseOne_tag ..)

/-- Settles O20: the tick ends the second, TIME SET writes the clock of the state as taken, and an empty queue lets a
millisecond pass (R172). -/
theorem clockCountsSecondsAndIsSet : Obligations.ClockCountsSecondsAndIsSet := by
  refine ⟨fun s hpower => ?_, fun s f ref a b c d hf hp => ?_, fun s hidle => ?_⟩
  · have htick : exec .podClockTick s = .next s.clockTick.settled := event_occurs _ s hpower
    rw [htick, State.clockTick, tickClock_eq]
    rfl
  · have hstamp : s.taken.stamp = { time := s.clock, unset := !s.clockSet } := by simp [State.stamp]
    rw [timeSet_answers hf hp, timeSet, hstamp]
  · rw [step, hidle]
    rfl

end Sys2Proof.PodStates
end

section
/-! PROOFS of the statements on the queue of waiting commands (00, Events; log 28): a step runs the command at its front,
and no command faults, is refused or touches it. What the operations behind the commands leave of the queue is said first,
an operation at a time; then the forms a command takes; then every command. -/

namespace Sys2Proof.CommandQueue

open Sys2Proof Sys2Proof.Machine Sys2Proof.BaySequencing Sys2Proof.Censuses

/-- Settles O1: it is the case of `step` for a queue that is not empty (00, Events). -/
theorem stepRunsFrontCommand : Obligations.StepRunsFrontCommand := fun _ _ _ => rfl

/-! ## The operations of the bays -/

/-- Operations made one after another, none of which touches the queue. -/
theorem foldl_pending {α : Type} {f : State → α → State} (hf : ∀ s a, (f s a).pending = s.pending) (l : List α)
    (s : State) : (l.foldl f s).pending = s.pending := by
  induction l generalizing s with
  | nil => rfl
  | cons a l ih => exact (ih _).trans (hf s a)

@[simp] theorem faultIdle_pending (s : State) (b : BayId) (c : BayFaultCause) : (s.faultIdle b c).pending = s.pending := by
  simp [State.faultIdle]

@[simp] theorem closeExpires_pending (s : State) (b : BayId) : (s.closeExpires b).pending = s.pending := by
  simp [State.closeExpires]

/-- R92, R93: a tally at a bay that was not active. -/
theorem tallyInactive_pending (s : State) (b : BayId) (t : Tally) (taken : BayState) :
    (s.tallyInactive b t taken).pending = s.pending := by
  have hunaccounted : (s.unaccounted b).pending = s.pending := by
    unfold State.unaccounted
    dsimp only
    split <;> simp
  unfold State.tallyInactive
  dsimp only
  split <;> simp [hunaccounted]

/-- R79: a tally in GRANTED. -/
theorem tallyGranted_pending (s : State) (b : BayId) (t : Tally) : (s.tallyGranted b t).pending = s.pending := by
  unfold State.tallyGranted
  repeat' split
  all_goals simp

/-- R84: a tally in CLOSING. -/
theorem tallyClosing_pending (s : State) (b : BayId) (t : Tally) (sample : Option Nat) :
    (s.tallyClosing b t sample).pending = s.pending := by
  unfold State.tallyClosing
  dsimp only
  split <;> simp

/-- R108: a tally handed over, by the state it was taken in. -/
@[simp] theorem handTally_pending (s : State) (b : BayId) (t : Tally) (sample : Option Nat) (taken : BayState) :
    (s.handTally b t sample taken).pending = s.pending := by
  cases taken with
  | granted => exact tallyGranted_pending ..
  | flowing => exact State.setBay_pending ..
  | trimming => exact State.setBay_pending ..
  | closing => exact tallyClosing_pending ..
  | idle => exact tallyInactive_pending ..
  | draining => exact tallyInactive_pending ..
  | faulted => exact tallyInactive_pending ..
  | disabled => exact tallyInactive_pending ..

/-- R101: the work done for one tally. -/
@[simp] theorem takeTally_pending (s : State) (b : BayId) (t : Tally) : (s.takeTally b t).pending = s.pending := by
  simp [State.takeTally]

/-- R110: a valve report taken. -/
@[simp] theorem takeValve_pending (s : State) (b : BayId) (r : ReportedValve) : (s.takeValve b r).pending = s.pending := by
  unfold State.takeValve State.handValve
  repeat' split
  all_goals simp

/-! ## Authorisation -/

@[simp] theorem refuseTag_pending (s : State) (b : BayId) (tag : Nat) (c : RefusalCode) (wake : Bool) :
    (s.refuseTag b tag c wake).pending = s.pending := by
  unfold State.refuseTag
  dsimp only
  split <;> simp

@[simp] theorem hoursStep_pending (s : State) (v : Vehicle) (hours : Option Nat) :
    (s.hoursStep v hours).1.pending = s.pending := by
  simp [State.hoursStep]

@[simp] theorem grantAt_pending (s : State) (b : BayId) (v : Vehicle) (hours : Option Nat) (wake : Bool) :
    (s.grantAt b v hours wake).pending = s.pending := by
  simp [State.grantAt]

/-- R59: a TAG decided: refused, granted again, or granted once its hours are applied. -/
@[simp] theorem decideTag_pending (s : State) (b : BayId) (r : TagRead) (wake : Bool) :
    (s.decideTag b r wake).pending = s.pending := by
  unfold State.decideTag
  cases earlyChecks b r.tag s with
  | refuse c => exact refuseTag_pending ..
  | repeatGrant => simp [State.repeatGrant]
  | allow v =>
    dsimp only
    split <;> simp

/-- R163, R178: a TAG taken, the pod woken first. -/
@[simp] theorem takeTag_pending (s : State) (b : BayId) (payload : List Byte) :
    (s.takeTag b payload).pending = s.pending := by
  unfold State.takeTag
  cases parseTag payload with
  | some r => simp only [decideTag_pending]; split <;> simp
  | none => dsimp only; split <;> simp

/-! ## Censuses and tanks -/

/-- R137: the water test ends issues in bay order. -/
@[simp] theorem waterTest_pending (s : State) (t : TankId) (level : Nat) : (s.waterTest t level).pending = s.pending := by
  have hclosed : ∀ u : State, (u.closeForWater t).pending = u.pending :=
    foldl_pending (fun u b => by split <;> simp) bayList
  unfold State.waterTest
  split
  · simp [hclosed]
  · rfl

/-- An entry in a tank account, with its events. -/
@[simp] theorem entered_pending (s : State) (t : TankId) (k : Tank) (ks : List EventKind) :
    (entered s t k ks).pending = s.pending := rfl

@[simp] theorem varianceTest_pending (s : State) (t : TankId) (net : Int) : (s.varianceTest t net).pending = s.pending := by
  rw [varianceTest_eq, entered_pending]

@[simp] theorem applyOwn_pending (s : State) (t : TankId) (own : Bool) (net : Option Int) :
    (s.applyOwn t own net).pending = s.pending := by
  rw [applyOwn_eq, entered_pending]

/-- R135: the water test, and the variance test where the result qualifies. -/
@[simp] theorem censusTests_pending (s : State) (r : CensusResult) : (s.censusTests r).pending = s.pending := by
  unfold State.censusTests
  split
  · dsimp only
    split
    · exact (varianceTest_pending ..).trans (waterTest_pending ..)
    · exact waterTest_pending ..
  · rfl

/-- R122: the hand-off of a census result: the failure count, the tank account, the end of the census. -/
@[simp] theorem handOff_pending (s : State) (c : CensusInFlight) (outcome : CensusOutcome) (reading : Option Reading) :
    (s.handOff c outcome reading).pending = s.pending := by
  simp [State.handOff, State.takeResult, State.gaugeStep]

/-- R117: an ACK error, at the first attempt or at the retry. -/
@[simp] theorem ackFails_pending (s : State) (c : CensusInFlight) (phase : AckPhase) :
    (s.ackFails c phase).pending = s.pending := by
  unfold State.ackFails
  cases c.attempt <;> simp

@[simp] theorem closeDelivery_pending (s : State) (t : TankId) (d : Delivery) (expired : Bool) :
    (s.closeDelivery t d expired).pending = s.pending := by
  simp [State.closeDelivery]

@[simp] theorem windowExpires_pending (s : State) (t : TankId) : (s.windowExpires t).pending = s.pending := by
  unfold State.windowExpires
  split <;> simp

/-! ## Ports -/

@[simp] theorem setPort_pending (s : State) (p : PortId) (x : Port) : (s.setPort p x).pending = s.pending := by
  cases p <;> rfl

@[simp] theorem frameEnds_pending (s : State) (p : PortId) (e : RxEnd) : (s.frameEnds p e).pending = s.pending := by
  unfold State.frameEnds State.placeFrame
  repeat' split
  all_goals simp

@[simp] theorem receiveChar_pending (p : PortId) (s : State) (c : RxChar) :
    (State.receiveChar p s c).pending = s.pending := by
  unfold State.receiveChar
  dsimp only
  split <;> simp

/-- R95, R162: a free transmitter takes a slot's frame or its queue's. -/
@[simp] theorem takeNext_pending (s : State) (p : PortId) : (s.takeNext p).pending = s.pending := by
  unfold State.takeNext State.takeSlot
  repeat' split
  all_goals simp

@[simp] theorem lastCharacter_pending (s : State) (p : PortId) : (s.lastCharacter p).pending = s.pending := by
  unfold State.lastCharacter
  repeat' (first | split | dsimp only)
  all_goals simp

@[simp] theorem passFromTrunk_pending (s : State) (f : Frame) : (s.passFromTrunk f).pending = s.pending := by
  unfold State.passFromTrunk
  repeat' split
  all_goals simp

/-! ## The forms of a command -/

/-- log 28: what a command run on a state answers: a next state with the queue as it was. -/
def Answers (s : State) (o : Host.Outcome State Fault Refusal) : Prop := ∃ t, o = .next t ∧ t.pending = s.pending

/-- log 1: a command without its occasion. -/
theorem Answers.unmet (s : State) : Answers s (.next s) := ⟨s, rfl, rfl⟩

/-- An event, whatever its occasion: its end touches the queue as little as its effect. -/
theorem event_answers {o : Bool} {e : State → State} {s : State} (he : (e s).pending = s.pending) :
    Answers s (event o e s) := by
  refine ⟨_, event_eq o e s, ?_⟩
  split <;> simp [he]

/-- The end of a request whose owner leaves the queue: the reply joins the trunk transmit queue. -/
theorem answered_answers {s t : State} (f : Frame) (r : Reply) (ht : t.pending = s.pending) :
    Answers s (answered f t r) := by
  refine ⟨_, rfl, ?_⟩
  split <;> simp [ht]

/-- A request, absent, of a wrong length or served. -/
theorem request_answers {α : Type} {kind : Byte} {parse : List Byte → Option α} {bad : State → ReplyFields}
    {serve : α → State → State × Reply} (hserve : ∀ a s, (serve a s).1.pending = s.pending) (s : State) :
    Answers s (request kind parse bad serve s) := by
  have htaken : s.taken.pending = s.pending := by simp
  rcases request_cases kind parse bad serve s with h | ⟨f, -, ⟨a, -, h⟩ | ⟨-, h⟩⟩ <;> rw [h]
  · exact .unmet s
  · exact answered_answers f _ ((hserve ..).trans htaken)
  · exact answered_answers f _ htaken

/-! ## Starts and losses of power -/

/-- R181: a warm start, whole or cut off. -/
theorem warmStart_answers (w : StartRun) (s : State) : Answers s (execWarmStart w s) := by
  unfold execWarmStart
  split
  · refine event_answers ?_
    rw [warmStart_frame]
    rfl
  · refine ⟨_, rfl, ?_⟩
    split
    · obtain ⟨-, hpending, -⟩ := warmStartCut_keeps w.straps _ s
      exact hpending
    · rfl

theorem mainPowerLoss_answers (s : State) : Answers s (execMainPowerLoss s) := by
  unfold execMainPowerLoss
  split <;> exact ⟨_, rfl, rfl⟩

theorem backupSupplyLoss_answers (s : State) : Answers s (execBackupSupplyLoss s) := by
  unfold execBackupSupplyLoss
  split <;> exact ⟨_, rfl, rfl⟩

/-! ## Frames at the head of a receive queue -/

theorem tag_answers (s : State) : Answers s (execTag s) := by
  unfold execTag
  repeat' split
  · exact event_answers (by simp)
  all_goals exact .unmet s

theorem tally_answers (s : State) : Answers s (execTally s) := by
  unfold execTally
  split
  · split
    · exact event_answers (by split <;> simp)
    · exact .unmet s
  · exact .unmet s

theorem valveStatus_answers (s : State) : Answers s (execValveStatus s) := by
  unfold execValveStatus
  split
  · split
    · exact event_answers (by split <;> simp)
    · exact .unmet s
  · exact .unmet s

theorem stationData_answers (s : State) : Answers s (execStationData s) := by
  unfold execStationData
  split
  · exact event_answers (by split <;> simp)
  · exact .unmet s

theorem passThrough_answers (p : PortId) (s : State) : Answers s (execPassThrough p s) := by
  unfold execPassThrough
  repeat' split
  · exact event_answers (by simp)
  · exact .unmet s
  · exact event_answers (by simp)
  · exact .unmet s

theorem frameDrop_answers (p : PortId) (s : State) : Answers s (execFrameDrop p s) := by
  unfold execFrameDrop
  repeat' split
  · exact event_answers rfl
  · exact .unmet s
  · exact event_answers rfl
  · exact .unmet s

/-! ## Ports and timers -/

theorem frameReceive_answers (p : PortId) (cs : List RxChar) (s : State) : Answers s (execFrameReceive p cs s) :=
  event_answers (foldl_pending (receiveChar_pending p) cs s)

theorem startCharacter_answers (p : PortId) (e : Bool) (s : State) : Answers s (execStartCharacter p e s) :=
  event_answers (receiveChar_pending ..)

theorem characterGapTimeout_answers (p : PortId) (s : State) : Answers s (execCharacterGapTimeout p s) :=
  event_answers (by simp [State.gapTimeout])

theorem rateSettingApplied_answers (p : PortId) (s : State) : Answers s (execRateSettingApplied p s) :=
  event_answers (by cases p <;> rfl)

theorem transmitFrame_answers (p : PortId) (part : SendPart) (s : State) : Answers s (execTransmitFrame p part s) := by
  unfold execTransmitFrame
  cases part with
  | take => exact event_answers (takeNext_pending s p)
  | last => exact event_answers (lastCharacter_pending s p)

theorem armTimer_answers (b : BayId) (s : State) : Answers s (execArmTimerExpiry b s) := event_answers (by simp)

theorem noFlowTimer_answers (b : BayId) (s : State) : Answers s (execNoFlowTimerExpiry b s) := event_answers rfl

theorem gapTimer_answers (b : BayId) (s : State) : Answers s (execGapTimerExpiry b s) := event_answers rfl

theorem closeTimer_answers (b : BayId) (s : State) : Answers s (execCloseTimerExpiry b s) :=
  event_answers (closeExpires_pending s b)

theorem drainTimer_answers (b : BayId) (s : State) : Answers s (execDrainTimerExpiry b s) := event_answers rfl

theorem settleTimer_answers (t : TankId) (s : State) : Answers s (execSettleTimerExpiry t s) := event_answers rfl

theorem windowTimer_answers (t : TankId) (s : State) : Answers s (execWindowTimerExpiry t s) :=
  event_answers (windowExpires_pending s t)

theorem watchDelayTimer_answers (s : State) : Answers s (execWatchDelayTimerExpiry s) :=
  event_answers (by simp [State.enterWatch])

/-! ## The probe bus -/

theorem ackError_answers (phase : AckPhase) (s : State) : Answers s (execAckError phase s) := by
  unfold execAckError
  split
  · exact event_answers (ackFails_pending ..)
  · exact .unmet s

theorem retryWait_answers (s : State) : Answers s (execRetryWaitExpiry s) := by
  unfold execRetryWaitExpiry
  split
  · exact event_answers rfl
  · exact .unmet s

theorem censusTransaction_answers (d : ReadingBlock) (s : State) : Answers s (execCensusTransaction d s) := by
  unfold execCensusTransaction
  split
  · exact event_answers (by simp [State.censusCompletes])
  · exact .unmet s

/-! ## Owners of requests that go through several operations -/

theorem strapSet_pending (r : StrapSetReq) (s : State) : (strapSet r s).1.pending = s.pending := by
  unfold strapSet State.loadStrap
  repeat' (first | split | dsimp only)
  all_goals rfl

theorem podSet_pending (r : PodSetReq) (s : State) : (podSet r s).1.pending = s.pending := by
  simp [podSet, State.applyPodSettings]

/-- R176: POD SUSPEND, whose halt ends issues in bay order. -/
theorem podSuspend_pending (n : Nat) (s : State) : (podSuspend n s).1.pending = s.pending := by
  have hhalted : ∀ u : State, u.haltBays.pending = u.pending := foldl_pending (fun _ _ => by simp) bayList
  unfold podSuspend
  repeat' (first | split | dsimp only)
  all_goals simp [hhalted]

theorem stockSet_pending (r : Nat × Nat) (s : State) : (stockSet r s).1.pending = s.pending := by
  unfold stockSet State.setStock
  repeat' split
  all_goals simp

/-! ## Every command -/

theorem exec_answers (c : Instr) (s : State) : Answers s (exec c s) := by
  cases c with
  | coldStart straps => exact event_answers rfl
  | warmStart start => exact warmStart_answers start s
  | mainPowerLoss => exact mainPowerLoss_answers s
  | podClockTick => exact event_answers rfl
  | frameReceive port chars => exact frameReceive_answers port chars s
  | characterGapTimeout port => exact characterGapTimeout_answers port s
  | rateSettingApplied port => exact rateSettingApplied_answers port s
  | transmitFrame port part => exact transmitFrame_answers port part s
  | tag => exact tag_answers s
  | tally => exact tally_answers s
  | valveStatus => exact valveStatus_answers s
  | stationData => exact stationData_answers s
  | passThrough port => exact passThrough_answers port s
  | frameDrop port => exact frameDrop_answers port s
  | armTimerExpiry bay => exact armTimer_answers bay s
  | noFlowTimerExpiry bay => exact noFlowTimer_answers bay s
  | gapTimerExpiry bay => exact gapTimer_answers bay s
  | closeTimerExpiry bay => exact closeTimer_answers bay s
  | drainTimerExpiry bay => exact drainTimer_answers bay s
  | censusTimerExpiry => exact event_answers rfl
  | settleTimerExpiry tank => exact settleTimer_answers tank s
  | windowTimerExpiry tank => exact windowTimer_answers tank s
  | watchDelayTimerExpiry => exact watchDelayTimer_answers s
  | retryWaitExpiry => exact retryWait_answers s
  | ackError phase => exact ackError_answers phase s
  | censusTransaction data => exact censusTransaction_answers data s
  | fleetPut => exact request_answers (fun _ _ => by unfold fleetPut; (repeat' split) <;> rfl) s
  | fleetDelete => exact request_answers (fun _ _ => by unfold fleetDelete; (repeat' split) <;> rfl) s
  | classSet => exact request_answers (fun _ _ => by unfold classSet; split <;> rfl) s
  | baySet => exact request_answers (fun _ _ => by unfold baySet; (repeat' split) <;> rfl) s
  | tankSet => exact request_answers (fun _ _ => by unfold tankSet; (repeat' split) <;> simp) s
  | strapSet => exact request_answers strapSet_pending s
  | podSet => exact request_answers podSet_pending s
  | podStart => exact request_answers (fun _ _ => by unfold podStart; (repeat' split) <;> rfl) s
  | podSuspend => exact request_answers podSuspend_pending s
  | podResume => exact request_answers (fun _ _ => by unfold podResume; split <;> rfl) s
  | podReset => exact request_answers (fun _ _ => rfl) s
  | timeSet => exact request_answers (fun _ _ => rfl) s
  | shiftRoll => exact request_answers (fun _ _ => rfl) s
  | bayStop => exact request_answers (fun _ _ => by unfold bayStop; split <;> simp) s
  | bayRelease => exact request_answers (fun _ _ => by unfold bayRelease; (repeat' split) <;> rfl) s
  | serviceDone => exact request_answers (fun _ _ => by unfold serviceDone; (repeat' split) <;> rfl) s
  | tankClear => exact request_answers (fun _ _ => by unfold tankClear; split <;> rfl) s
  | stockSet => exact request_answers stockSet_pending s
  | deliveryOpen => exact request_answers (fun _ _ => by unfold deliveryOpen; (repeat' split) <;> rfl) s
  | deliveryClose => exact request_answers (fun _ _ => by unfold deliveryClose; (repeat' split) <;> rfl) s
  | deliveryAbort => exact request_answers (fun _ _ => by unfold deliveryAbort; (repeat' split) <;> rfl) s
  | censusNow => exact request_answers (fun _ _ => by unfold censusNow; split <;> rfl) s
  | journalLayout => exact request_answers (fun _ _ => by unfold journalLayout; split <;> rfl) s
  | journalRelease => exact request_answers (fun _ _ => by unfold journalRelease; split <;> rfl) s
  | linkClear => exact request_answers (fun _ _ => rfl) s
  | podStatus => exact request_answers (fun _ _ => rfl) s
  | bayStatus => exact request_answers (fun _ _ => by unfold bayStatus; split <;> rfl) s
  | tankStatus => exact request_answers (fun _ _ => by unfold tankStatus; split <;> rfl) s
  | fleetGet => exact request_answers (fun _ _ => rfl) s
  | fleetNext => exact request_answers (fun _ _ => rfl) s
  | journalRead => exact request_answers (fun _ _ => by unfold journalRead; split <;> rfl) s
  | linkStatus => exact request_answers (fun _ _ => rfl) s
  | backupSupplyLoss => exact backupSupplyLoss_answers s
  | startCharacter port parityError => exact startCharacter_answers port parityError s

/-- Settles O2: each command is an event, a request or a change of power, and none of these forms faults, is refused or
touches the queue. -/
theorem everyCommandAnswersAndKeepsTheQueue : Obligations.EveryCommandAnswersAndKeepsTheQueue := exec_answers

end Sys2Proof.CommandQueue
end

section
/-! PROOFS of the statements on the quantities of chapter 01: convergent rounding (R2), the correction factor (R6) and the
net increment (R7). -/

namespace Sys2Proof.Quantities

open Sys2Proof Sys2Proof.Machine

/-! ## Rounding -/

/-- The remainder the rounding goes by (R2). -/
theorem emod_eq_sub_ediv_mul (a d : Int) : a - a / d * d = a % d := by
  have := Int.emod_add_ediv_mul a d
  omega

/-- R2: rounding by the remainder: below a half down, above a half up, at a half to the even one of the two. -/
theorem convRound_cases (a d : Int) :
    (2 * (a % d) < d → convRound a d = a / d) ∧
    (d < 2 * (a % d) → convRound a d = a / d + 1) ∧
    (2 * (a % d) = d → a / d % 2 = 0 → convRound a d = a / d) ∧
    (2 * (a % d) = d → a / d % 2 = 1 → convRound a d = a / d + 1) := by
  unfold convRound
  dsimp only
  refine ⟨fun h => if_pos h, fun h => ?_, fun h he => ?_, fun h ho => ?_⟩
  · rw [if_neg (by omega), if_pos h]
  · rw [if_neg (by omega), if_neg (by omega), if_pos he]
  · rw [if_neg (by omega), if_neg (by omega), if_neg (by omega)]

/-- R2: the rounded quotient lies within half a divisor of the dividend. -/
theorem convRound_within {d : Int} (a : Int) (hd : 0 < d) : 2 * |a - convRound a d * d| ≤ d := by
  have hsplit := Int.emod_add_ediv_mul a d
  have hlow := Int.emod_nonneg a hd.ne'
  have hhigh := Int.emod_lt_of_pos a hd
  have hdist : 2 * (a % d) ≤ d ∧ convRound a d = a / d ∨ d ≤ 2 * (a % d) ∧ convRound a d = a / d + 1 := by
    obtain ⟨hbelow, habove, heven, hodd⟩ := convRound_cases a d
    rcases lt_trichotomy (2 * (a % d)) d with h | h | h
    · exact .inl ⟨h.le, hbelow h⟩
    · rcases Int.emod_two_eq (a / d) with he | ho
      · exact .inl ⟨h.le, heven h he⟩
      · exact .inr ⟨h.ge, hodd h ho⟩
    · exact .inr ⟨h.le, habove h⟩
  rcases hdist with ⟨hm, hq⟩ | ⟨hm, hq⟩ <;> rw [hq]
  · rw [show a - a / d * d = a % d by omega, abs_of_nonneg hlow]
    exact hm
  · rw [show a - (a / d + 1) * d = a % d - d by rw [add_mul]; omega, abs_of_nonpos (by omega)]
    omega

/-- A whole number within half a divisor of the dividend is as near to it as any (R2). -/
theorem nearest_of_within {a d q : Int} (hd : 0 < d) (h : 2 * |a - q * d| ≤ d) (z : Int) :
    |a - q * d| ≤ |a - z * d| := by
  by_cases hz : z = q
  · rw [hz]
  · have hgap : d ≤ |(z - q) * d| := by
      rw [abs_mul, abs_of_pos hd]
      exact le_mul_of_one_le_left hd.le (Int.one_le_abs (sub_ne_zero.mpr hz))
    have htriangle : |(z - q) * d| ≤ |a - q * d| + |a - z * d| := by
      rw [show (z - q) * d = (a - q * d) - (a - z * d) by ring]
      exact abs_sub _ _
    omega

/-- R2: at a half the result is even. -/
theorem convRound_half_even {a d : Int} (h : 2 * (a % d) = d) : convRound a d % 2 = 0 := by
  obtain ⟨-, -, heven, hodd⟩ := convRound_cases a d
  rcases Int.emod_two_eq (a / d) with he | ho
  · rw [heven h he, he]
  · rw [hodd h ho]
    omega

/-- R2: the rule is symmetric about zero. -/
theorem convRound_neg {d : Int} (a : Int) (hd : 0 < d) : convRound (-a) d = -convRound a d := by
  have hsplit := Int.emod_add_ediv_mul a d
  have hlow := Int.emod_nonneg a hd.ne'
  have hhigh := Int.emod_lt_of_pos a hd
  by_cases hm : a % d = 0
  · obtain ⟨hq, hr⟩ : -a / d = -(a / d) ∧ -a % d = 0 :=
      (Int.ediv_emod_unique hd).mpr ⟨by rw [mul_neg, mul_comm]; omega, le_rfl, hd⟩
    rw [(convRound_cases a d).1 (by omega), (convRound_cases (-a) d).1 (by omega), hq]
  · obtain ⟨hq, hr⟩ : -a / d = -(a / d) - 1 ∧ -a % d = d - a % d :=
      (Int.ediv_emod_unique hd).mpr ⟨by rw [mul_sub, mul_neg, mul_comm]; omega, by omega, by omega⟩
    obtain ⟨hbelow, habove, heven, hodd⟩ := convRound_cases a d
    obtain ⟨hbelow', habove', heven', hodd'⟩ := convRound_cases (-a) d
    rw [hq, hr] at hbelow' habove' heven' hodd'
    rcases lt_trichotomy (2 * (a % d)) d with h | h | h
    · rw [hbelow h, habove' (by omega)]
      ring
    · rcases Int.emod_two_eq (a / d) with he | ho
      · rw [heven h he, hodd' (by omega) (by omega)]
        ring
      · rw [hodd h ho, heven' (by omega) (by omega)]
        ring
    · rw [habove h, hbelow' (by omega)]
      ring

/-- Settles O15: convergent rounding gives the nearest whole number, and at a half the even one (R2). -/
theorem convergentRoundingIsNearestTiesToEven : Obligations.ConvergentRoundingIsNearestTiesToEven := by
  refine ⟨fun a d hd => ?_, by decide, by decide, by decide, by decide⟩
  rw [emod_eq_sub_ediv_mul]
  obtain ⟨hbelow, habove, heven, hodd⟩ := convRound_cases a d
  exact ⟨⟨Int.emod_nonneg a hd.ne', Int.le_sub_one_of_lt (Int.emod_lt_of_pos a hd)⟩, hbelow, habove, heven, hodd,
    nearest_of_within hd (convRound_within a hd), convRound_half_even, convRound_neg a hd⟩

/-! ## Compensation -/

/-- R5: a temperature in its range is not clamped. -/
theorem clampTemp_inside {t : Int} (h : tempLawful t) : clampTemp t = t := by
  unfold clampTemp
  rw [if_neg (not_lt.mpr h.1), if_neg (not_lt.mpr h.2)]

/-- R6: the correction factor of a lawful temperature keeps its bounds. -/
theorem correctionFactor_bounds {e : Nat} {t : Int} (he : e ≤ 2000) (ht : tempLawful t) :
    8500000 ≤ correctionFactor e t ∧ correctionFactor e t ≤ 10900000 := by
  obtain ⟨hlow, hhigh⟩ := ht
  unfold correctionFactor
  constructor <;> nlinarith

/-- R2: a rounded quotient of a dividend that is not negative is not negative. -/
theorem convRound_nonneg {a d : Int} (ha : 0 ≤ a) (hd : 0 < d) : 0 ≤ convRound a d := by
  have hwithin := convRound_within a hd
  by_contra hneg
  have hfar : d ≤ a - convRound a d * d := by nlinarith
  rw [abs_of_nonneg (by omega)] at hwithin
  omega

/-- R7: the net increment at a lawful temperature, as a whole number: the rounded product of gross and factor. -/
theorem netIncrement_cast {e : Nat} {t : Int} (g : Nat) (he : e ≤ 2000) (ht : tempLawful t) :
    (netIncrement g t e : Int) = convRound (g * correctionFactor e t) 10000000 := by
  unfold netIncrement compensate
  rw [clampTemp_inside ht, Int.toNat_of_nonneg]
  refine convRound_nonneg (mul_nonneg (Int.natCast_nonneg g) ?_) (by decide)
  have := (correctionFactor_bounds he ht).1
  omega

/-- R6, R7: at 15.0 degrees net is gross. -/
theorem netIncrement_at_reference (g e : Nat) : netIncrement g 150 e = g := by
  have hfactor : correctionFactor e (clampTemp 150) = 10000000 := by
    rw [clampTemp_inside ⟨by decide, by decide⟩]
    simp [correctionFactor]
  have hexact : (g : Int) * 10000000 % 10000000 = 0 := Int.mul_emod_left _ _
  unfold netIncrement compensate
  rw [hfactor, (convRound_cases _ _).1 (by omega), Int.mul_ediv_cancel _ (by decide), Int.toNat_natCast]

/-- Settles O16: the correction factor's bounds, and those of a net increment (R6, R7). -/
theorem correctionFactorAndNetAreBounded : Obligations.CorrectionFactorAndNetAreBounded := by
  intro e t g he hlow hhigh
  obtain ⟨hmin, hmax⟩ := correctionFactor_bounds he ⟨hlow, hhigh⟩
  have hwithin := convRound_within (g * correctionFactor e t) (d := 10000000) (by decide)
  rw [← netIncrement_cast g he ⟨hlow, hhigh⟩, abs_sub_comm] at hwithin
  have hleast : (g : Int) * 8500000 ≤ g * correctionFactor e t := mul_le_mul_of_nonneg_left hmin (Int.natCast_nonneg g)
  have hmost : (g : Int) * correctionFactor e t ≤ g * 10900000 := mul_le_mul_of_nonneg_left hmax (Int.natCast_nonneg g)
  have hhalf : |(netIncrement g t e : Int) * 10000000 - g * correctionFactor e t| ≤ 5000000 := by omega
  obtain ⟨hbelow, habove⟩ := abs_le.mp hhalf
  exact ⟨hmin, hmax, by simp [correctionFactor], netIncrement_at_reference g e, hwithin, by omega, by omega⟩

end Sys2Proof.Quantities
end

section
/-! PROOFS of the statement on the arm timer's expiry (R80): what the completion of a GRANTED bay leaves of the bay, of the
register and of the vehicle it charges. -/

namespace Sys2Proof.ArmTimeouts

open Sys2Proof Sys2Proof.Machine Sys2Proof.FleetRegister Sys2Proof.ServiceIntervals Sys2Proof.BaySequencing

/-- R80: the expiry of an arm timer that has run out is the completion with ARM TIMEOUT. -/
theorem armTimer_expires {s : State} {b : BayId} (hp : s.powered = true) (hg : (s.bay b).state = .granted)
    (ht : (s.bay b).armTimer = some 0) :
    exec (.armTimerExpiry b) s = .next (s.complete b .armTimeout).settled := by
  simp [exec, execArmTimerExpiry, event_eq, hp, hg, ht]

/-- R85, R87: a GRANTED bay whose flags name no fault, and whose closing flow is within its limit, ends IDLE with its
flags as they were. -/
theorem endedBay_granted {y : Bay} (c : CloseCause) (hg : y.state = .granted) (hf : y.flags.fault = none)
    (hclosing : y.closing ≤ y.settings.afterRunLimit * 1000000) :
    endedBay c y = { y with
      state := .idle, cause := some c, grossTotal := y.grossTotal.add y.gross, netTotal := y.netTotal.add y.net
      armTimer := none, noFlowTimer := none, gapTimer := none, closeTimer := none, drainTimer := none } := by
  have hflags : endFlags y = y.flags := by simp [endFlags, Nat.not_lt.mpr hclosing]
  simp [endedBay, hflags, hf, hg]

/-- R49, R86: what a completion leaves of the vehicle it charges: its fields in the register under its tag. -/
theorem charged_vehicle {s t : State} {b : BayId} {y : Bay} {c : CloseCause} {v : Vehicle}
    (h : IssueCompleted [] s t b y c) (hv : findTag y.serving.tag s.fleet = some v) (hl : v.lawful)
    (hf : (endFlags y).fault = none) :
    let net := (convRound y.net 10000).toNat
    ∃ w, findTag y.serving.tag t.fleet = some w ∧ w.armedAt = none ∧
      w.lastIssue = some { time := s.clock, unset := !s.clockSet } ∧
      w.counters = v.counters.map (Counter.lowered .fuel net) ∧
      (v.episodeBegins .fuel net → w.limpUsed = false) ∧
      (¬v.episodeBegins .fuel net → w.limpUsed = (v.limpUsed || (y.serving.limp && decide (100 ≤ net)))) ∧
      t.journal.events = (s.journalAfter (v.rises .fuel net)).events ∧
      w.allowance = v.allowance.map (fun a => { a with usedCl := min (a.usedCl + net) 999999999 }) := by
  intro net
  obtain ⟨-, -, -, -, -, hcharged, -, -⟩ := h
  obtain ⟨w, hfleet, hw, hlawful⟩ := hcharged v hv
  obtain ⟨hbegins, hcontinues, hevents, -⟩ := hlawful hl
  have htag : v.tag = y.serving.tag := (findTag_some hv).2
  have hwtag : w.tag = v.tag := by rw [hw]
  refine ⟨w, ?_, by rw [hw], by rw [hw], by rw [hw], hbegins, hcontinues, ?_, by rw [hw]⟩
  · rw [hfleet, ← htag, ← hwtag]
    exact findTag_setVehicle (htag ▸ hv) hwtag
  · change (endFlags y).fault = none at hf
    unfold endFlags at hf
    simpa [hf] using hevents

/-- R40: what is left of the counters of a record that is lowered. -/
theorem lowered_remaining (cs : List Counter) (n : Nat) :
    (cs.map (Counter.lowered .fuel n)).map (fun c : Counter => c.remaining) = cs.map (fun c : Counter =>
      if c.basis = .fuel then max (c.remaining - (n : Int)) (-99999999) else c.remaining) := by
  rw [List.map_map]
  refine List.map_congr_left fun c _ => ?_
  by_cases hb : c.basis = .fuel <;> simp [Counter.lowered, hb]

/-- Settles O39: the expiry of an arm timer that has run out completes the issue with ARM TIMEOUT (R80). -/
theorem armTimeoutCompletesTheIssue : Obligations.ArmTimeoutCompletesTheIssue := by
  intro s b g hp hg ht hcopy hf hclosing hrecords net
  have hserving : (s.bay b).serving = g := by simp [Bay.serving, hcopy]
  have hcompleted : IssueCompleted [] s (s.complete b .armTimeout) b (s.bay b) .armTimeout :=
    s.complete_completed b .armTimeout (by decide)
  have hflags : endFlags (s.bay b) = (s.bay b).flags := by simp [endFlags, Nat.not_lt.mpr hclosing]
  obtain ⟨htags, -, -, hrest⟩ := complete_charged .armTimeout s b
  have hcharged := fun v => charged_vehicle (v := v) hcompleted
  obtain ⟨hspeed, -, hvalve, hafter⟩ := (fault_none_iff _).mp hf
  obtain ⟨-, hothers, hreservations, hissues, -, -, hprobe, hyard⟩ := hcompleted
  rw [hserving] at hrest hcharged hissues hprobe hyard
  refine ⟨s.complete b .armTimeout, armTimer_expires hp hg ht, ?_, hothers, hreservations, ?_, htags, hrest,
    fun v hv => ?_, hprobe, hyard, ?_⟩
  · rw [complete_ended (by decide) rfl, endedBay_granted _ hg hf hclosing]
  · simpa [hspeed, hvalve, hafter, Nat.not_lt.mpr hclosing] using hissues
  · obtain ⟨w, hw, harmed, hissue, hcounters, hbegins, hcontinues, hevents, hallowance⟩ :=
      hcharged v hv (hrecords v (findTag_some hv).1) (by rw [hflags, hf])
    exact ⟨w, hw, harmed, hissue, by rw [hcounters, lowered_remaining], hbegins, hcontinues, hevents, hallowance⟩
  · refine (complete_changes s b .armTimeout).trans ?_
    congr 1
    exact (congrArg State.probe (complete_changes s b .armTimeout)).symm

end Sys2Proof.ArmTimeouts
end

section
/-! PROOFS of the statements on tallies (06): what a tally comes to and what it takes from the book; the five tests of a
bay whose valve is open; what the Sequencer leaves of a metered bay, in an issue and outside one. -/

namespace Sys2Proof.FlowTallies

open Sys2Proof Sys2Proof.Machine Sys2Proof.FleetRegister Sys2Proof.ServiceIntervals Sys2Proof.BaySequencing

/-! ## What a tally comes to -/

/-- R4, R5: the temperature a tally is metered at. -/
theorem meter_temp (y : Bay) (k : Tank) (tl : Tally) : (meter y k tl).temp = tempUsed y k.lastGoodTemp tl := by
  unfold meter tempSource tempUsed
  cases tl.temp with
  | some x => rfl
  | none =>
    cases (if y.state.active then y.heldTemp else none) with
    | some x => rfl
    | none => cases k.lastGoodTemp <;> rfl

/-- R5: it lies in its range, where the held and the census temperature do. -/
theorem tempUsed_lawful {y : Bay} {lastGood : Option Int} (tl : Tally) (hheld : ∀ x, y.heldTemp = some x → tempLawful x)
    (hgood : ∀ x, lastGood = some x → tempLawful x) : tempLawful (tempUsed y lastGood tl) := by
  unfold tempUsed
  cases tl.temp with
  | some x => exact clampTemp_lawful x
  | none =>
    cases hh : (if y.state.active then y.heldTemp else none) with
    | some x =>
      refine hheld x ?_
      split at hh
      · exact hh
      · cases hh
    | none =>
      cases lastGood with
      | some x => exact hgood x rfl
      | none => exact ⟨by decide, by decide⟩

/-- R6, R7: the net increment, at a temperature in its range. -/
theorem meter_net {y : Bay} {k : Tank} {tl : Tally} (h : tempLawful (tempUsed y k.lastGoodTemp tl)) :
    (meter y k tl).net = (convRound ((tl.pulses * y.settings.meterFactor : Nat) *
      (10000000 - k.settings.expansion * (tempUsed y k.lastGoodTemp tl - 150))) 10000000).toNat := by
  show netIncrement _ (meter y k tl).temp _ = _
  unfold netIncrement compensate
  rw [meter_temp, Quantities.clampTemp_inside h]
  rfl

/-! ## The book -/

/-- R107, R134: a tank debited by a net increment. -/
def debited (k : Tank) (n : Nat) : Tank :=
  if n = 0 then k
  else { k with book := clampBook (k.book - n), standing := formStanding k.settings (clampBook (k.book - n)) }

/-- R107: a debit in full: the tank debited, and a change of standing logged. -/
theorem debit_entered (s : State) (t : TankId) (n : Nat) : s.debit t n = { s with
    tanks := s.tanks.set t (debited (s.tank t) n), journal := s.journalAfter (standingEvents t (s.tank t) n) } := by
  unfold State.debit debited standingEvents
  by_cases hn : n = 0
  · simp only [hn, if_true, ne_eq, not_true_eq_false, false_and, if_false]
    exact (Censuses.entered_self s t).symm
  · simp only [hn, if_false, ne_eq, not_false_eq_true, true_and, Censuses.reformStanding_eq]
    simp [Censuses.entered, Censuses.standingEvents, State.addToBook, Censuses.perTank_set_set, State.journalAfter,
      State.stamp, ← sub_eq_add_neg]

/-- R101: a tally metered and debited. -/
def accounted (s : State) (b : BayId) (tl : Tally) : State :=
  let k := s.tank (s.bay b).settings.tank
  metered s b tl (s.tanks.set (s.bay b).settings.tank (debited k (meter (s.bay b) k tl).net))

/-- R101, R108: a tally is taken, metered, debited and handed to the Sequencer. -/
theorem tally_accounted {s : State} {b : BayId} {tl : Tally} (h : TallyAt s b tl) :
    exec .tally s = .next ((accounted s b tl).handTally b tl
      (meter (s.bay b) (s.tank (s.bay b).settings.tank) tl).sample (s.bay b).state).settled := by
  obtain ⟨f, hf, hclass, hparse⟩ := h
  let m := meter (s.bay b) (s.tank (s.bay b).settings.tank) tl
  have htaken : s.popYard.takeTally b tl = (accounted s b tl).handTally b tl m.sample (s.bay b).state :=
    congrArg (State.handTally · b tl m.sample (s.bay b).state)
      (debit_entered (s.popYard.setBay b ((s.bay b).addTally m tl.pulses)) (s.bay b).settings.tank m.net)
  simp [exec, execTally, hf, hclass, event_eq, hparse, htaken, m]

/-! ## Tallies in FLOWING and TRIMMING -/

/-- R12: the remaining volume, and the lead volume it is held against, as whole numbers. -/
theorem leads_iff (y : Bay) : y.remaining ≤ leadVolume y.flow y.settings.closeLead ↔
    (y.serving.limit : Int) * 1000000 - y.net ≤ y.flow * y.settings.closeLead := by
  simp [Bay.remaining, remainingVolume, leadVolume]

/-- R81: the first test, the meter's status. -/
theorem tallyFlowing_faulty {t : Tally} {y : Bay} (sample : Option Nat) (h : t.status = .faulty) :
    tallyFlowing t sample y = y.setMeter.toClosing .meterFault := by
  simp [tallyFlowing, h]

/-- R81: the second test, the sample against max flow. -/
theorem tallyFlowing_fast {t : Tally} {y : Bay} {sample : Option Nat} (hok : t.status = .ok)
    (h : overspeed y sample = true) : tallyFlowing t sample y = y.setOverspeed.toClosing .overspeed := by
  simp [tallyFlowing, hok, h]

/-- R81: the third test, the limit with its lead volume. -/
theorem tallyFlowing_limit {t : Tally} {y : Bay} {sample : Option Nat} (hok : t.status = .ok)
    (hslow : overspeed y sample = false) (h : (y.serving.limit : Int) * 1000000 - y.net ≤ y.flow * y.settings.closeLead) :
    tallyFlowing t sample y = y.toClosing .limit := by
  simp [tallyFlowing, hok, hslow, (leads_iff y).mpr h]

/-- R81: the fourth test, the slow band, in FLOWING only. -/
theorem tallyFlowing_band {t : Tally} {y : Bay} {sample : Option Nat} (hok : t.status = .ok)
    (hslow : overspeed y sample = false) (hfar : (y.flow * y.settings.closeLead : Int) < y.serving.limit * 1000000 - y.net)
    (hs : y.state = .flowing) (hband : 0 < y.settings.slowBand)
    (h : (y.serving.limit : Int) * 1000000 - y.net ≤ y.settings.slowBand * 1000000) :
    tallyFlowing t sample y = y.toTrimming.restartFlowTimers t.pulses := by
  have hlead : ¬y.remaining ≤ leadVolume y.flow y.settings.closeLead := mt (leads_iff y).mp (not_le.mpr hfar)
  simp [tallyFlowing, hok, hslow, hlead, hs, hband, show y.remaining ≤ y.settings.slowBand * 1000000 from h]

/-- R81: outside the slow band the fifth test, the nozzle, decides. -/
theorem tallyFlowing_nozzle {t : Tally} {y : Bay} {sample : Option Nat} (hok : t.status = .ok)
    (hslow : overspeed y sample = false) (hfar : (y.flow * y.settings.closeLead : Int) < y.serving.limit * 1000000 - y.net)
    (h : y.state = .trimming ∨ y.settings.slowBand = 0 ∨
      (y.settings.slowBand * 1000000 : Int) < y.serving.limit * 1000000 - y.net) :
    tallyFlowing t sample y =
      if t.nozzle = .stowed then y.toClosing .nozzle else y.restartFlowTimers t.pulses := by
  have hlead : ¬y.remaining ≤ leadVolume y.flow y.settings.closeLead := mt (leads_iff y).mp (not_le.mpr hfar)
  have hband : ¬(y.state = .flowing ∧ 0 < y.settings.slowBand ∧ y.remaining ≤ y.settings.slowBand * 1000000) := by
    rintro ⟨hs, hpos, hnear⟩
    rcases h with h | h | h
    · exact absurd (hs.symm.trans h) (by decide)
    · omega
    · exact absurd (show (y.serving.limit : Int) * 1000000 - y.net ≤ _ from hnear) (not_le.mpr h)
  simp only [tallyFlowing, hok, hslow, if_neg hlead, if_neg hband]
  simp

/-- R108: a tally taken with the valve open is put to the five tests. -/
theorem handTally_open (s : State) (b : BayId) (tl : Tally) (sample : Option Nat) {st : BayState}
    (h : st = .flowing ∨ st = .trimming) :
    s.handTally b tl sample st = s.setBay b (tallyFlowing tl sample (s.bay b)) := by
  rcases h with rfl | rfl <;> rfl

/-- Settles O31: a tally in FLOWING or TRIMMING takes the five tests in order (R81). -/
theorem tallyInFlowTakesTheFiveTests : Obligations.TallyInFlowTakesTheFiveTests := by
  intro s b tl hat hopen m y fast rem
  obtain ⟨tanks, -, hexec⟩ := tally_taken hat
  rw [handTally_open _ _ _ _ hopen, metered_bay] at hexec
  have hfast : overspeed y m.sample = true ↔ fast := overspeed_iff _ y _ tl
  have hslow (h : ¬fast) : overspeed y m.sample = false := Bool.eq_false_iff.mpr (mt hfast.mp h)
  have hbay := (metered s b tl tanks).bay_setBay_same b (tallyFlowing tl m.sample y)
  refine ⟨_, hexec, (metered_issues s b tl tanks).1, rfl, fun hf => ?_, fun hok hf => ?_, fun hok hn hl => ?_,
    fun hok hn hl hs hb hr => ?_, fun hok hn hl hr => ⟨fun hz => ?_, fun hz => ?_⟩⟩
  · exact hbay.trans (tallyFlowing_faulty m.sample hf)
  · exact hbay.trans (tallyFlowing_fast hok (hfast.mpr hf))
  · exact hbay.trans (tallyFlowing_limit hok (hslow hn) hl)
  · have hband := hbay.trans (tallyFlowing_band hok (hslow hn) hl hs hb hr)
    rw [hband]
    exact ⟨rfl, rfl, rfl, rfl⟩
  · exact hbay.trans ((tallyFlowing_nozzle hok (hslow hn) hl hr).trans (if_pos hz))
  · exact hbay.trans ((tallyFlowing_nozzle hok (hslow hn) hl hr).trans (if_neg (by rw [hz]; decide)))

/-! ## What the Sequencer leaves of a metered bay -/

/-- What a tally is metered into, with what no Sequencer changes of a bay. -/
structure Account where
  gross : Nat
  net : Nat
  sumTG : Int
  sumG : Nat
  heldTemp : Option Int
  tallyCount : Nat
  unassigned : Nat
  uncompensated : Bool
  tempClamped : Bool
  saturated : Bool
  settings : BaySettings
  grant : Option GrantCopy
  reported : Option ReportedValve

/-- The account a bay keeps. -/
def account (y : Bay) : Account :=
  { gross := y.gross, net := y.net, sumTG := y.sumTG, sumG := y.sumG, heldTemp := y.heldTemp, tallyCount := y.tallyCount
    unassigned := y.unassigned, uncompensated := y.flags.uncompensated, tempClamped := y.flags.tempClamped
    saturated := y.flags.saturated, settings := y.settings, grant := y.grant, reported := y.reported }

/-- What the Sequencer makes of a bay with a tally metered: the account stays, the closing accumulator of a CLOSING bay
stays, and the flow estimate stays unless the bay opens (R79, R81, R84). -/
structure Handed (opens : Prop) (y z : Bay) : Prop where
  account : account z = account y
  closing : y.state = .closing → z.closing = y.closing
  flow : ¬opens → z.flow = y.flow ∧ z.seeded = y.seeded

/-- R81: the five tests. -/
theorem handed_tallyFlowing (opens : Prop) (tl : Tally) (sample : Option Nat) {y : Bay} (h : y.state ≠ .closing) :
    Handed opens y (tallyFlowing tl sample y) := by
  refine ⟨?_, fun hs => absurd hs h, fun _ => ?_⟩ <;> unfold tallyFlowing
  · (repeat' split) <;> rfl
  · (repeat' split) <;> exact ⟨rfl, rfl⟩

/-- R84: the flags a tally in CLOSING sets. -/
theorem handed_closingTally (opens : Prop) (tl : Tally) (sample : Option Nat) (y : Bay) :
    Handed opens y (y.closingTally tl sample) := by
  rw [closingTally_eq]
  exact ⟨rfl, fun _ => rfl, fun _ => ⟨rfl, rfl⟩⟩

/-- R85, R86: a completion. -/
theorem handed_complete (opens : Prop) (s : State) (b : BayId) (c : CloseCause) :
    Handed opens (s.bay b) ((s.complete b c).bay b) := by
  rw [State.complete_bay_same]
  have hended : ∀ z : Bay, Handed opens z (z.ended c) := fun z => ⟨rfl, fun _ => rfl, fun _ => ⟨rfl, rfl⟩⟩
  have hmoved : ∀ z : Bay, account (z.movedOn c) = account z ∧ (z.movedOn c).closing = z.closing ∧
      (z.movedOn c).flow = z.flow ∧ (z.movedOn c).seeded = z.seeded := fun z => by
    unfold Bay.movedOn Bay.toDraining
    (repeat' split) <;> exact ⟨rfl, rfl, rfl, rfl⟩
  obtain ⟨haccount, hclosing, hflow, hseeded⟩ := hmoved ((s.bay b).ended c)
  exact ⟨haccount.trans (hended _).account, fun hs => hclosing.trans ((hended _).closing hs),
    fun ho => ⟨hflow.trans ((hended _).flow ho).1, hseeded.trans ((hended _).flow ho).2⟩⟩

/-- Whether a tally completes the issue of the bay it is taken at (R80, R84). -/
def Completes (tl : Tally) (y : Bay) : Prop :=
  (y.state = .granted ∧ tl.status = .faulty) ∨ (y.state = .closing ∧ tl.pulses = 0 ∧ y.shutSeen = true)

/-- Whether a tally opens the bay's valve (R79). -/
def Opens (tl : Tally) (y : Bay) : Prop := y.state = .granted ∧ tl.status = .ok ∧ tl.nozzle = .lifted

/-- R108: an active bay's tally handed to the Sequencer: the bay changes, and where the tally completes the issue, the
completion follows. -/
theorem handTally_active {u : State} {b : BayId} (tl : Tally) (sample : Option Nat)
    (h : (u.bay b).state.active = true) : ∃ z, Handed (Opens tl (u.bay b)) (u.bay b) z ∧
      ((¬Completes tl (u.bay b) ∧ u.handTally b tl sample (u.bay b).state = u.setBay b z) ∨
        (Completes tl (u.bay b) ∧ z.state = (u.bay b).state ∧
          ∃ c, u.handTally b tl sample (u.bay b).state = (u.setBay b z).complete b c)) := by
  generalize hy : u.bay b = y at h ⊢
  have hself : u = u.setBay b y := by rw [← hy, setBay_self]
  cases hs : y.state with
  | granted =>
    rw [handTally_granted, hy]
    cases hstatus : tl.status with
    | faulty => exact ⟨y.setMeter, ⟨rfl, fun _ => rfl, fun _ => ⟨rfl, rfl⟩⟩, .inr ⟨.inl ⟨hs, hstatus⟩, hs, _, if_pos rfl⟩⟩
    | ok =>
      have hstays : ¬Completes tl y := by simp [Completes, hs, hstatus]
      cases hnozzle : tl.nozzle with
      | lifted =>
        exact ⟨y.toFlowing, ⟨rfl, by simp [hs], fun ho => absurd ⟨hs, hstatus, hnozzle⟩ ho⟩, .inl ⟨hstays, by simp⟩⟩
      | stowed => exact ⟨y, ⟨rfl, fun _ => rfl, fun _ => ⟨rfl, rfl⟩⟩, .inl ⟨hstays, by simpa using hself⟩⟩
  | flowing =>
    refine ⟨_, handed_tallyFlowing _ tl sample (by simp [hs]), .inl ⟨by simp [Completes, hs], ?_⟩⟩
    rw [handTally_open _ _ _ _ (.inl rfl), hy]
  | trimming =>
    refine ⟨_, handed_tallyFlowing _ tl sample (by simp [hs]), .inl ⟨by simp [Completes, hs], ?_⟩⟩
    rw [handTally_open _ _ _ _ (.inr rfl), hy]
  | closing =>
    have hshut : (y.closingTally tl sample).shutSeen = y.shutSeen := by rw [closingTally_eq]
    have hstate : (y.closingTally tl sample).state = y.state := by rw [closingTally_eq]
    refine ⟨_, handed_closingTally _ tl sample y, ?_⟩
    rw [handTally_closing, hy, hshut]
    by_cases hends : tl.pulses = 0 ∧ y.shutSeen = true
    · exact .inr ⟨.inr ⟨hs, hends⟩, hstate.trans hs, _, if_pos hends⟩
    · exact .inl ⟨by simpa [Completes, hs] using hends, if_neg hends⟩
  | disabled | idle | draining | faulted => simp [hs, BayState.active] at h

/-! ## Tallies outside an issue -/

/-- R92, R93: a bay that is not active once a tally has been handed over. -/
def afterInactive (tl : Tally) (y : Bay) : Bay :=
  let z : Bay := { y with unassigned := if 2000000 < y.unassigned then 0 else y.unassigned }
  if (y.state = .idle ∨ y.state = .draining) ∧ (2000000 < y.unassigned ∨ tl.status = .faulty) then z.toFaulted else z

/-- What such a tally leaves of the bay, and the unassigned accumulator after it. -/
theorem afterInactive_keeps (tl : Tally) (y : Bay) :
    let z := afterInactive tl y
    z.gross = y.gross ∧ z.net = y.net ∧ z.tallyCount = y.tallyCount ∧ (z.flow = y.flow ∧ z.seeded = y.seeded) ∧
      z.settings = y.settings ∧ z.reported = y.reported ∧
      z.unassigned = if 2000000 < y.unassigned then 0 else y.unassigned := by
  unfold afterInactive
  dsimp only
  split <;> exact ⟨rfl, rfl, rfl, ⟨rfl, rfl⟩, rfl, rfl, rfl⟩

/-- R92, R93: the events of such a tally. -/
def inactiveEvents (b : BayId) (tl : Tally) (y : Bay) : List EventKind :=
  (if 2000000 < y.unassigned then [.unaccountedFlow b (clOf y.unassigned)] else []) ++
    (if (y.state = .idle ∨ y.state = .draining) ∧ tl.status = .faulty then [.bayFault b .meterFault] else [])

/-- R92, R93: a tally handed over at a bay that is not active. -/
theorem tallyInactive_eq (u : State) (b : BayId) (tl : Tally) : u.tallyInactive b tl (u.bay b).state =
    { u with bays := u.bays.set b (afterInactive tl (u.bay b)), journal := u.journalAfter (inactiveEvents b tl (u.bay b)) } := by
  unfold State.tallyInactive State.unaccounted afterInactive inactiveEvents
  generalize hy : u.bay b = y
  have hself : u.setBay b y = u := by rw [← hy, setBay_self]
  dsimp only
  by_cases hover : Config.unassignedLimit < y.unassigned
  · have hover' : 2000000 < y.unassigned := hover
    by_cases hrest : y.state = .idle ∨ y.state = .draining
    · by_cases hf : tl.status = .faulty
      · simp [hover, hrest, hf, State.faultIdle, setBay_setBay]
        rfl
      · simp [hover, hrest, hf]
        rfl
    · simp [hover, hrest]
      rfl
  · have hover' : ¬2000000 < y.unassigned := hover
    by_cases hrest : (y.state = .idle ∨ y.state = .draining) ∧ tl.status = .faulty
    · simp [hover, hrest, State.faultIdle, hy]
      rfl
    · simp only [hover, hrest, and_comm (a := tl.status = .faulty), if_false, false_or]
      exact hself.symm

/-! ## A tally taken -/

theorem Handed.trans {opens : Prop} {x y z : Bay} (h1 : Handed opens x y) (hs : y.state = x.state) (h2 : Handed opens y z) :
    Handed opens x z :=
  ⟨h2.account.trans h1.account, fun h => (h2.closing (hs.trans h)).trans (h1.closing h),
    fun h => ⟨(h2.flow h).1.trans (h1.flow h).1, (h2.flow h).2.trans (h1.flow h).2⟩⟩

/-- The frame of a tally: no other bay, the tank debited and no other, and nothing beside what an issue's end changes. -/
structure Framed (s t : State) (b : BayId) (tl : Tally) : Prop where
  tanks : t.tanks = (accounted s b tl).tanks
  others : ∀ c, c ≠ b → t.bay c = s.bay c
  changes : t = { s with
    bays := t.bays, tanks := t.tanks, fleet := t.fleet, journal := t.journal
    probe := { s.probe with tanks := t.probe.tanks }, yard := { s.yard with rx := s.yard.rx.tail, tx := t.yard.tx } }

/-- A tally that completes no issue leaves what completions change. -/
structure Untouched (s t : State) : Prop where
  fleet : t.fleet = s.fleet
  probe : t.probe = s.probe
  yard : t.yard.tx = s.yard.tx
  issues : t.journal.issues = s.journal.issues
  reservations : t.journal.reservations = s.journal.reservations

/-- What a tally at a bay logs of its debit (R107, R134). -/
def debitEvents (s : State) (b : BayId) (tl : Tally) : List EventKind :=
  let k := s.tank (s.bay b).settings.tank
  standingEvents (s.bay b).settings.tank k (meter (s.bay b) k tl).net

/-- The bay with the tally metered (R102). -/
def meteredBay (s : State) (b : BayId) (tl : Tally) : Bay :=
  (s.bay b).addTally (meter (s.bay b) (s.tank (s.bay b).settings.tank) tl) tl.pulses

@[simp] theorem accounted_bay (s : State) (b : BayId) (tl : Tally) : (accounted s b tl).bay b = meteredBay s b tl :=
  metered_bay s b tl _

@[simp] theorem meteredBay_state (s : State) (b : BayId) (tl : Tally) : (meteredBay s b tl).state = (s.bay b).state := by
  obtain ⟨-, -, hstate⟩ := addTally_frame (meter (s.bay b) (s.tank (s.bay b).settings.tank) tl) tl.pulses (s.bay b)
  exact hstate

/-- A bay changed once the tally is metered keeps the frame. -/
theorem framed_setBay (s : State) (b : BayId) (tl : Tally) (z : Bay) : Framed s ((accounted s b tl).setBay b z) b tl :=
  ⟨rfl, fun c hc => (State.bay_setBay_other _ b c z hc).trans (metered_bay_other s tl _ hc), rfl⟩

/-- So does a completion after that change. -/
theorem framed_complete (s : State) (b : BayId) (tl : Tally) (z : Bay) (c : CloseCause) :
    Framed s (((accounted s b tl).setBay b z).complete b c) b tl := by
  have hchanges := complete_changes ((accounted s b tl).setBay b z) b c
  have htanks : (((accounted s b tl).setBay b z).complete b c).tanks = (accounted s b tl).tanks := by simp
  refine ⟨htanks, fun k hk => ?_, hchanges.trans (by rw [htanks]; rfl)⟩
  exact (State.complete_bay_other _ b k c hk).trans ((framed_setBay s b tl z).others k hk)

theorem untouched_setBay (s : State) (b : BayId) (tl : Tally) (z : Bay) :
    Untouched s ((accounted s b tl).setBay b z) := by
  obtain ⟨hissues, hreservations⟩ := metered_issues s b tl (accounted s b tl).tanks
  exact ⟨rfl, rfl, rfl, hissues, hreservations⟩

/-- R101, R108: a tally at an active bay. -/
theorem tally_active {s : State} {b : BayId} {tl : Tally} (hat : TallyAt s b tl) (h : (s.bay b).state.active = true) :
    ∃ (t : State) (ks : List EventKind), exec .tally s = .next t.settled ∧ Framed s t b tl ∧
      Handed (Opens tl (s.bay b)) (meteredBay s b tl) (t.bay b) ∧
      t.journal.events = (s.journalAfter (debitEvents s b tl ++ ks)).events ∧
      t.journal.overwrites = (s.journalAfter (debitEvents s b tl ++ ks)).overwrites ∧
      (¬Completes tl (s.bay b) → ks = [] ∧ Untouched s t) ∧
      ∀ e ∈ ks, (∃ c st, e = .service (s.bay b).serving.tag c st) ∨ ∃ q, e = .bayFault b q := by
  have hexec := tally_accounted hat
  obtain ⟨-, hshut, -⟩ := addTally_keeps (meter (s.bay b) (s.tank (s.bay b).settings.tank) tl) tl.pulses (s.bay b)
  have hcompletes : Completes tl (meteredBay s b tl) ↔ Completes tl (s.bay b) := by
    unfold Completes
    rw [meteredBay_state, show (meteredBay s b tl).shutSeen = _ from hshut]
  have hopens : Opens tl (meteredBay s b tl) ↔ Opens tl (s.bay b) := by
    unfold Opens
    rw [meteredBay_state]
  obtain ⟨z, hz, hout⟩ := handTally_active (u := accounted s b tl) (b := b) tl
    (meter (s.bay b) (s.tank (s.bay b).settings.tank) tl).sample (by simpa using h)
  rw [accounted_bay, hcompletes, meteredBay_state] at hout
  rw [accounted_bay, propext hopens] at hz
  have hset := State.bay_setBay_same (accounted s b tl) b z
  rcases hout with ⟨hstays, hout⟩ | ⟨hends, hstate, c, hout⟩ <;> rw [hout] at hexec
  · refine ⟨_, [], hexec, framed_setBay s b tl z, hset.symm ▸ hz, ?_, ?_, fun _ => ⟨rfl, untouched_setBay s b tl z⟩, nofun⟩
    · rw [List.append_nil]; rfl
    · rw [List.append_nil]; rfl
  · obtain ⟨ks, hevents, hoverwrites, hkinds⟩ := complete_logs c ((accounted s b tl).setBay b z) b
    obtain ⟨hevents', hoverwrites'⟩ := journalAfter_from (s := s) (u := (accounted s b tl).setBay b z)
      (ks := debitEvents s b tl) ks rfl rfl rfl (s.journalAfter_issues _).2.1
    have hdone := handed_complete (Opens tl (s.bay b)) ((accounted s b tl).setBay b z) b c
    rw [hset] at hdone hkinds
    have hserving : z.serving = (s.bay b).serving := by
      obtain ⟨-, hgrant, -⟩ := addTally_frame (meter (s.bay b) (s.tank (s.bay b).settings.tank) tl) tl.pulses (s.bay b)
      exact congrArg (·.getD GrantCopy.blank) ((congrArg Account.grant hz.account).trans hgrant)
    refine ⟨_, ks, hexec, framed_complete s b tl z c, hz.trans (hstate.trans (meteredBay_state s b tl).symm) hdone,
      hevents.trans hevents', hoverwrites.trans hoverwrites', fun hn => absurd hends hn, fun e he => ?_⟩
    rw [hserving] at hkinds
    exact (hkinds e he).imp_right fun ⟨_, hq⟩ => hq

/-- R92, R93, R101: a tally at a bay that is not active. -/
theorem tally_inactive {s : State} {b : BayId} {tl : Tally} (hat : TallyAt s b tl) (h : (s.bay b).state.active = false) :
    ∃ t : State, exec .tally s = .next t.settled ∧ Framed s t b tl ∧ Untouched s t ∧
      t.bay b = afterInactive tl (meteredBay s b tl) ∧
      t.journal = s.journalAfter (debitEvents s b tl ++ inactiveEvents b tl (meteredBay s b tl)) := by
  have hexec := tally_accounted hat
  have hhand : (accounted s b tl).handTally b tl (meter (s.bay b) (s.tank (s.bay b).settings.tank) tl).sample
      (s.bay b).state = (accounted s b tl).tallyInactive b tl (s.bay b).state := by
    cases hs : (s.bay b).state <;> first | rfl | simp [hs, BayState.active] at h
  have heq := tallyInactive_eq (accounted s b tl) b tl
  rw [accounted_bay, meteredBay_state] at heq
  rw [hhand, heq] at hexec
  have hframed := framed_setBay s b tl (afterInactive tl (meteredBay s b tl))
  obtain ⟨hfleet, hprobe, hyard, hissues, hreservations⟩ := untouched_setBay s b tl (afterInactive tl (meteredBay s b tl))
  obtain ⟨hissues', -, hreservations'⟩ := (accounted s b tl).journalAfter_issues (inactiveEvents b tl (meteredBay s b tl))
  refine ⟨_, hexec, ⟨rfl, hframed.others, rfl⟩, ⟨rfl, rfl, rfl, hissues'.trans hissues, hreservations'.trans hreservations⟩,
    State.bay_setBay_same (accounted s b tl) b _, ?_⟩
  rw [State.journalAfter_append]
  rfl

/-! ## What an issue tally adds -/

/-- R4, R104: the flags an issue tally sets, and the temperature held after it. -/
theorem addIssueTally_flags {y : Bay} (k : Tank) (tl : Tally) (h : y.state.active = true) :
    let m := meter y k tl
    let z := y.addIssueTally m tl.pulses
    (z.flags.uncompensated = true ↔
      y.flags.uncompensated = true ∨ (tl.temp = none ∧ y.heldTemp = none ∧ k.lastGoodTemp = none)) ∧
    (z.flags.tempClamped = true ↔ y.flags.tempClamped = true ∨ ∃ c, tl.temp = some c ∧ (c < -300 ∨ 900 < c)) ∧
    (z.flags.saturated = true ↔
      y.flags.saturated = true ∨ 1099511627775 ≤ y.gross + m.gross ∨ 1099511627775 ≤ y.net + m.net) ∧
    z.heldTemp = if tl.temp = none then y.heldTemp else some m.temp := by
  have hsource : (meter y k tl).source = tempSource true y.heldTemp k.lastGoodTemp tl.temp := by rw [← h]; rfl
  intro m z
  simp only [z, Bay.addIssueTally, meterFlags, m, hsource, accFull, Bool.or_eq_true, decide_eq_true_eq, or_assoc]
  cases tl.temp with
  | some c => simp [tempSource, tempOutside]
  | none => cases y.heldTemp <;> cases k.lastGoodTemp <;> simp [tempSource]

/-- R9, R10: the flow estimate after a tally with the valve open. -/
theorem advanceFlow_cases (r : Nat) (seeded : Bool) (pulses g interval : Nat) :
    let sample := (convRound (g : Int) interval).toNat
    let f := advanceFlow r seeded pulses (flowSample g interval)
    (interval = 0 → f = (r, seeded)) ∧
    (interval ≠ 0 → seeded = true → f = ((convRound (3 * r + sample : Nat) 4).toNat, true)) ∧
    (interval ≠ 0 → seeded = false → 0 < pulses → f = (sample, true)) ∧
    (interval ≠ 0 → seeded = false → pulses = 0 → f = (r, false)) := by
  refine ⟨fun h => ?_, fun h hs => ?_, fun h hs hp => ?_, fun h hs hp => ?_⟩
  · simp [flowSample, h, advanceFlow]
  · simp [flowSample, h, advanceFlow, hs, smoothFlow]
  · simp [flowSample, h, advanceFlow, hs, hp]
  · simp [flowSample, h, advanceFlow, hs, hp]

/-- R102: the bay with an issue tally metered. -/
theorem meteredBay_active {s : State} {b : BayId} (tl : Tally) (h : (s.bay b).state.active = true) : meteredBay s b tl =
    (s.bay b).addIssueTally (meter (s.bay b) (s.tank (s.bay b).settings.tank) tl) tl.pulses := if_pos h

/-- R92, R102: the bay with a tally outside an issue metered. -/
theorem meteredBay_inactive {s : State} {b : BayId} (tl : Tally) (h : (s.bay b).state.active = false) : meteredBay s b tl =
    { s.bay b with
      unassigned := (s.bay b).unassigned + (meter (s.bay b) (s.tank (s.bay b).settings.tank) tl).net } := by
  simp [meteredBay, Bay.addTally, h]

/-- R10: the flow estimate of a bay with a tally metered: advanced where the valve is open, and else as it was. -/
theorem meteredBay_flow (s : State) (b : BayId) (tl : Tally) :
    ((meteredBay s b tl).flow, (meteredBay s b tl).seeded) =
      if (s.bay b).state.valveOpen then advanceFlow (s.bay b).flow (s.bay b).seeded tl.pulses
        (flowSample (tl.pulses * (s.bay b).settings.meterFactor) tl.interval)
      else ((s.bay b).flow, (s.bay b).seeded) := by
  cases hs : (s.bay b).state.active with
  | true =>
    rw [meteredBay_active tl hs]
    rfl
  | false =>
    have hshut : (s.bay b).state.valveOpen = false := by
      cases h : (s.bay b).state <;> first | rfl | simp [h, BayState.active] at hs
    rw [meteredBay_inactive tl hs, hshut]
    rfl

theorem otherTank_get (p : PerTank Tank) (t : TankId) (k : Tank) : (p.set t k).get (otherTank t) = p.get (otherTank t) := by
  cases t <;> rfl

/-- R107: the tank debited by a tally, and the other. -/
theorem Framed.tank {s t : State} {b : BayId} {tl : Tally} (h : Framed s t b tl) :
    t.tank (s.bay b).settings.tank = debited (s.tank (s.bay b).settings.tank)
      (meter (s.bay b) (s.tank (s.bay b).settings.tank) tl).net ∧
    t.tank (otherTank (s.bay b).settings.tank) = s.tank (otherTank (s.bay b).settings.tank) := by
  unfold State.tank
  rw [h.tanks]
  exact ⟨PerTank.get_set_same .., otherTank_get ..⟩

/-- Settles O29: a tally is metered by the state it is taken in and debited from the tank's book (R101, R102, R107). -/
theorem tallyIsMeteredAndDebited : Obligations.TallyIsMeteredAndDebited := by
  intro s b tl hat hlaw y k g x n rise sample sum standing faulted completes
  have htemp : tempLawful x := by
    obtain ⟨-, -, -, -, -, -, hheld, -⟩ := hlaw.1 b
    exact tempUsed_lawful tl hheld (hlaw.2 y.settings.tank)
  have hnet : (meter y k tl).net = n := meter_net htemp
  have hx : (meter y k tl).temp = x := meter_temp y k tl
  have hdebits : debitEvents s b tl =
      if n ≠ 0 ∧ standing ≠ k.standing then [.stockStanding y.settings.tank standing] else [] := by
    show standingEvents _ k (meter y k tl).net = _
    rw [hnet]
    rfl
  have hflow := meteredBay_flow s b tl
  have hdebited : debited k (meter y k tl).net = if n = 0 then k
      else { k with book := clampBook (k.book - n), standing := standing } := by rw [hnet]; rfl
  cases hs : y.state.active with
  | true =>
    obtain ⟨t, ks, hexec, hframed, ⟨haccount, hclosing, hkept⟩, hevents, hoverwrites, hstays, hkinds⟩ := tally_active hat hs
    obtain ⟨htank, hother⟩ := hframed.tank
    obtain ⟨hassumed, hclamped, hsaturated, hheld⟩ := addIssueTally_flags k tl hs
    rw [meteredBay_active tl hs] at haccount hclosing
    have hsumTG : (t.bay b).sumTG = y.sumTG + (meter y k tl).temp * rise := congrArg Account.sumTG haccount
    have hnetSum : (t.bay b).net = min (y.net + (meter y k tl).net) 1099511627775 := congrArg Account.net haccount
    refine ⟨t, hexec, congrArg Account.gross haccount, hnet ▸ hnetSum, congrArg Account.tallyCount haccount, fun hc => ?_,
      fun _ => ⟨congrArg Account.unassigned haccount, hx ▸ hsumTG, congrArg Account.sumG haccount, ?_, ?_, ?_, ?_⟩,
      fun ho => ?_, fun hf ht ho => ?_, nofun, fun _ => ⟨ks, hdebits ▸ hevents, hdebits ▸ hoverwrites, fun hn => (hstays hn).1, hkinds⟩,
      htank.trans hdebited, hother, hframed.others, congrArg Account.settings haccount, congrArg Account.reported haccount,
      fun hn => ?_, hframed.changes⟩
    · exact hnet ▸ (hclosing hc).trans (if_pos hc)
    · exact (congrArg Account.heldTemp haccount).trans (hx ▸ hheld)
    · exact (Bool.eq_iff_iff.mp (congrArg Account.uncompensated haccount)).trans hassumed
    · exact (Bool.eq_iff_iff.mp (congrArg Account.tempClamped haccount)).trans hclamped
    · exact (Bool.eq_iff_iff.mp (congrArg Account.saturated haccount)).trans (hnet ▸ hsaturated)
    · have hvalve : y.state.valveOpen = true := by rcases ho with h | h <;> rw [h] <;> rfl
      have hshut : ¬Opens tl y := fun h => by rcases ho with h' | h' <;> simp [h.1] at h'
      rw [if_pos hvalve] at hflow
      obtain ⟨hnone, hseeded, hfirst, hquiet⟩ := advanceFlow_cases y.flow y.seeded tl.pulses g tl.interval
      have hpair : ((t.bay b).flow, (t.bay b).seeded) = advanceFlow y.flow y.seeded tl.pulses (flowSample g tl.interval) := by
        rw [← hflow, (hkept hshut).1, (hkept hshut).2]
      rw [← hpair] at hnone hseeded hfirst hquiet
      exact ⟨fun h => Prod.mk.inj (hnone h), fun h h1 => Prod.mk.inj (hseeded h h1),
        fun h h1 h2 => Prod.mk.inj (hfirst h h1 h2), fun h h1 h2 => Prod.mk.inj (hquiet h h1 h2)⟩
    · have hvalve : y.state.valveOpen = false := by
        cases h : y.state <;> first | rfl | exact absurd h hf | exact absurd h ht
      rw [if_neg (by rw [hvalve]; decide)] at hflow
      obtain ⟨hkeptFlow, hkeptSeeded⟩ := hkept ho
      exact ⟨hkeptFlow.trans (Prod.mk.inj hflow).1, hkeptSeeded.trans (Prod.mk.inj hflow).2⟩
    · obtain ⟨-, hfleet, hprobe, hyard, hissues, hres⟩ := hstays hn
      exact ⟨hfleet, hprobe, hyard, hissues, hres⟩
  | false =>
    obtain ⟨t, hexec, hframed, ⟨hfleet, hprobe, hyard, hissues, hres⟩, hbay, hjournal⟩ := tally_inactive hat hs
    obtain ⟨htank, hother⟩ := hframed.tank
    have hmetered : meteredBay s b tl = { y with unassigned := sum } := by
      rw [meteredBay_inactive tl hs, hnet]
    rw [hmetered] at hbay hjournal
    rw [hdebits] at hjournal
    have hidle : ∀ st : BayState, st.active = true → y.state ≠ st := fun st hst h => by rw [h, hst] at hs; cases hs
    obtain ⟨hgross, hnetSum, hcount, hestimate, hsettings, hreported, hsum⟩ :=
      afterInactive_keeps tl ({ y with unassigned := sum } : Bay)
    rw [← hbay] at hgross hnetSum hcount hestimate hsettings hreported hsum
    refine ⟨t, hexec, hgross, hnetSum, hcount, fun hc => absurd hc (hidle _ rfl), nofun,
      fun ho => ho.elim (fun h => absurd h (hidle _ rfl)) fun h => absurd h (hidle _ rfl), fun _ _ _ => hestimate,
      fun _ => ⟨hsum, fun hf => hbay.trans (if_pos hf), fun hf => hbay.trans (if_neg hf), ?_⟩, nofun,
      htank.trans hdebited, hother, hframed.others, hsettings, hreported,
      fun _ => ⟨hfleet, hprobe, hyard, hissues, hres⟩, hframed.changes⟩
    rw [hjournal, List.append_assoc]
    rfl

end Sys2Proof.FlowTallies
end

section
/-! PROOFS of the statements on accumulators (R13, R15, R16, R92) and tank accounts (R17, R125, R130, R134, R136): every
step keeps their ranges. What one bay and one tank must keep is said apart; an operation keeps both laws when it keeps
each bay's and each tank's part, and only a metered tally reads the one for the other. -/

namespace Sys2Proof.Ledgers

open Sys2Proof Sys2Proof.Machine Sys2Proof.FleetRegister Sys2Proof.ServiceIntervals Sys2Proof.Authorising
  Sys2Proof.BaySequencing Sys2Proof.Censuses Sys2Proof.FlowTallies

/-! ## One tank, and the parts of a state -/

/-- The ranges of one tank's account and table. -/
def Sound (k : Tank) : Prop := k.lawful ∧ k.strapping.lawful

/-- R5: the range of the temperature a tank's censuses leave for tallies. -/
def Warm (k : Tank) : Prop := ∀ x, k.lastGoodTemp = some x → tempLawful x

/-- What is made of one tank keeps its ranges. -/
structure TankKept (k l : Tank) : Prop where
  sound : Sound k → Sound l
  warm : Warm k → Warm l

theorem TankKept.refl (k : Tank) : TankKept k k := ⟨id, id⟩

theorem TankKept.trans {k l m : Tank} (h1 : TankKept k l) (h2 : TankKept l m) : TankKept k m :=
  ⟨fun h => h2.sound (h1.sound h), fun h => h2.warm (h1.warm h)⟩

/-- R134: a book within its bounds, with the standing it gives, under the same settings. -/
theorem tankKept_booked (k : Tank) {b : Int} (hb : -Config.bookMax ≤ b ∧ b ≤ Config.bookMax) (d : Option Delivery)
    (known : Bool) : TankKept k
      { k with book := b, delivery := d, stockSet := known, standing := formStanding k.settings b } :=
  ⟨fun ⟨⟨hsettings, _, _, _, hstrikes⟩, hstrapping⟩ => ⟨⟨hsettings, hb.1, hb.2, rfl, hstrikes⟩, hstrapping⟩, id⟩

/-- An operation that keeps the ranges of each bay and of each tank by itself. -/
structure Even (s t : State) : Prop where
  bays : ∀ b, (s.bay b).accumulatorsLawful → (t.bay b).accumulatorsLawful
  tanks : ∀ k, TankKept (s.tank k) (t.tank k)

/-- An operation that keeps both laws. -/
structure Keeps (s t : State) : Prop where
  accumulators : AccumulatorLaw s → AccumulatorLaw t
  accounts : TankLaw s ∧ StrappingLaw s → TankLaw t ∧ StrappingLaw t

theorem accounts_iff (s : State) : TankLaw s ∧ StrappingLaw s ↔ ∀ k, Sound (s.tank k) := forall_and.symm

theorem Even.keeps {s t : State} (h : Even s t) : Keeps s t :=
  ⟨fun ⟨hbays, htanks⟩ => ⟨fun b => h.bays b (hbays b), fun k => (h.tanks k).warm (htanks k)⟩,
    fun hs => (accounts_iff t).2 fun k => (h.tanks k).sound ((accounts_iff s).1 hs k)⟩

theorem Even.refl (s : State) : Even s s := ⟨fun _ => id, fun _ => .refl _⟩

theorem Even.trans {s u t : State} (h1 : Even s u) (h2 : Even u t) : Even s t :=
  ⟨fun b h => h2.bays b (h1.bays b h), fun k => (h1.tanks k).trans (h2.tanks k)⟩

theorem Keeps.trans {s u t : State} (h1 : Keeps s u) (h2 : Keeps u t) : Keeps s t :=
  ⟨fun h => h2.accumulators (h1.accumulators h), fun h => h2.accounts (h1.accounts h)⟩

/-- Both laws are about the bays and the tanks alone. -/
theorem Even.of_frame {s t : State} (h : t.bays = s.bays ∧ t.tanks = s.tanks) : Even s t :=
  ⟨fun b => by rw [State.bay_congr h.1]; exact id, fun k => by rw [State.tank_congr h.2]; exact .refl _⟩

theorem Even.foldl {α : Type} {f : State → α → State} (hf : ∀ s a, Even s (f s a)) (l : List α) (s : State) :
    Even s (l.foldl f s) := by
  induction l generalizing s with
  | nil => exact .refl s
  | cons a l ih => exact (hf s a).trans (ih _)

/-! ## The shared operations -/

theorem even_setBay {s : State} {b : BayId} {y : Bay} (h : (s.bay b).accumulatorsLawful → y.accumulatorsLawful) :
    Even s (s.setBay b y) := by
  refine ⟨fun k => ?_, fun _ => .refl _⟩
  by_cases hk : k = b
  · subst hk
    rwa [State.bay_setBay_same]
  · rw [State.bay_setBay_other _ _ _ _ hk]
    exact id

theorem even_setTank {s : State} {t : TankId} {k : Tank} (h : TankKept (s.tank t) k) : Even s (s.setTank t k) := by
  refine ⟨fun _ => id, fun u => ?_⟩
  by_cases hu : u = t
  · subst hu
    rwa [State.tank_setTank_same]
  · rw [State.tank_setTank_other _ _ _ _ hu]
    exact .refl _

/-- A tank account entered with its events. -/
theorem even_entered {s : State} {t : TankId} {k : Tank} (ks : List EventKind) (h : TankKept (s.tank t) k) :
    Even s (entered s t k ks) := (even_setTank h).trans (.of_frame ⟨rfl, rfl⟩)

/-- R134: the standing formed again after an account is entered. -/
theorem reformStanding_entered (s : State) (t : TankId) (k : Tank) (ks : List EventKind) :
    (entered s t k ks).reformStanding t =
      entered s t { k with standing := formStanding k.settings k.book } (ks ++ Censuses.standingEvents t k) := by
  rw [reformStanding_eq, entered_tank, entered_entered]

/-- R83: the closing accumulator starts at 0, which no net is below. -/
theorem toClosing_lawful (c : CloseCause) {y : Bay} (h : y.accumulatorsLawful) : (y.toClosing c).accumulatorsLawful := by
  obtain ⟨hgross, hnet, -, hrest⟩ := h
  exact ⟨hgross, hnet, Nat.zero_le _, hrest⟩

theorem toDraining_lawful {y : Bay} (h : y.accumulatorsLawful) : y.toDraining.accumulatorsLawful := by
  unfold Bay.toDraining
  split <;> exact h

/-- R16: a totalizer keeps its ranges. -/
theorem totalizer_add_bounds (t : Totalizer) (n : Nat) : (t.add n).litres ≤ 999999999 ∧ (t.add n).micro ≤ 999999 :=
  ⟨Nat.le_of_lt_succ (Nat.mod_lt _ (by decide)), Nat.le_of_lt_succ (Nat.mod_lt _ (by decide))⟩

/-- R86, R87: what a completion makes of the bay. -/
theorem ended_lawful (c : CloseCause) {y : Bay} (h : y.accumulatorsLawful) :
    ((y.ended c).movedOn c).accumulatorsLawful := by
  have hended : (y.ended c).accumulatorsLawful := by
    obtain ⟨hgross, hnet, hclosing, hsum, hlow, hhigh, hheld, hunassigned, hcount, -⟩ := h
    obtain ⟨hglitres, hgmicro⟩ := totalizer_add_bounds y.grossTotal y.gross
    obtain ⟨hnlitres, hnmicro⟩ := totalizer_add_bounds y.netTotal y.net
    exact ⟨hgross, hnet, hclosing, hsum, hlow, hhigh, hheld, hunassigned, hcount, hglitres, hgmicro, hnlitres, hnmicro⟩
  unfold Bay.movedOn
  (repeat' split)
  · exact toDraining_lawful hended
  · exact hended
  · exact hended
  · exact toDraining_lawful hended

theorem even_complete (s : State) (b : BayId) (c : CloseCause) : Even s (s.complete b c) := by
  refine (even_setBay (b := b) (ended_lawful c)).trans (.of_frame ⟨?_, by simp⟩)
  rw [State.complete_bays]
  rfl

theorem even_endIssue (s : State) (c : CloseCause) (b : BayId) : Even s (s.endIssue c b) := by
  unfold State.endIssue
  split
  · exact even_complete ..
  · exact even_setBay (toClosing_lawful c)
  · exact even_setBay (toClosing_lawful c)
  · exact .refl s

theorem even_setBay_complete {s : State} {b : BayId} {y : Bay} (c : CloseCause)
    (h : (s.bay b).accumulatorsLawful → y.accumulatorsLawful) : Even s ((s.setBay b y).complete b c) :=
  (even_setBay h).trans (even_complete ..)

/-! ## Tallies and valve reports -/

theorem tallyFlowing_lawful (tl : Tally) (sample : Option Nat) {y : Bay} (h : y.accumulatorsLawful) :
    (tallyFlowing tl sample y).accumulatorsLawful := by
  unfold tallyFlowing
  (repeat' split)
  · exact toClosing_lawful _ h
  · exact toClosing_lawful _ h
  · exact toClosing_lawful _ h
  · exact h
  · exact toClosing_lawful _ h
  · exact h

/-- R108: what the Sequencer does with a tally in an issue. -/
theorem even_handTally {s : State} {b : BayId} (tl : Tally) (sample : Option Nat) {st : BayState} (h : st.active = true) :
    Even s (s.handTally b tl sample st) := by
  cases st with
  | granted =>
    rw [handTally_granted]
    (repeat' split)
    · exact even_setBay_complete _ id
    · exact even_setBay id
    · exact .refl s
  | flowing => exact even_setBay (tallyFlowing_lawful tl sample)
  | trimming => exact even_setBay (tallyFlowing_lawful tl sample)
  | closing =>
    have hflags : (s.bay b).accumulatorsLawful → ((s.bay b).closingTally tl sample).accumulatorsLawful := by
      rw [closingTally_eq]
      exact id
    rw [handTally_closing]
    split
    · exact even_setBay_complete _ hflags
    · exact even_setBay hflags
  | disabled | idle | draining | faulted => cases h

/-- R13: a temperature in its range times a rise lies in the range of the rise. -/
theorem tempLawful_mul {x : Int} (h : tempLawful x) (n : Nat) : -300 * (n : Int) ≤ x * n ∧ x * n ≤ 900 * n :=
  ⟨mul_le_mul_of_nonneg_right h.1 (Int.natCast_nonneg n), mul_le_mul_of_nonneg_right h.2 (Int.natCast_nonneg n)⟩

/-- R13, R15, R102: a bay with an issue tally metered. -/
theorem addIssueTally_lawful {y : Bay} {k : Tank} (tl : Tally) (h : y.accumulatorsLawful) (hk : Warm k) :
    (y.addIssueTally (meter y k tl) tl.pulses).accumulatorsLawful := by
  obtain ⟨hgross, hnet, hclosing, hsum, hlow, hhigh, hheld, hunassigned, -, htotals⟩ := h
  have htemp : tempLawful (meter y k tl).temp := by
    rw [meter_temp]
    exact tempUsed_lawful tl hheld hk
  obtain ⟨hleast, hmost⟩ := tempLawful_mul htemp (addAcc y.gross (meter y k tl).gross - y.gross)
  refine ⟨addAcc_le .., addAcc_le .., ?_, ?_, ?_, ?_, fun x hx => ?_, hunassigned, addCount16_le _, htotals⟩
  · show (if y.state = .closing then addAcc y.closing _ else y.closing) ≤ addAcc y.net (meter y k tl).net
    unfold addAcc Config.accMax
    split <;> omega
  · show y.sumG + (addAcc y.gross (meter y k tl).gross - y.gross) = addAcc y.gross (meter y k tl).gross
    unfold addAcc Config.accMax
    omega
  · show -300 * ((y.sumG + (addAcc y.gross (meter y k tl).gross - y.gross) : Nat) : Int) ≤ y.sumTG + _
    push_cast
    omega
  · show y.sumTG + _ ≤ 900 * ((y.sumG + (addAcc y.gross (meter y k tl).gross - y.gross) : Nat) : Int)
    push_cast
    omega
  · have hx : (match (meter y k tl).source with | .supplied _ => some (meter y k tl).temp | _ => y.heldTemp) = some x := hx
    split at hx
    · cases hx
      exact htemp
    · exact hheld x hx

/-- R92: a bay that is not active once a tally has been handed over. -/
theorem afterInactive_lawful {y : Bay} (tl : Tally) (n : Nat) (h : y.accumulatorsLawful) :
    (afterInactive tl { y with unassigned := y.unassigned + n }).accumulatorsLawful := by
  obtain ⟨hgross, hnet, hclosing, hsum, hlow, hhigh, hheld, -, hrest⟩ := h
  have hunassigned : (if 2000000 < y.unassigned + n then 0 else y.unassigned + n) ≤ 2000000 := by split <;> omega
  unfold afterInactive
  dsimp only
  split <;> exact ⟨hgross, hnet, hclosing, hsum, hlow, hhigh, hheld, hunassigned, hrest⟩

/-- R107: a tank debited. -/
theorem tankKept_debited (k : Tank) (n : Nat) : TankKept k (debited k n) := by
  unfold debited
  split
  · exact .refl k
  · exact tankKept_booked k (clampBook_bounds _) k.delivery k.stockSet

/-- A bay changed and a tank changed, the one read with the other's temperature. -/
theorem keeps_bay_and_tank {s t : State} {b : BayId} {k : TankId} {y : Bay} {l : Tank} (hbays : t.bays = s.bays.set b y)
    (htanks : t.tanks = s.tanks.set k l)
    (hy : (∀ c, (s.bay c).accumulatorsLawful) → (∀ c, Warm (s.tank c)) → y.accumulatorsLawful)
    (hl : TankKept (s.tank k) l) : Keeps s t := by
  have heven := even_setTank hl
  have htank : ∀ c, t.tank c = (s.setTank k l).tank c := State.tank_congr htanks
  refine ⟨fun ⟨hb, hw⟩ => ⟨fun c => ?_, fun c => ?_⟩, fun hs => (accounts_iff t).2 fun c => ?_⟩
  · rw [State.bay_congr (t := s.setBay b y) hbays]
    by_cases hc : c = b
    · subst hc
      rw [State.bay_setBay_same]
      exact hy hb hw
    · rw [State.bay_setBay_other _ _ _ _ hc]
      exact hb c
  · rw [htank]
    exact (heven.tanks c).warm (hw c)
  · rw [htank]
    exact (heven.tanks c).sound ((accounts_iff s).1 hs c)

/-- R101: a tally. -/
theorem keeps_takeTally (s : State) (b : BayId) (tl : Tally) : Keeps s (s.takeTally b tl) := by
  let k := (s.bay b).settings.tank
  let m := meter (s.bay b) (s.tank k) tl
  let u : State := { s with
    bays := s.bays.set b ((s.bay b).addTally m tl.pulses), tanks := s.tanks.set k (debited (s.tank k) m.net)
    journal := s.journalAfter (ServiceIntervals.standingEvents k (s.tank k) m.net) }
  have htaken : s.takeTally b tl = u.handTally b tl m.sample (s.bay b).state :=
    congrArg (State.handTally · b tl m.sample (s.bay b).state)
      (debit_entered (s.setBay b ((s.bay b).addTally m tl.pulses)) k m.net)
  have hbay : u.bay b = (s.bay b).addTally m tl.pulses := PerBay.get_set_same ..
  have hstate : (u.bay b).state = (s.bay b).state := by
    rw [hbay]
    exact (addTally_frame m tl.pulses (s.bay b)).2.2
  rw [htaken]
  cases hs : (s.bay b).state.active with
  | true =>
    refine .trans (keeps_bay_and_tank rfl rfl (fun hb hw => ?_) (tankKept_debited ..)) (even_handTally tl m.sample hs).keeps
    rw [Bay.addTally, if_pos hs]
    exact addIssueTally_lawful tl (hb b) (hw k)
  | false =>
    have hhand : u.handTally b tl m.sample (s.bay b).state = u.tallyInactive b tl (u.bay b).state := by
      rw [hstate]
      cases h : (s.bay b).state <;> first | rfl | simp [h, BayState.active] at hs
    rw [hhand, tallyInactive_eq]
    refine keeps_bay_and_tank (b := b) (y := afterInactive tl (u.bay b)) ?_ rfl (fun hb _ => ?_) (tankKept_debited (s.tank k) m.net)
    · exact congrArg State.bays (setBay_setBay s b _ _)
    · rw [hbay, Bay.addTally, if_neg (by simp [hs])]
      exact afterInactive_lawful tl m.net (hb b)

/-- R110: a valve report. -/
theorem even_takeValve (s : State) (b : BayId) (r : ReportedValve) : Even s (s.takeValve b r) := by
  have hreported : Even s (s.setBay b { s.bay b with reported := some r }) := even_setBay id
  unfold State.takeValve
  refine hreported.trans ?_
  unfold State.handValve
  have hreport : ∀ y : Bay, y.accumulatorsLawful → (y.closingReport r).accumulatorsLawful := fun y h => by
    unfold Bay.closingReport
    dsimp only
    split <;> exact h
  have hfault : ∀ u : State, Even u (u.faultIdle b .valve) := fun u =>
    (even_setBay (y := (u.bay b).toFaulted) id).trans (.of_frame (by simp [State.faultIdle]))
  (repeat' split)
  · exact even_setBay_complete _ id
  · exact .refl _
  · exact even_setBay (toClosing_lawful (y := Bay.setValve _) _)
  · exact .refl _
  · exact even_setBay (toClosing_lawful (y := Bay.setValve _) _)
  · exact .refl _
  · exact even_setBay (hreport _)
  · exact hfault _
  · exact .refl _
  · exact hfault _
  · exact .refl _
  · exact .refl _
  · exact .refl _

/-! ## Censuses and deliveries -/

theorem even_waterTest (s : State) (t : TankId) (level : Nat) : Even s (s.waterTest t level) := by
  unfold State.waterTest
  split
  · refine ((even_setTank (k := { s.tank t with waterHold := true }) ⟨id, id⟩).trans (.of_frame (by simp))).trans (Even.foldl (fun u b => ?_) bayList _)
    split
    · exact even_endIssue ..
    · exact .refl u
  · exact .refl s

/-- R136: the variance test counts strikes to 3. -/
theorem tankKept_tested (net : Int) (k : Tank) : TankKept k (tested net k) := by
  unfold tested
  split
  · exact ⟨fun ⟨⟨hsettings, hlow, hhigh, hstanding, _⟩, hstrapping⟩ =>
      ⟨⟨hsettings, hlow, hhigh, hstanding, Nat.min_le_right ..⟩, hstrapping⟩, id⟩
  · exact ⟨fun ⟨⟨hsettings, hlow, hhigh, hstanding, _⟩, hstrapping⟩ =>
      ⟨⟨hsettings, hlow, hhigh, hstanding, Nat.zero_le _⟩, hstrapping⟩, id⟩

theorem even_varianceTest (s : State) (t : TankId) (net : Int) : Even s (s.varianceTest t net) := by
  rw [varianceTest_eq]
  exact even_entered _ (tankKept_tested ..)

theorem even_censusTests (s : State) (r : CensusResult) : Even s (s.censusTests r) := by
  unfold State.censusTests
  split
  · have hwater := even_waterTest s r.tank
    dsimp only
    split
    · exact (hwater _).trans (even_varianceTest ..)
    · exact hwater _
  · exact .refl s

/-- R135: a result whose temperature is in range leaves the last good temperature in range. -/
theorem tankKept_takeResult {r : CensusResult} (k : Tank) (h : ∀ x, r.reading = some x → tempLawful x.temp) :
    TankKept k (k.takeResult r) := by
  refine ⟨id, fun hk x hx => ?_⟩
  unfold Tank.takeResult at hx
  dsimp only at hx
  split at hx
  · exact hk x hx
  · rename_i y hy _
    cases hx
    exact h y hy
  · exact hk x hx

/-- R141, R143: a delivery's own census. -/
theorem tankKept_moved (own : Bool) (net : Option Int) (k : Tank) : TankKept k (moved own net k) := by
  unfold moved
  split
  · split
    · exact ⟨id, id⟩
    · exact .refl k
    · exact tankKept_booked k (clampBook_bounds _) none k.stockSet
  · exact .refl k

/-- R122: the hand-off of a result whose temperature is in range. -/
theorem even_handOff (s : State) (c : CensusInFlight) (outcome : CensusOutcome) {reading : Option Reading}
    (h : ∀ x, reading = some x → tempLawful x.temp) : Even s (s.handOff c outcome reading) := by
  have hgauged : Even s (s.gaugeStep c.tank (outcome == .failed)) := .of_frame (by simp [State.gaugeStep])
  have htaken : ∀ (u : State) (r : CensusResult), r.reading = reading → Even u (u.takeResult r c.own) := fun u r hr => by
    unfold State.takeResult
    dsimp only
    rw [applyOwn_eq]
    exact ((even_setTank (tankKept_takeResult _ (hr ▸ h))).trans (even_entered _ (tankKept_moved ..))).trans
      (even_censusTests ..)
  exact (hgauged.trans (htaken _ _ rfl)).trans (.of_frame ⟨rfl, rfl⟩)

/-- R117: a missing acknowledge hands off no reading. -/
theorem even_ackFails (s : State) (c : CensusInFlight) (phase : AckPhase) : Even s (s.ackFails c phase) := by
  have hdriven : Even s (s.drive (ackErrorActs c.address phase)) := .of_frame ⟨rfl, rfl⟩
  unfold State.ackFails
  dsimp only
  split
  · exact hdriven.trans (.of_frame ⟨rfl, rfl⟩)
  · exact hdriven.trans (even_handOff _ c _ nofun)

/-- R5, R118: a reading's temperature is clamped. -/
theorem even_censusCompletes (s : State) (c : CensusInFlight) (d : ReadingBlock) : Even s (s.censusCompletes c d) := by
  have hdriven : Even s (s.drive (completionActs c.address)) := .of_frame ⟨rfl, rfl⟩
  refine hdriven.trans (even_handOff _ c _ fun x hx => ?_)
  cases hx
  exact clampTemp_lawful _

/-- R139: a delivery record is no part of what a tank must keep. -/
theorem even_delivery (s : State) (t : TankId) (d : Option Delivery) :
    Even s (s.setTank t { s.tank t with delivery := d }) := even_setTank ⟨id, id⟩

/-- R142, R144: a delivery closed. -/
theorem even_closeDelivery (s : State) (t : TankId) (d : Delivery) (expired : Bool) :
    Even s (s.closeDelivery t d expired) := (even_delivery s t _).trans (.of_frame ⟨rfl, rfl⟩)

theorem even_windowExpires (s : State) (t : TankId) : Even s (s.windowExpires t) := by
  have hdisowned : Even s (s.disown t) := .of_frame ⟨rfl, rfl⟩
  unfold State.windowExpires
  split
  · exact hdisowned.trans (even_closeDelivery ..)
  · exact .refl s

/-! ## The requests of the bays and the tanks -/

theorem even_baySet (r : BaySetReq) (s : State) : Even s (baySet r s).1 := by
  have hconfigured : ∀ (k : BaySettings) (y : Bay), y.accumulatorsLawful → (y.configure k).accumulatorsLawful := by
    intro k y h
    unfold Bay.configure
    (repeat' split) <;> exact h
  unfold baySet
  split
  · split
    · exact .refl s
    · exact even_setBay (hconfigured _ _)
  · exact .refl s

theorem even_bayStop (n : Nat) (s : State) : Even s (bayStop n s).1 := by
  unfold bayStop
  split
  · exact .refl s
  · exact even_endIssue ..

theorem even_bayRelease (n : Nat) (s : State) : Even s (bayRelease n s).1 := by
  unfold bayRelease
  split
  · exact .refl s
  · split
    · exact even_setBay id
    · exact .refl s

/-- R176: a halt ends issues. -/
theorem even_podSuspend (n : Nat) (s : State) : Even s (podSuspend n s).1 := by
  unfold podSuspend
  split
  · exact .refl s
  · split
    · exact .refl s
    · have hpod : Even s (if s.pod = .suspended then s else s.changePod .suspended) := .of_frame (by split <;> simp)
      dsimp only
      split
      · exact hpod.trans (.foldl (fun u b => even_endIssue u .site b) _ _)
      · exact hpod

/-- R130, R131: the settings a TANK SET gives are in range. -/
theorem tankSetSettings_lawful (r : TankSetReq) (hold : Bool) : (r.settings hold).lawful :=
  ⟨clampNat_ge (by decide) _, clampNat_le (by decide) _, clampNat_le (lo := 0) (by decide) _, clampNat_le (Nat.zero_le _) _,
    clampNat_le (Nat.zero_le _) _, clampNat_ge (by decide) _, clampNat_le (by decide) _, clampNat_ge (by decide) _,
    clampNat_le (by decide) _, clampNat_le (lo := 0) (by decide) _, clampNat_ge (by decide) _, clampNat_le (by decide) _,
    clampNat_le (lo := 0) (by decide) _⟩

/-- R131, R134: the standing is formed from the new levels. -/
theorem even_tankSet (r : TankSetReq) (s : State) : Even s (tankSet r s).1 := by
  unfold tankSet
  split
  · rename_i t hold _ _
    split
    · exact .refl s
    · show Even s ((entered s t { s.tank t with settings := r.settings hold } []).reformStanding t)
      rw [reformStanding_entered]
      exact even_entered _ ⟨fun ⟨⟨_, hlow, hhigh, _, hstrikes⟩, hstrapping⟩ =>
        ⟨⟨tankSetSettings_lawful r hold, hlow, hhigh, rfl, hstrikes⟩, hstrapping⟩, id⟩
  · exact .refl s

theorem even_tankClear (n : Nat) (s : State) : Even s (tankClear n s).1 := by
  unfold tankClear
  split
  · exact .refl s
  · exact even_setTank ⟨fun ⟨⟨hsettings, hlow, hhigh, hstanding, _⟩, hstrapping⟩ =>
      ⟨⟨hsettings, hlow, hhigh, hstanding, Nat.zero_le _⟩, hstrapping⟩, id⟩

/-- R133: a stock figure up to the capacity lies within the book's bounds. -/
theorem tankKept_stocked (k : Tank) (n : Nat) : TankKept k
    { k with
      book := (clampNat 0 k.settings.capacity n : Nat) * 1000000, stockSet := true
      standing := formStanding k.settings ((clampNat 0 k.settings.capacity n : Nat) * 1000000) } := by
  refine ⟨fun ⟨⟨hsettings, _, _, _, hstrikes⟩, hstrapping⟩ => ⟨⟨hsettings, ?_, ?_, rfl, hstrikes⟩, hstrapping⟩, id⟩
  · show -1000000000000000 ≤ ((clampNat 0 k.settings.capacity n : Nat) : Int) * 1000000
    omega
  · obtain ⟨-, hcapacity, -⟩ := hsettings
    have hclamped := clampNat_le (Nat.zero_le k.settings.capacity) n
    show ((clampNat 0 k.settings.capacity n : Nat) : Int) * 1000000 ≤ 1000000000000000
    omega

theorem even_stockSet (r : Nat × Nat) (s : State) : Even s (stockSet r s).1 := by
  unfold stockSet
  split
  · exact .refl s
  · rename_i t _
    split
    · exact .refl s
    · let litres := clampNat 0 (s.tank t).settings.capacity r.2
      show Even s ((entered s t { s.tank t with book := (litres : Int) * 1000000, stockSet := true }
        [.stockSet t (toCl (s.tank t).book) (toCl ((litres : Int) * 1000000))]).reformStanding t)
      rw [reformStanding_entered]
      exact even_entered _ (tankKept_stocked _ _)

theorem even_deliveryOpen (r : Nat × Nat) (s : State) : Even s (deliveryOpen r s).1 := by
  unfold deliveryOpen
  (repeat' split)
  · exact .refl s
  · exact .refl s
  · exact .refl s
  · exact (even_delivery s _ _).trans (.of_frame ⟨rfl, rfl⟩)

theorem even_deliveryClose (n : Nat) (s : State) : Even s (deliveryClose n s).1 := by
  unfold deliveryClose
  (repeat' split)
  · exact .refl s
  · exact .refl s
  · exact .refl s
  · exact .refl s
  · exact even_closeDelivery ..

theorem even_deliveryAbort (n : Nat) (s : State) : Even s (deliveryAbort n s).1 := by
  unfold deliveryAbort
  (repeat' split)
  · exact .refl s
  · exact .refl s
  · exact .refl s
  · exact (even_delivery s _ _).trans (.of_frame ⟨rfl, rfl⟩)

/-! ## STRAP SET -/

/-- R125: a point as stored is in range. -/
theorem clamped_lawful (p : StrapPoint) : p.clamped.lawful :=
  ⟨clampNat_le (lo := 0) (by decide) _, clampNat_le (lo := 0) (by decide) _⟩

/-- R125: the points a table holds with a piece that fits it. -/
theorem takePiece_lawful {first : Nat} {points ps : List StrapPoint} {k : Strapping} (hk : k.lawful)
    (hsome : points.length ≠ 0) (hfits : first + points.length ≤ 24)
    (h : k.takePiece first (points.map StrapPoint.clamped) = some ps) :
    1 ≤ ps.length ∧ ps.length ≤ 24 ∧ ∀ p ∈ ps, p.lawful := by
  have hpiece : ∀ p ∈ points.map StrapPoint.clamped, p.lawful := fun p hp => by
    obtain ⟨q, -, rfl⟩ := List.mem_map.1 hp
    exact clamped_lawful q
  unfold Strapping.takePiece at h
  split at h
  · cases h
    rw [List.length_map]
    exact ⟨by omega, by omega, hpiece⟩
  · split at h
    · rename_i held
      obtain ⟨-, -, hheld⟩ := hk
      split at h
      · cases h
        rw [List.length_append, List.length_map]
        refine ⟨by omega, by omega, fun p hp => ?_⟩
        exact (List.mem_append.1 hp).elim (hheld p) (hpiece p)
      · cases h
    · cases h

/-- R126: the table after the piece. -/
theorem finishTable_lawful {final : Bool} {ps : List StrapPoint}
    (h : 1 ≤ ps.length ∧ ps.length ≤ 24 ∧ ∀ p ∈ ps, p.lawful) : (finishTable final ps).lawful := by
  obtain ⟨hsome, hmost, hpoints⟩ := h
  unfold finishTable
  (repeat' split)
  · exact ⟨hmost, ‹_›, hpoints⟩
  · trivial
  · exact ⟨hsome, hmost, hpoints⟩

theorem even_strapSet (r : StrapSetReq) (s : State) : Even s (strapSet r s).1 := by
  unfold strapSet
  split
  · rename_i t final _ _
    unfold State.loadStrap
    split
    · exact .refl s
    · rename_i hfits
      dsimp only
      split
      · exact .refl s
      · rename_i ps hps
        have hset : Even s (s.setTank t { s.tank t with strapping := finishTable final ps }) :=
          even_setTank ⟨fun ⟨htank, hstrapping⟩ =>
            ⟨htank, finishTable_lawful (takePiece_lawful hstrapping (by omega) (by omega) hps)⟩, id⟩
        split <;> exact hset
  all_goals exact .refl s

/-! ## Ports and time -/

/-- R162: a transmitter that takes a frame leaves all but a slot. -/
theorem even_takeNext (s : State) (p : PortId) : Even s (s.takeNext p) := by
  unfold State.takeNext
  split
  · rename_i b _
    exact (even_setBay (b := b) (y := { s.bay b with slot := { (s.bay b).slot with pending := false } }) id).trans
      (.of_frame ⟨rfl, rfl⟩)
  · split
    · exact .refl s
    · cases p <;> exact .of_frame ⟨rfl, rfl⟩

/-- A port is no part of the bays or the tanks. -/
theorem even_setPort (s : State) (p : PortId) (x : Port) : Even s (s.setPort p x) := by
  cases p <;> exact .of_frame ⟨rfl, rfl⟩

theorem even_restartWatch (s : State) : Even s s.restartWatch := .of_frame (by simp)

theorem even_setYardMode (s : State) (m : RateMode) : Even s (s.setYardMode m) := .of_frame (by simp)

theorem even_tickClock (s : State) : Even s s.tickClock := .of_frame ⟨rfl, rfl⟩

theorem even_frameEnds (s : State) (p : PortId) (e : RxEnd) : Even s (s.frameEnds p e) := by
  unfold State.frameEnds State.placeFrame
  repeat' split
  · exact .refl s
  · exact even_setPort ..
  · exact .refl s
  · exact (even_setPort ..).trans (even_restartWatch _)
  · exact .refl s
  · exact even_setPort ..

theorem even_receiveChar (p : PortId) (s : State) (c : RxChar) : Even s (State.receiveChar p s c) := by
  unfold State.receiveChar
  dsimp only
  split
  · exact even_setPort ..
  · exact (even_setPort ..).trans (even_frameEnds ..)

theorem even_lastCharacter (s : State) (p : PortId) : Even s (s.lastCharacter p) := by
  unfold State.lastCharacter
  split
  · exact .refl s
  · exact even_setPort ..
  · dsimp only
    split
    · split
      · exact (even_setPort ..).trans (even_setYardMode ..)
      · exact even_setPort ..
    · exact even_setPort ..

/-- R77: time that passes lowers timers alone. -/
theorem even_elapse (s : State) (ms : Nat) : Even s (s.elapse ms) := by
  refine ⟨fun b => ?_, fun k => ?_⟩
  · have hbay : (s.elapse ms).bay b = (s.bay b).elapse ms := by simp [State.elapse, State.bay]
    rw [hbay]
    exact id
  · have htank : (s.elapse ms).tank k = (s.tank k).elapse ms := by simp [State.elapse, State.tank]
    rw [htank]
    exact ⟨id, id⟩

theorem even_idleStep (s : State) : Even s s.idleStep := by
  unfold State.idleStep
  dsimp only
  split
  · split
    · exact (even_elapse s 1).trans (even_tickClock _)
    · exact (even_elapse s 1).trans (.of_frame ⟨rfl, rfl⟩)
  · exact .refl s

/-! ## Starts -/

/-- R99: what a warm start makes of one bay. -/
theorem even_restartBay (s : State) (b : BayId) : Even s (s.restartBay b) := by
  unfold State.restartBay
  dsimp only
  split
  · exact even_complete ..
  · split
    · exact even_setBay toDraining_lawful
    · exact .refl s

/-- R181: each part of a warm start. -/
theorem even_warmPart (straps : Byte) {p : State → State} (hp : p ∈ warmParts straps) (s : State) : Even s (p s) := by
  simp only [warmParts, bayList, List.map_cons, List.map_nil, List.cons_append, List.nil_append, List.mem_cons,
    List.not_mem_nil, or_false] at hp
  rcases hp with rfl | rfl | rfl | rfl | rfl | rfl | rfl | rfl
  · exact .of_frame ⟨rfl, rfl⟩
  · exact .of_frame (by simp)
  · unfold State.leaveWatch
    split
    · exact .of_frame (by simp)
    · exact .refl s
  · exact even_restartBay ..
  · exact even_restartBay ..
  · exact even_restartBay ..
  · exact even_restartBay ..
  · refine ⟨fun b => ?_, fun _ => .refl _⟩
    have hbay : (s.mapBays (Bay.order .shut)).bay b = (s.bay b).order .shut := by simp [State.mapBays, State.bay]
    rw [hbay]
    exact id

theorem even_makeParts {ps : List (State → State)} (h : ∀ p ∈ ps, ∀ s, Even s (p s)) (s : State) :
    Even s (s.makeParts ps) := by
  induction ps generalizing s with
  | nil => exact .refl s
  | cons p ps ih => exact (h p List.mem_cons_self s).trans (ih (fun q hq => h q (List.mem_cons_of_mem _ hq)) _)

/-- R75, R98, R130, R148, R180: a cold start gives every bay and tank values in range. -/
theorem keeps_coldStart (straps : Byte) (s : State) : Keeps s (State.coldStart straps s) := by
  obtain ⟨-, -, -, -, -, haccumulators, -, -, -, -, htanks, hstrapping, -⟩ := resetHasEveryLaw
  exact ⟨fun _ => haccumulators, fun _ => ⟨htanks, hstrapping⟩⟩

/-! ## Every command -/

/-- An event keeps the laws where its work does. -/
theorem event_keeps {o : Bool} {e : State → State} {s t : State} (h : event o e s = .next t)
    (he : o = true → Keeps s (e s)) : Keeps s t := by
  rw [event_eq] at h
  cases h
  split
  · exact (he ‹_›).trans (Even.of_frame (by simp)).keeps
  · exact (Even.refl s).keeps

theorem event_even {o : Bool} {e : State → State} {s t : State} (h : event o e s = .next t)
    (he : o = true → Even s (e s)) : Keeps s t := event_keeps h fun ho => (he ho).keeps

/-- A request keeps the laws where its owner does. -/
theorem request_even {α : Type} {kind : Byte} {parse : List Byte → Option α} {bad : State → ReplyFields}
    {serve : α → State → State × Reply} (hserve : ∀ a s, Even s (serve a s).1) {s t : State}
    (h : request kind parse bad serve s = .next t) : Keeps s t := by
  have htaken : Even s s.taken := .of_frame (by simp)
  have hanswer : ∀ (f : Frame) (u : State) (r : Reply), Even s.taken u → answered f u r = .next t → Keeps s t := by
    intro f u r hu ha
    cases ha
    refine ((htaken.trans hu).trans (.of_frame ?_)).keeps
    split <;> simp
  rcases request_cases kind parse bad serve s with h' | ⟨f, -, ⟨a, -, h'⟩ | ⟨-, h'⟩⟩ <;> rw [h'] at h
  · cases h
    exact (Even.refl s).keeps
  · exact hanswer f _ _ (hserve ..) h
  · exact hanswer f _ _ (.refl _) h

/-- A request whose owner leaves the bays and the tanks. -/
theorem request_frame {α : Type} {kind : Byte} {parse : List Byte → Option α} {bad : State → ReplyFields}
    {serve : α → State → State × Reply}
    (hserve : ∀ a s, (serve a s).1.bays = s.bays ∧ (serve a s).1.tanks = s.tanks) {s t : State}
    (h : request kind parse bad serve s = .next t) : Keeps s t := request_even (fun a s => .of_frame (hserve a s)) h

/-- R66, R67: a grant starts its issue's accumulators at 0. -/
theorem takeGrant_lawful (g : GrantCopy) {y : Bay} (h : y.accumulatorsLawful) : (y.takeGrant g).accumulatorsLawful := by
  obtain ⟨-, -, -, -, -, -, -, hunassigned, -, htotals⟩ := h
  exact ⟨Nat.zero_le _, Nat.zero_le _, le_rfl, rfl, by simp [Bay.takeGrant], by simp [Bay.takeGrant], nofun, hunassigned,
    Nat.zero_le _, htotals⟩

theorem tag_keeps {s t : State} (h : exec .tag s = .next t) : Keeps s t := by
  have htanks : t.tanks = s.tanks := by
    rcases tag_unmet_or_head h with rfl | ⟨f, b, hhead, hclass⟩
    · rfl
    · simp only [exec, execTag, hhead, hclass] at h
      rw [event_occurs _ _ rfl] at h
      cases h
      simpa using (takeTag_frame s.popYard b f.payload).1
  rcases tag_bays_or_grant h with hbays | ⟨b, r, v, -, -, rfl⟩
  · exact (Even.of_frame ⟨hbays, htanks⟩).keeps
  · obtain ⟨hafter, -⟩ := afterHours_frame s v r
    refine Even.keeps ⟨fun c => ?_, fun k => by rw [State.tank_congr htanks]; exact .refl _⟩
    rw [settled_bay]
    by_cases hc : c = b
    · subst hc
      rw [grantAt_bay_same, hafter]
      exact takeGrant_lawful _
    · rw [grantAt_bay_other _ _ _ _ hc, hafter]
      exact id

theorem tally_keeps {s t : State} (h : execTally s = .next t) : Keeps s t := by
  unfold execTally at h
  split at h
  · split at h
    · refine event_keeps h fun _ => .trans (Even.of_frame (by simp) : Even s s.popYard).keeps ?_
      split
      · exact keeps_takeTally ..
      · exact (Even.refl _).keeps
    · cases h; exact (Even.refl s).keeps
  · cases h; exact (Even.refl s).keeps

theorem valveStatus_keeps {s t : State} (h : execValveStatus s = .next t) : Keeps s t := by
  unfold execValveStatus at h
  split at h
  · split at h
    · refine event_even h fun _ => .trans (.of_frame (by simp) : Even s s.popYard) ?_
      split
      · exact even_takeValve ..
      · exact .refl _
    · cases h; exact (Even.refl s).keeps
  · cases h; exact (Even.refl s).keeps

/-- R165, R166: frames passed on or dropped. -/
theorem stationData_keeps {s t : State} (h : execStationData s = .next t) : Keeps s t := by
  unfold execStationData at h
  split at h
  · exact event_even h fun _ => .of_frame (by split <;> simp)
  · cases h; exact (Even.refl s).keeps

theorem passThrough_keeps {p : PortId} {s t : State} (h : execPassThrough p s = .next t) : Keeps s t := by
  have hpassed : ∀ (u : State) (f : Frame), (u.passFromTrunk f).bays = u.bays ∧ (u.passFromTrunk f).tanks = u.tanks := by
    intro u f
    unfold State.passFromTrunk
    (repeat' split) <;> simp
  unfold execPassThrough at h
  repeat' split at h
  · exact event_even h fun _ => .of_frame (by simp)
  · cases h; exact (Even.refl s).keeps
  · exact event_even h fun _ => .trans (.of_frame (by simp) : Even s s.popTrunk) (.of_frame (hpassed ..))
  · cases h; exact (Even.refl s).keeps

theorem frameDrop_keeps {p : PortId} {s t : State} (h : execFrameDrop p s = .next t) : Keeps s t := by
  unfold execFrameDrop at h
  repeat' split at h
  · exact event_even h fun _ => .of_frame (by simp)
  · cases h; exact (Even.refl s).keeps
  · exact event_even h fun _ => .of_frame (by simp)
  · cases h; exact (Even.refl s).keeps

/-- R80, R82, R84, R88: the expiries of the bay timers. -/
theorem bayTimer_keeps {b : BayId} {s t : State}
    (h : execArmTimerExpiry b s = .next t ∨ execNoFlowTimerExpiry b s = .next t ∨ execGapTimerExpiry b s = .next t ∨
      execCloseTimerExpiry b s = .next t ∨ execDrainTimerExpiry b s = .next t) : Keeps s t := by
  rcases h with h | h | h | h | h
  · exact event_even h fun _ => even_complete ..
  · exact event_even h fun _ => even_setBay (toClosing_lawful _)
  · exact event_even h fun _ => even_setBay (toClosing_lawful _)
  · refine event_even h fun _ => even_setBay_complete _ ?_
    split <;> exact id
  · exact event_even h fun _ => even_setBay id

/-- R117, R118: the events of the probe bus. -/
theorem ackError_keeps {phase : AckPhase} {s t : State} (h : execAckError phase s = .next t) : Keeps s t := by
  unfold execAckError at h
  split at h
  · exact event_even h fun _ => even_ackFails ..
  · cases h; exact (Even.refl s).keeps

theorem retryWait_keeps {s t : State} (h : execRetryWaitExpiry s = .next t) : Keeps s t := by
  unfold execRetryWaitExpiry at h
  split at h
  · exact event_even h fun _ => .of_frame ⟨rfl, rfl⟩
  · cases h; exact (Even.refl s).keeps

theorem censusTransaction_keeps {d : ReadingBlock} {s t : State} (h : execCensusTransaction d s = .next t) : Keeps s t := by
  unfold execCensusTransaction at h
  split at h
  · exact event_even h fun _ => even_censusCompletes ..
  · cases h; exact (Even.refl s).keeps

/-- R181: a warm start, whole or cut. -/
theorem warmStart_keeps {w : StartRun} {s t : State} (h : execWarmStart w s = .next t) : Keeps s t := by
  unfold execWarmStart at h
  split at h
  · have hprobe : ∀ u : State, Even u u.restartProbe := fun u => .of_frame ⟨restartProbe_bays u, by rw [restartProbe_eq]⟩
    exact event_even h fun _ => (even_makeParts (fun _ hp => even_warmPart w.straps hp) s).trans (hprobe _)
  · rename_i n _
    cases h
    split
    · have hparts : Even s (s.makeParts ((warmParts w.straps).take n)) :=
        even_makeParts (fun _ hp => even_warmPart _ (List.mem_of_mem_take hp)) s
      exact (hparts.trans (.of_frame (t := State.losePower _) ⟨rfl, rfl⟩)).keeps
    · exact (Even.refl s).keeps

/-- R180: a loss of power leaves what is retained. -/
theorem powerLoss_keeps {s t : State} (h : execMainPowerLoss s = .next t ∨ execBackupSupplyLoss s = .next t) :
    Keeps s t := by
  unfold execMainPowerLoss execBackupSupplyLoss at h
  rcases h with h | h <;> split at h <;> cases h <;> exact Even.keeps (.of_frame ⟨rfl, rfl⟩)

/-- R160 to R162: the events of the ports. -/
theorem frameReceive_keeps {p : PortId} {cs : List RxChar} {s t : State} (h : execFrameReceive p cs s = .next t) :
    Keeps s t := event_even h fun _ => .foldl (even_receiveChar p) cs s

theorem startCharacter_keeps {p : PortId} {e : Bool} {s t : State} (h : execStartCharacter p e s = .next t) : Keeps s t :=
  event_even h fun _ => even_receiveChar ..

theorem gapTimeout_keeps {p : PortId} {s t : State} (h : execCharacterGapTimeout p s = .next t) : Keeps s t :=
  event_even h fun _ => (even_setPort ..).trans (even_frameEnds ..)

theorem rateSettingApplied_keeps {p : PortId} {s t : State} (h : execRateSettingApplied p s = .next t) : Keeps s t :=
  event_even h fun _ => by cases p <;> exact .of_frame ⟨rfl, rfl⟩

theorem transmitFrame_keeps {p : PortId} {part : SendPart} {s t : State} (h : execTransmitFrame p part s = .next t) :
    Keeps s t := by
  unfold execTransmitFrame at h
  cases part with
  | take => exact event_even h fun _ => even_takeNext ..
  | last => exact event_even h fun _ => even_lastCharacter ..

/-- R123, R144: the timers of the tanks. -/
theorem tankTimer_keeps {k : TankId} {s t : State}
    (h : execSettleTimerExpiry k s = .next t ∨ execWindowTimerExpiry k s = .next t) : Keeps s t := by
  rcases h with h | h
  · exact event_even h fun _ => .of_frame ⟨rfl, rfl⟩
  · exact event_even h fun _ => even_windowExpires s k

/-- Every command keeps both laws. -/
theorem exec_keeps (c : Instr) {s t : State} (h : exec c s = .next t) : Keeps s t := by
  cases c with
  | coldStart straps => exact event_keeps h fun _ => keeps_coldStart straps s
  | warmStart start => exact warmStart_keeps h
  | mainPowerLoss => exact powerLoss_keeps (.inl h)
  | podClockTick => exact event_even h fun _ => (even_elapse ..).trans (even_tickClock _)
  | frameReceive port chars => exact frameReceive_keeps h
  | characterGapTimeout port => exact gapTimeout_keeps h
  | rateSettingApplied port => exact rateSettingApplied_keeps h
  | transmitFrame port part => exact transmitFrame_keeps h
  | tag => exact tag_keeps h
  | tally => exact tally_keeps h
  | valveStatus => exact valveStatus_keeps h
  | stationData => exact stationData_keeps h
  | passThrough port => exact passThrough_keeps h
  | frameDrop port => exact frameDrop_keeps h
  | armTimerExpiry bay => exact bayTimer_keeps (.inl h)
  | noFlowTimerExpiry bay => exact bayTimer_keeps (.inr (.inl h))
  | gapTimerExpiry bay => exact bayTimer_keeps (.inr (.inr (.inl h)))
  | closeTimerExpiry bay => exact bayTimer_keeps (.inr (.inr (.inr (.inl h))))
  | drainTimerExpiry bay => exact bayTimer_keeps (.inr (.inr (.inr (.inr h))))
  | censusTimerExpiry => exact event_even h fun _ => .of_frame ⟨rfl, rfl⟩
  | settleTimerExpiry tank => exact tankTimer_keeps (.inl h)
  | windowTimerExpiry tank => exact tankTimer_keeps (.inr h)
  | watchDelayTimerExpiry => exact event_even h fun _ => .of_frame (by simp [State.enterWatch])
  | retryWaitExpiry => exact retryWait_keeps h
  | ackError phase => exact ackError_keeps h
  | censusTransaction data => exact censusTransaction_keeps h
  | fleetPut => exact request_frame (fun r u => by unfold fleetPut; (repeat' split) <;> simp) h
  | fleetDelete => exact request_frame (fun r u => by unfold fleetDelete; (repeat' split) <;> simp) h
  | classSet => exact request_frame (fun r u => by unfold classSet; split <;> exact ⟨rfl, rfl⟩) h
  | baySet => exact request_even even_baySet h
  | tankSet => exact request_even even_tankSet h
  | strapSet => exact request_even even_strapSet h
  | podSet => exact request_frame (fun r u => by simp [podSet, applyPodSettings_eq]) h
  | podStart => exact request_frame (fun r u => by unfold podStart; (repeat' split) <;> simp) h
  | podSuspend => exact request_even even_podSuspend h
  | podResume => exact request_frame (fun r u => by unfold podResume; split <;> simp) h
  | podReset => exact request_frame (fun _ _ => ⟨rfl, rfl⟩) h
  | timeSet => exact request_frame (fun _ _ => ⟨rfl, rfl⟩) h
  | shiftRoll => exact request_frame (fun _ _ => ⟨rfl, rfl⟩) h
  | bayStop => exact request_even even_bayStop h
  | bayRelease => exact request_even even_bayRelease h
  | serviceDone => exact request_frame (fun r u => by unfold serviceDone; (repeat' split) <;> simp) h
  | tankClear => exact request_even even_tankClear h
  | stockSet => exact request_even even_stockSet h
  | deliveryOpen => exact request_even even_deliveryOpen h
  | deliveryClose => exact request_even even_deliveryClose h
  | deliveryAbort => exact request_even even_deliveryAbort h
  | censusNow => exact request_frame (fun r u => by unfold censusNow; split <;> exact ⟨rfl, rfl⟩) h
  | journalLayout => exact request_frame (fun r u => by unfold journalLayout; split <;> simp) h
  | journalRelease => exact request_frame (fun r u => by unfold journalRelease; split <;> simp) h
  | linkClear => exact request_frame (fun _ _ => ⟨rfl, rfl⟩) h
  | podStatus => exact request_frame (fun _ _ => ⟨rfl, rfl⟩) h
  | bayStatus => exact request_frame (fun r u => by unfold bayStatus; split <;> exact ⟨rfl, rfl⟩) h
  | tankStatus => exact request_frame (fun r u => by unfold tankStatus; split <;> exact ⟨rfl, rfl⟩) h
  | fleetGet => exact request_frame (fun _ _ => ⟨rfl, rfl⟩) h
  | fleetNext => exact request_frame (fun _ _ => ⟨rfl, rfl⟩) h
  | journalRead => exact request_frame (fun r u => by unfold journalRead; split <;> exact ⟨rfl, rfl⟩) h
  | linkStatus => exact request_frame (fun _ _ => ⟨rfl, rfl⟩) h
  | backupSupplyLoss => exact powerLoss_keeps (.inr h)
  | startCharacter port parityError => exact startCharacter_keeps h

/-- Every step keeps both laws. -/
theorem step_keeps {s t : State} (h : step s = .next t) : Keeps s t := by
  unfold step at h
  split at h
  · obtain ⟨haccumulators, haccounts⟩ := exec_keeps _ h
    exact ⟨haccumulators, haccounts⟩
  · cases h
    exact (even_idleStep s).keeps

/-- Settles O7: every step keeps the law of the accumulators (R13, R15, R16, R92). -/
theorem accumulatorsStayInRange : Obligations.AccumulatorsStayInRange :=
  fun _ _ hs h => (step_keeps h).accumulators hs

/-- Settles O9: every step keeps the laws of the tank accounts and the strapping tables (R17, R125, R130, R134, R136). -/
theorem tankAccountsStayLawful : Obligations.TankAccountsStayLawful :=
  fun _ _ hs hstrapping h => (step_keeps h).accounts ⟨hs, hstrapping⟩

end Sys2Proof.Ledgers
end

section
/-! PROOFS of the statement on a census's reading (R18, R118, R122 to R124, R135, R137, R141, R143): interpolation in a
strapping table; the result a reading gives; the water test, passed over or made, and what the hand-off leaves of every
block. -/

namespace Sys2Proof.Readings

open Sys2Proof Sys2Proof.Machine Sys2Proof.FleetRegister Sys2Proof.ServiceIntervals Sys2Proof.BaySequencing
  Sys2Proof.Censuses Sys2Proof.Quantities

/-! ## Interpolation -/

theorem risingPoints_cons (p q : StrapPoint) (rest : List StrapPoint) : risingPoints (p :: q :: rest) = true ↔
    (p.level < q.level ∧ p.litres ≤ q.litres) ∧ risingPoints (q :: rest) = true := by
  simp [risingPoints, and_assoc]

/-- R126: the first level of a rising table is its least. -/
theorem rising_head_le {p : StrapPoint} {rest : List StrapPoint} (h : risingPoints (p :: rest) = true) :
    ∀ a ∈ p :: rest, p.level ≤ a.level := by
  induction rest generalizing p with
  | nil => simp
  | cons q rest ih =>
    obtain ⟨⟨hlt, -⟩, hrest⟩ := (risingPoints_cons p q rest).1 h
    intro a ha
    rcases List.mem_cons.1 ha with rfl | ha
    · exact le_rfl
    · exact hlt.le.trans (ih hrest a ha)

/-- R18: between two neighbouring points of a rising table the volume is not negative. -/
theorem interpolate_nonneg {p q : StrapPoint} {level : Nat} (hlevels : p.level < q.level) (hlitres : p.litres ≤ q.litres)
    (h : p.level < level) : 0 ≤ interpolate p q level := by
  have hround := convRound_nonneg (a := ((q.litres : Int) - p.litres) * 1000000 * ((level : Int) - p.level))
    (d := (q.level : Int) - p.level) (mul_nonneg (mul_nonneg (by omega) (by decide)) (by omega)) (by omega)
  unfold interpolate
  omega

/-- R18: a level between two neighbouring points takes the volume between them. -/
theorem strapVolumeFrom_between {p : StrapPoint} {rest : List StrapPoint} {level : Nat}
    (h : risingPoints (p :: rest) = true) {i : Nat} {a b : StrapPoint} (ha : (p :: rest)[i]? = some a)
    (hb : (p :: rest)[i + 1]? = some b) (hlow : a.level < level) (hhigh : level ≤ b.level) :
    ∃ v : Nat, strapVolumeFrom p level rest = (v, false) ∧ (v : Int) = interpolate a b level := by
  induction rest generalizing p i with
  | nil => simp at hb
  | cons q rest ih =>
    obtain ⟨⟨hlevels, hlitres⟩, hrest⟩ := (risingPoints_cons p q rest).1 h
    unfold strapVolumeFrom
    cases i with
    | zero =>
      cases ha
      cases hb
      rw [if_pos hhigh]
      exact ⟨_, rfl, Int.toNat_of_nonneg (interpolate_nonneg hlevels hlitres hlow)⟩
    | succ i =>
      have hleast := rising_head_le hrest a (List.mem_of_getElem? ha)
      rw [if_neg (by omega)]
      exact ih hrest ha hb

/-- R18: a level above the last point takes its volume, and lies over the range. -/
theorem strapVolumeFrom_above {p : StrapPoint} {rest : List StrapPoint} {level : Nat}
    (h : risingPoints (p :: rest) = true) {a : StrapPoint} (ha : (p :: rest).getLast? = some a) (hhigh : a.level < level) :
    strapVolumeFrom p level rest = (a.litres * 1000000, true) := by
  induction rest generalizing p with
  | nil =>
    cases ha
    rfl
  | cons q rest ih =>
    obtain ⟨-, hrest⟩ := (risingPoints_cons p q rest).1 h
    rw [List.getLast?_cons_cons] at ha
    have hleast := rising_head_le hrest a (List.mem_of_getLast? ha)
    unfold strapVolumeFrom
    rw [if_neg (by omega)]
    exact ih hrest ha

/-- R18: the interpolation table. -/
theorem strapVolume_table {ps : List StrapPoint} (level : Nat) (h : tablePasses ps = true) :
    (∀ p, ps.head? = some p → level ≤ p.level → strapVolume ps level = some (p.litres * 1000000, false)) ∧
    (∀ i p q, ps[i]? = some p → ps[i + 1]? = some q → p.level < level → level ≤ q.level →
      ∃ v : Nat, strapVolume ps level = some (v, false) ∧ (v : Int) = interpolate p q level) ∧
    (∀ p, ps.getLast? = some p → p.level < level → strapVolume ps level = some (p.litres * 1000000, true)) := by
  cases ps with
  | nil => cases h
  | cons p rest =>
    have hrising : risingPoints (p :: rest) = true := by
      simp only [tablePasses, Bool.and_eq_true] at h
      exact h.2
    have hleast := rising_head_le hrising
    refine ⟨fun a ha hl => ?_, fun i a b ha hb hlow hhigh => ?_, fun a ha hhigh => ?_⟩
    · cases ha
      exact if_pos hl
    · have hbelow := hleast a (List.mem_of_getElem? ha)
      obtain ⟨v, hv, heq⟩ := strapVolumeFrom_between hrising ha hb hlow hhigh
      exact ⟨v, by rw [strapVolume, if_neg (by omega), hv], heq⟩
    · have hbelow := hleast a (List.mem_of_getLast? ha)
      rw [strapVolume, if_neg (by omega), strapVolumeFrom_above hrising ha hhigh]

/-! ## The result of a reading -/

/-- R18, R118: what a tank's complete table gives at a reading's level, and whether the level lies above it. -/
def found (k : Tank) (x : Reading) : Option (Nat × Bool) :=
  match k.strapping with
  | .complete ps => strapVolume ps x.level
  | _ => none

/-- R19: the volumes of a reading that the table gives. -/
def volumesOf (k : Tank) (x : Reading) (v : Nat × Bool) : Volumes :=
  { gross := v.1, net := compensate v.1 x.temp k.settings.expansion }

/-- R122 step 2: the outcome and the volumes of a reading, by the table as it stands. -/
theorem volumeStep_reading (k : Tank) (o : CensusOutcome) (x : Reading) : volumeStep k o (some x) =
    if o = .failed then (.failed, none)
    else (if (found k x).map (·.2) = some true then .overRange else o, (found k x).map (volumesOf k x)) := by
  unfold volumeStep found
  cases o with
  | failed => rfl
  | ok | overRange =>
    cases k.strapping with
    | empty | loading => rfl
    | complete ps =>
      unfold gauged
      rcases hv : strapVolume ps x.level with _ | ⟨g, above⟩
      · simp [hv]
      · cases above <;> simp [hv, volumesOf]

/-- R118: the outcome the reading itself gives. -/
theorem outcome_eq (d : ReadingBlock) : ReadingBlock.outcome d =
    if d.b6 = 0x00 ∧ d.b7 = 0xFF then (if 50000 < beNat [d.b0, d.b1] then .overRange else .ok) else .failed := rfl

/-- R118: the reading's fields, decoded and clamped. -/
theorem reading_eq (d : ReadingBlock) : ReadingBlock.reading d =
    { level := min (beNat [d.b0, d.b1]) 50000, temp := clampTemp (d.b2 ++ d.b3 : BitVec 16).toInt
      water := min (beNat [d.b4, d.b5]) 50000 } := by
  have hsigned : signed16 (beNat [d.b2, d.b3]) = (d.b2 ++ d.b3 : BitVec 16).toInt := by
    have lt2 := d.b2.isLt
    have lt3 := d.b3.isLt
    rw [beNat_two, BitVec.toInt_eq_toNat_cond, append_toNat]
    unfold signed16
    split <;> split <;> omega
  unfold ReadingBlock.reading
  rw [hsigned]

/-- The result of a reading (R122). -/
def resultOf (s : State) (c : CensusInFlight) (d : ReadingBlock) : CensusResult :=
  censusResult s c (ReadingBlock.outcome d) (some (ReadingBlock.reading d))

/-- R118: the probe's two status bytes are those of a good reading. -/
abbrev good (d : ReadingBlock) : Prop := d.b6 = 0x00 ∧ d.b7 = 0xFF

section
variable (s : State) (c : CensusInFlight) (d : ReadingBlock)

/-- R118: a reading fails exactly by its status bytes. -/
theorem outcome_failed_iff : ReadingBlock.outcome d = .failed ↔ ¬good d := by
  rw [outcome_eq]
  unfold good
  repeat' split
  all_goals simp_all

theorem resultOf_failed_iff : (resultOf s c d).outcome = .failed ↔ ¬good d :=
  (volumeStep_failed ..).trans (outcome_failed_iff d)

theorem resultOf_volumeStep : ((resultOf s c d).outcome, (resultOf s c d).volumes) =
    volumeStep (s.tank c.tank) (ReadingBlock.outcome d) (some (ReadingBlock.reading d)) := rfl

theorem resultOf_bad (h : ¬good d) : (resultOf s c d).outcome = .failed ∧ (resultOf s c d).volumes = none := by
  have hstep := resultOf_volumeStep s c d
  rw [volumeStep_reading, if_pos ((outcome_failed_iff d).2 h)] at hstep
  exact Prod.mk.inj hstep

/-- R118, R122: the outcome and the volumes of a good reading. -/
theorem resultOf_good (h : good d) : (resultOf s c d).outcome =
      (if 50000 < beNat [d.b0, d.b1] ∨
          (found (s.tank c.tank) (ReadingBlock.reading d)).map (·.2) = some true then .overRange else .ok) ∧
    (resultOf s c d).volumes = (found (s.tank c.tank) (ReadingBlock.reading d)).map
      (volumesOf (s.tank c.tank) (ReadingBlock.reading d)) := by
  have hstep := resultOf_volumeStep s c d
  rw [volumeStep_reading, if_neg fun hf => (outcome_failed_iff d).1 hf h] at hstep
  obtain ⟨houtcome, hvolumes⟩ := Prod.mk.inj hstep
  refine ⟨?_, hvolumes⟩
  have hd : ReadingBlock.outcome d = if 50000 < beNat [d.b0, d.b1] then .overRange else .ok :=
    (outcome_eq d).trans (if_pos h)
  rw [houtcome, hd]
  by_cases hlevel : 50000 < beNat [d.b0, d.b1]
  · simp only [hlevel, true_or, if_true, ite_self]
  · simp only [hlevel, false_or, if_false]

/-- R19: the net volume of a reading, whose temperature is clamped already. -/
theorem volumesOf_reading (k : Tank) (v : Nat × Bool) : volumesOf k (ReadingBlock.reading d) v = Volumes.mk v.1
    (convRound (v.1 * (10000000 - k.settings.expansion * ((ReadingBlock.reading d).temp - 150))) 10000000) := by
  have hclamped : clampTemp (ReadingBlock.reading d).temp = (ReadingBlock.reading d).temp :=
    clampTemp_inside (clampTemp_lawful _)
  unfold volumesOf compensate
  rw [hclamped]
  rfl

/-- R122, R123: a result is still when the census began so, no delivery is recorded and no bay on the tank moves fuel. -/
theorem resultOf_still : (resultOf s c d).still = true ↔ c.stillAtStart = true ∧ (s.tank c.tank).delivery = none ∧
    ∀ b, (s.bay b).settings.tank = c.tank →
      (s.bay b).state ≠ .flowing ∧ (s.bay b).state ≠ .trimming ∧ (s.bay b).state ≠ .closing := by
  have hmoving : s.anyBayOn c.tank BayState.moving = false ↔ ∀ b, (s.bay b).settings.tank = c.tank →
      (s.bay b).state ≠ .flowing ∧ (s.bay b).state ≠ .trimming ∧ (s.bay b).state ≠ .closing := by
    simp only [← moving_false_iff, ← Bool.not_eq_true, anyBayOn_iff, not_exists, not_and]
  have hstill : (resultOf s c d).still = (c.stillAtStart && s.tankQuiet c.tank) := rfl
  rw [hstill, ← hmoving]
  simp only [State.tankQuiet, Tank.receiving, Bool.and_eq_true, Bool.not_eq_true', Option.isSome_eq_false_iff,
    Option.isNone_iff_eq_none]
  tauto

end

/-! ## The water test, made or passed over -/

/-- R137: the water test of a result on an account sets the hold. -/
def wet (r : CensusResult) (level : Nat) (k : Tank) : Bool :=
  decide (r.outcome = .ok) && decide (k.settings.waterLimit < level) && !k.waterHold

/-- R137: an account after the water test. -/
def watered (r : CensusResult) (level : Nat) (k : Tank) : Tank :=
  { k with waterHold := k.waterHold || (decide (r.outcome = .ok) && decide (k.settings.waterLimit < level)) }

/-- R135 step 4: the state after the water test, if the result undergoes one. -/
def afterWater (r : CensusResult) (level : Nat) (s : State) : State :=
  if r.outcome = .ok then s.waterTest r.tank level else s

theorem wet_iff (r : CensusResult) (level : Nat) (k : Tank) : wet r level k = true ↔
    r.outcome = .ok ∧ k.settings.waterLimit < level ∧ k.waterHold = false := by
  simp [wet, and_assoc]

theorem watered_wet {r : CensusResult} {level : Nat} {k : Tank} (h : wet r level k = true) :
    watered r level k = { k with waterHold := true } := by
  obtain ⟨hok, hlimit, -⟩ := (wet_iff r level k).1 h
  simp [watered, hok, hlimit]

theorem watered_dry {r : CensusResult} {level : Nat} {k : Tank} (h : wet r level k = false) : watered r level k = k := by
  have hsame : (k.waterHold || (decide (r.outcome = .ok) && decide (k.settings.waterLimit < level))) = k.waterHold := by
    rw [wet] at h
    revert h
    cases k.waterHold <;> cases decide (r.outcome = .ok) <;> cases decide (k.settings.waterLimit < level) <;> decide
  rw [watered, hsame]

/-- R135: a result with a reading undergoes the water test, then the variance test. -/
theorem censusTests_eq_entered (s : State) {r : CensusResult} {x : Reading} (hx : r.reading = some x) :
    s.censusTests r = entered (afterWater r x.water s) r.tank (checked r ((afterWater r x.water s).tank r.tank))
      (checkedEvents r.tank r ((afterWater r x.water s).tank r.tank)) := by
  unfold afterWater checked checkedEvents
  by_cases hok : r.outcome = .ok
  · rw [if_pos hok, censusTests_eq, testsWith_ok _ _ s hok hx]
    cases testedNet r with
    | none => rw [Option.elim_none, Option.elim_none, Option.elim_none, entered_self]
    | some net => rw [Option.elim_some, Option.elim_some, Option.elim_some, varianceTest_eq]
  · rw [if_neg hok, censusTests_untested s hok, testedNet_none (.inl hok), Option.elim_none, Option.elim_none, entered_self]

/-- R137: a result that is not OK, or below the limit, or on a hold that stands, sets nothing. -/
theorem afterWater_dry {r : CensusResult} {level : Nat} {s : State} (h : wet r level (s.tank r.tank) = false) :
    afterWater r level s = s := by
  unfold afterWater
  split
  · rename_i hok
    refine if_neg fun hwater => ?_
    rw [(wet_iff ..).2 ⟨hok, hwater⟩] at h
    cases h
  · rfl

/-- R137: the bays whose GRANTED issue the water test ends. -/
def endsOn (t : TankId) (y : Bay) : Bool := decide (y.settings.tank = t) && y.state == .granted

/-- R137: what the water test makes of the other bays. -/
def closedOn (t : TankId) (y : Bay) : Bay := if y.settings.tank = t then closedIfOpen .tank y else y

/-- R137: the hold set and WATER logged, then the bays treated. -/
theorem afterWater_wet {r : CensusResult} {level : Nat} {s : State} (h : wet r level (s.tank r.tank) = true) :
    afterWater r level s = bayList.foldl (treat .tank (endsOn r.tank) (closedOn r.tank))
      (entered s r.tank { s.tank r.tank with waterHold := true } [.water r.tank level]) := by
  obtain ⟨hok, hwater⟩ := (wet_iff ..).1 h
  have hcloses := closeForWater_eq (entered s r.tank { s.tank r.tank with waterHold := true } [.water r.tank level]) r.tank
  exact (if_pos hok).trans ((if_pos hwater).trans hcloses)

/-- What the water test may change besides its tank's account. -/
theorem afterWater_changes (r : CensusResult) (level : Nat) (s : State) : afterWater r level s =
    { issueParts s (afterWater r level s) with tanks := s.tanks.set r.tank (watered r level (s.tank r.tank)) } := by
  cases h : wet r level (s.tank r.tank) with
  | false =>
    rw [afterWater_dry h, watered_dry h, State.tank, perTank_set_get]
    rfl
  | true =>
    have hchanges := foldl_treat_changes .tank (endsOn r.tank) (closedOn r.tank) bayList
      (entered s r.tank { s.tank r.tank with waterHold := true } [.water r.tank level])
    rw [← afterWater_wet h] at hchanges
    rw [watered_wet h]
    exact hchanges

/-- R124: the water test changes no failure count and no flag of a census due. -/
theorem afterWater_probeTank (r : CensusResult) (level : Nat) (s : State) (q : TankId) :
    (afterWater r level s).probeTank q =
      { s.probeTank q with settle := ((afterWater r level s).probeTank q).settle } := by
  cases h : wet r level (s.tank r.tank) with
  | false => rw [afterWater_dry h]
  | true =>
    rw [afterWater_wet h]
    exact (foldl_treat_settling .tank _ _ (l := bayList) (by decide) _ q).keeps

/-- R137: what a result that sets the hold makes of the bays, the issues and the events. -/
structure Soaked (t : TankId) (level : Nat) (s w : State) : Prop where
  off : ∀ b, (s.bay b).settings.tank ≠ t → w.bay b = s.bay b
  shut : ∀ b, (s.bay b).settings.tank = t → (s.bay b).state ≠ .granted → (s.bay b).state.valveOpen = false →
    w.bay b = s.bay b
  opened : ∀ b, (s.bay b).settings.tank = t → (s.bay b).state.valveOpen = true → w.bay b = (s.bay b).toClosing .tank
  granted : ∀ b, (s.bay b).settings.tank = t → (s.bay b).state = .granted → (w.bay b).cause = some .tank ∧
    ((w.bay b).flags.fault = none → (w.bay b).state = .idle) ∧
    ((w.bay b).flags.fault ≠ none → (w.bay b).state = .faulted)
  records : ∃ new, w.journal.issues.records = s.journal.issues.records ++ new ∧
    new.map (·.bay) = bayList.filter (fun b => decide ((s.bay b).settings.tank = t) && (s.bay b).state == .granted) ∧
    ∀ i ∈ new, i.cause = .tank
  events : ∃ ks, Logs s w ([.water t level] ++ ks) ∧ ∀ e ∈ ks, ∃ b, (s.bay b).settings.tank = t ∧
    (s.bay b).state = .granted ∧
    ((∃ code st, e = .service (s.bay b).serving.tag code st) ∨ ∃ q, e = .bayFault b q)

/-- R87: the bay a GRANTED issue leaves that ends with cause TANK. -/
theorem treated_granted {s : State} {b : BayId} {t : TankId} (ht : (s.bay b).settings.tank = t)
    (hg : (s.bay b).state = .granted) :
    treated .tank (endsOn t) (closedOn t) (s.bay b) = endedBay .tank (s.bay b) := by
  have hends : endsOn t (s.bay b) = true := by simp [endsOn, ht, hg]
  rw [treated, if_pos hends, ← State.complete_bay_same]
  exact complete_ended (by decide) rfl

theorem endedBay_granted {c : CloseCause} {y : Bay} (hg : y.state = .granted) : (endedBay c y).cause = some c ∧
    ((endedBay c y).flags.fault = none → (endedBay c y).state = .idle) ∧
    ((endedBay c y).flags.fault ≠ none → (endedBay c y).state = .faulted) := by
  refine ⟨rfl, fun hf => ((endedBay_sound hf).2.1 (.inl hg)).1, fun hf => ?_⟩
  obtain ⟨q, hq⟩ := Option.ne_none_iff_exists'.1 hf
  exact (endedBay_faulted hq).1

theorem afterWater_soaked {r : CensusResult} {level : Nat} {s : State} (h : wet r level (s.tank r.tank) = true) :
    Soaked r.tank level s (afterWater r level s) := by
  let u := entered s r.tank { s.tank r.tank with waterHold := true } [.water r.tank level]
  have hbay : ∀ b, (afterWater r level s).bay b = treated .tank (endsOn r.tank) (closedOn r.tank) (s.bay b) := by
    intro b
    rw [afterWater_wet h, foldl_treat_bay _ _ _ (by decide), if_pos (mem_bayList b)]
    rfl
  obtain ⟨new, ks, hrec⟩ := foldl_treat_recorded .tank (endsOn r.tank) (closedOn r.tank) (l := bayList) (by decide) u
  have hstamp := foldl_treat_stamp .tank (endsOn r.tank) (closedOn r.tank) bayList u
  refine ⟨fun b ht => ?_, fun b ht hg ho => ?_, fun b ht ho => ?_, fun b ht hg => ?_, ⟨new, ?_, hrec.bays, fun i hi => ?_⟩,
    ks, ?_, fun e he => ?_⟩
  · rw [hbay]
    simp [treated, endsOn, closedOn, ht]
  · rw [hbay]
    simp [treated, endsOn, closedOn, closedIfOpen, hg, ho]
  · have hg : (s.bay b).state ≠ .granted := fun hg => by rw [hg] at ho; cases ho
    rw [hbay]
    simp [treated, endsOn, closedOn, closedIfOpen, hg, ho, ht]
  · rw [hbay, treated_granted ht hg]
    exact endedBay_granted hg
  · have hissues : u.journal.issues = s.journal.issues := (s.journalAfter_issues [.water r.tank level]).1
    rw [afterWater_wet h, hrec.records, hissues]
  · exact (hrec.fields i hi).1
  · rw [afterWater_wet h]
    exact (logs_entered ..).trans ⟨hrec.events, hrec.overwrites, hrec.span, hstamp⟩
  · obtain ⟨b, -, hends, hkind⟩ := hrec.kinds e he
    simp only [endsOn, Bool.and_eq_true, decide_eq_true_iff, beq_iff_eq] at hends
    exact ⟨b, hends.1, hends.2, hkind.imp_right (·.2)⟩

/-! ## What a result does to its account -/

/-- R141, R143: what moves the delivery is one thing, the result's own entries are another. -/
theorem moved_takeResult (r : CensusResult) (own : Bool) (net : Option Int) (k : Tank) :
    moved own net (k.takeResult r) = { moved own net k with
      latestCensus := some r, lastGoodTemp := (k.takeResult r).lastGoodTemp } := by
  obtain ⟨_, _, _, _, _, _, _, _, _, _, _, delivery⟩ := k
  rcases own with _ | _ <;> rcases delivery with _ | ⟨_ | _ | _, _, _, _, _⟩ <;> rfl

/-- R135: the last good temperature a reading leaves. -/
theorem takeResult_lastGoodTemp {r : CensusResult} {x : Reading} (hx : r.reading = some x) (k : Tank) :
    (k.takeResult r).lastGoodTemp = if r.outcome = .failed then k.lastGoodTemp else some x.temp := by
  unfold Tank.takeResult
  rw [hx]
  cases r.outcome <;> rfl

/-- R135, R137: the moves of a delivery leave the account's settings and its water hold. -/
theorem moved_keeps (own : Bool) (net : Option Int) (k : Tank) :
    (moved own net k).settings = k.settings ∧ (moved own net k).waterHold = k.waterHold := by
  unfold moved
  repeat' split
  all_goals exact ⟨rfl, rfl⟩

/-- R135 to R137: an account before its variance test. -/
theorem watered_accounted {r : CensusResult} {x : Reading} (hx : r.reading = some x) (own : Bool) (k : Tank) :
    watered r x.water (accounted r own k) = { moved own (r.volumes.map (·.net)) k with
      latestCensus := some r
      lastGoodTemp := if r.outcome = .failed then k.lastGoodTemp else some x.temp
      waterHold := k.waterHold || (decide (r.outcome = .ok) && decide (k.settings.waterLimit < x.water)) } := by
  obtain ⟨hsettings, hhold⟩ := moved_keeps own (r.volumes.map (·.net)) k
  rw [accounted, moved_takeResult, takeResult_lastGoodTemp hx, watered]
  dsimp only
  rw [hsettings, hhold]

theorem wet_accounted (r : CensusResult) (level : Nat) (own : Bool) (k : Tank) :
    wet r level (accounted r own k) = wet r level k := by
  obtain ⟨hsettings, hhold⟩ := moved_keeps own (r.volumes.map (·.net)) k
  rw [accounted, moved_takeResult]
  unfold wet
  dsimp only
  rw [hsettings, hhold]

/-- R136: the variance test writes three fields of an account. -/
theorem checked_same (r : CensusResult) (k : Tank) : checked r k = { k with
    strikes := (checked r k).strikes, latestVariance := (checked r k).latestVariance
    varianceHold := (checked r k).varianceHold } := by
  unfold checked
  cases testedNet r with
  | none => rfl
  | some net =>
    obtain ⟨v, n, hold, hkeeps⟩ := tested_keeps net k
    rw [Option.elim_some, hkeeps]

/-- R136: a variance test logs one event at the most, VARIANCE. -/
theorem checkedEvents_variance (t : TankId) (r : CensusResult) (k : Tank) :
    (checkedEvents t r k).length ≤ 1 ∧ ∀ e ∈ checkedEvents t r k, ∃ cl, e = .variance t cl := by
  unfold checkedEvents
  cases testedNet r with
  | none => simp
  | some net =>
    rw [Option.elim_some, testedEvents]
    split <;> simp

/-! ## The hand-off of a reading -/

section
variable (s : State) (c : CensusInFlight) (d : ReadingBlock)

/-- R122, R124: the events of a hand-off before its tests: the gauge's, then the delivery's. -/
def entryEvents : List EventKind :=
  gaugeEvent c.tank (decide (ReadingBlock.outcome d = .failed)) (s.probeTank c.tank).failures ++
    movedEvents c.tank c.own ((resultOf s c d).volumes.map (·.net)) (s.tank c.tank)

/-- R122, R124, R135: the state that undergoes the tests. -/
def entry : State :=
  { s with
    probe := { s.probe with
      tanks := s.probe.tanks.set c.tank { s.probeTank c.tank with
        failures := nextFailures (decide (ReadingBlock.outcome d = .failed)) (s.probeTank c.tank).failures }
      busActs := s.probe.busActs ++ completionActs c.address }
    tanks := s.tanks.set c.tank (accounted (resultOf s c d) c.own (s.tank c.tank))
    journal := s.journalAfter (entryEvents s c d) }

/-- R135: the state after the water test. -/
def soaked : State := afterWater (resultOf s c d) (ReadingBlock.reading d).water (entry s c d)

/-- R135: the account after the water test. -/
def account : Tank :=
  watered (resultOf s c d) (ReadingBlock.reading d).water (accounted (resultOf s c d) c.own (s.tank c.tank))

/-- R135 to R137: the account of a reading before its variance test. -/
theorem account_eq : account s c d = { moved c.own ((resultOf s c d).volumes.map (·.net)) (s.tank c.tank) with
    latestCensus := some (resultOf s c d)
    lastGoodTemp := if good d then some (ReadingBlock.reading d).temp else (s.tank c.tank).lastGoodTemp
    waterHold := (s.tank c.tank).waterHold || (decide ((resultOf s c d).outcome = .ok) &&
      decide ((s.tank c.tank).settings.waterLimit < (ReadingBlock.reading d).water)) } := by
  have htemp : (if (resultOf s c d).outcome = .failed then (s.tank c.tank).lastGoodTemp
      else some (ReadingBlock.reading d).temp) =
      if good d then some (ReadingBlock.reading d).temp else (s.tank c.tank).lastGoodTemp := by
    simp only [resultOf_failed_iff, ite_not]
  rw [account, watered_accounted (x := ReadingBlock.reading d) rfl, htemp]

/-- R136: the counts of the variance test are not touched before it. -/
theorem account_counts : (account s c d).strikes = (s.tank c.tank).strikes ∧
    (account s c d).latestVariance = (s.tank c.tank).latestVariance ∧
    (account s c d).varianceHold = (s.tank c.tank).varianceHold := by
  obtain ⟨_, _, _, hkeeps⟩ := accounted_keeps (resultOf s c d) c.own (s.tank c.tank)
  rw [account, hkeeps]
  exact ⟨rfl, rfl, rfl⟩

theorem entry_tank : (entry s c d).tank c.tank = accounted (resultOf s c d) c.own (s.tank c.tank) :=
  PerTank.get_set_same ..

theorem soaked_changes : soaked s c d =
    { issueParts (entry s c d) (soaked s c d) with tanks := s.tanks.set c.tank (account s c d) } := by
  have hchanges := afterWater_changes (resultOf s c d) (ReadingBlock.reading d).water (entry s c d)
  rw [show (resultOf s c d).tank = c.tank from rfl, entry_tank,
    show (entry s c d).tanks = s.tanks.set c.tank (accounted (resultOf s c d) c.own (s.tank c.tank)) from rfl,
    perTank_set_set] at hchanges
  exact hchanges

theorem soaked_tank : (soaked s c d).tank c.tank = account s c d := by
  rw [soaked_changes]
  exact PerTank.get_set_same ..

/-- R122, R135: the hand-off of a reading: the entries, the water test, the variance test, the end of the census. -/
theorem completes_eq : s.censusCompletes c d =
    (entered (soaked s c d) c.tank (checked (resultOf s c d) (account s c d))
      (checkedEvents c.tank (resultOf s c d) (account s c d))).endCensus c.tank := by
  have hfailed : (ReadingBlock.outcome d == .failed) = decide (ReadingBlock.outcome d = .failed) := by
    cases ReadingBlock.outcome d <;> rfl
  have hentry : entered ((s.drive (completionActs c.address)).gaugeStep c.tank (decide (ReadingBlock.outcome d = .failed)))
      c.tank (accounted (resultOf s c d) c.own (s.tank c.tank))
      (movedEvents c.tank c.own ((resultOf s c d).volumes.map (·.net)) ((s.tank c.tank).takeResult (resultOf s c d))) =
      entry s c d := by
    rw [gaugeStep_eq, entry, entryEvents, State.journalAfter_append]
    rfl
  have hresult : censusResult (s.drive (completionActs c.address)) c (ReadingBlock.outcome d)
      (some (ReadingBlock.reading d)) = resultOf s c d := rfl
  have htests := censusTests_eq_entered (entry s c d) (r := resultOf s c d) (x := ReadingBlock.reading d) rfl
  have hend : s.censusCompletes c d = ((entry s c d).censusTests (resultOf s c d)).endCensus c.tank := by
    rw [← hentry]
    unfold State.censusCompletes State.handOff State.takeResult
    dsimp only
    rw [hfailed, censusResult_gauged, hresult,
      beforeTests_eq (s.drive (completionActs c.address)) c.tank _ c.own (resultOf s c d) rfl]
    rfl
  rw [hend, htests, ← soaked_tank]
  rfl

theorem completes_tank : (s.censusCompletes c d).tank c.tank = checked (resultOf s c d) (account s c d) := by
  rw [completes_eq]
  exact PerTank.get_set_same ..

theorem completes_otherTank : (s.censusCompletes c d).tank (otherTank c.tank) = s.tank (otherTank c.tank) := by
  rw [completes_eq, State.endCensus, entered, soaked_changes, perTank_set_set]
  exact PerTank.get_set_other _ _ _ _ (otherTank_ne c.tank)

/-- R121: a census leaves the controller free and its tank the one last served. -/
theorem completes_probe : (s.censusCompletes c d).probe = { s.probe with
    inFlight := none, lastServed := c.tank, tanks := (s.censusCompletes c d).probe.tanks
    busActs := s.probe.busActs ++ completionActs c.address } := by
  rw [completes_eq, State.endCensus, entered, soaked_changes]
  rfl

theorem completes_changes : s.censusCompletes c d = { s with
    probe := (s.censusCompletes c d).probe, tanks := (s.censusCompletes c d).tanks
    bays := (s.censusCompletes c d).bays, fleet := (s.censusCompletes c d).fleet
    journal := (s.censusCompletes c d).journal, yard := { s.yard with tx := (s.censusCompletes c d).yard.tx } } := by
  rw [completes_eq, State.endCensus, entered, soaked_changes]
  rfl

/-- R124: what a hand-off leaves of the Probe Bus Controller's tanks. -/
theorem completes_probeTank (q : TankId) : (s.censusCompletes c d).probeTank q =
    { (entry s c d).probeTank q with settle := ((s.censusCompletes c d).probeTank q).settle } := by
  have hprobe : (s.censusCompletes c d).probeTank q = (soaked s c d).probeTank q := by
    rw [completes_eq]
    rfl
  rw [hprobe]
  exact afterWater_probeTank ..

theorem entry_want (q : TankId) : ((entry s c d).probeTank q).want = (s.probeTank q).want := by
  by_cases h : q = c.tank
  · rw [h, State.probeTank, entry, PerTank.get_set_same]
  · rw [State.probeTank, entry, PerTank.get_set_other _ _ _ _ h]
    rfl

end

/-! ## The hand-off, dry and wet -/

section
variable {s : State} {c : CensusInFlight} {d : ReadingBlock}

/-- R124: the failure count after a reading. -/
theorem entry_failures : ((entry s c d).probeTank c.tank).failures =
    nextFailures (decide (ReadingBlock.outcome d = .failed)) (s.probeTank c.tank).failures := by
  rw [State.probeTank, entry, PerTank.get_set_same]

theorem entry_otherFailures :
    ((entry s c d).probeTank (otherTank c.tank)).failures = (s.probeTank (otherTank c.tank)).failures := by
  rw [State.probeTank, entry, PerTank.get_set_other _ _ _ _ (otherTank_ne c.tank)]
  rfl

theorem entry_settle (q : TankId) : ((entry s c d).probeTank q).settle = (s.probeTank q).settle := by
  by_cases h : q = c.tank
  · rw [h, State.probeTank, entry, PerTank.get_set_same]
  · rw [State.probeTank, entry, PerTank.get_set_other _ _ _ _ h]
    rfl

/-- R122, R124: the events of a hand-off before its tests are logged on the state it begins in. -/
theorem entry_logs : Logs s (entry s c d) (entryEvents s c d) := .of_journal rfl rfl

theorem entry_issues : (entry s c d).journal.issues = s.journal.issues := (s.journalAfter_issues _).1

/-- R137: the water test of the hand-off asks for the account as it stood before. -/
theorem wet_entry : wet (resultOf s c d) (ReadingBlock.reading d).water ((entry s c d).tank (resultOf s c d).tank) =
    wet (resultOf s c d) (ReadingBlock.reading d).water (s.tank c.tank) := by
  rw [show (resultOf s c d).tank = c.tank from rfl, entry_tank, wet_accounted]

/-- R135, R136: a hand-off that sets no hold. -/
theorem completes_dry (h : wet (resultOf s c d) (ReadingBlock.reading d).water (s.tank c.tank) = false) :
    (s.censusCompletes c d).bays = s.bays ∧ (s.censusCompletes c d).fleet = s.fleet ∧
    (s.censusCompletes c d).yard = s.yard ∧
    (∀ q, ((s.censusCompletes c d).probeTank q).settle = (s.probeTank q).settle) ∧
    (s.censusCompletes c d).journal =
      s.journalAfter (entryEvents s c d ++ checkedEvents c.tank (resultOf s c d) (account s c d)) := by
  have hsoaked : soaked s c d = entry s c d := afterWater_dry (wet_entry.trans h)
  rw [completes_eq, hsoaked, State.journalAfter_append]
  exact ⟨rfl, rfl, rfl, entry_settle, rfl⟩

/-- R137: a hand-off that sets the hold ends the issues on its tank. -/
theorem soaked_wet (h : wet (resultOf s c d) (ReadingBlock.reading d).water (s.tank c.tank) = true) :
    Soaked c.tank (ReadingBlock.reading d).water (entry s c d) (soaked s c d) :=
  afterWater_soaked (wet_entry.trans h)

theorem completes_bay (b : BayId) : (s.censusCompletes c d).bay b = (soaked s c d).bay b := by
  rw [completes_eq]
  rfl

theorem completes_issues : (s.censusCompletes c d).journal.issues = (soaked s c d).journal.issues := by
  rw [completes_eq]
  exact ((soaked s c d).journalAfter_issues _).1

/-- R124, R137, R143: the events of a hand-off that sets the hold, in their order. -/
theorem completes_events {ls : List EventKind} (h : Logs (entry s c d) (soaked s c d) ls) :
    (s.censusCompletes c d).journal.events = (s.journalAfter (entryEvents s c d ++ ls ++
      checkedEvents c.tank (resultOf s c d) (account s c d))).events := by
  rw [completes_eq]
  have hlogs := (entry_logs.trans h).trans (logs_entered (soaked s c d) c.tank
    (checked (resultOf s c d) (account s c d)) (checkedEvents c.tank (resultOf s c d) (account s c d)))
  exact hlogs.events

end

/-- R141, R143: the delivery moved, as the statement writes it. -/
theorem moved_eq (own : Bool) (net : Option Int) (k : Tank) : moved own net k =
    match (if own then k.delivery else none : Option Delivery) with
    | some q => match q.phase with
      | .awaitingPre => { k with delivery := some { q with preNet := net, phase := .opened } }
      | .opened => k
      | .completing =>
        { k with book := credited k q, delivery := none, standing := formStanding k.settings (credited k q) }
    | none => k := by
  unfold moved
  cases own with
  | false => rfl
  | true =>
    rw [if_pos rfl]
    rcases k.delivery with _ | q
    · rfl
    · cases q.phase <;> rfl

/-- R143: the events of the delivery, as the statement writes them. -/
theorem movedEvents_eq (t : TankId) (own : Bool) (net : Option Int) (k : Tank) : movedEvents t own net k =
    match (if own then k.delivery else none : Option Delivery) with
    | some q => if q.phase = .completing then closingEvents t k q net else []
    | none => [] := by
  unfold movedEvents
  cases own with
  | false => rfl
  | true =>
    rw [if_pos rfl]
    rcases k.delivery with _ | q <;> rfl

/-- R124: the gauge event of a reading. -/
theorem gaugeEvent_reading (t : TankId) (d : ReadingBlock) (n : Nat) :
    gaugeEvent t (decide (ReadingBlock.outcome d = .failed)) n =
      if good d then (if n = 3 then [.gaugeRestored t] else []) else (if n = 2 then [.gaugeLost t] else []) := by
  simp only [gaugeEvent, decide_eq_true_iff, outcome_failed_iff, ite_not]

theorem nextFailures_reading (d : ReadingBlock) (n : Nat) :
    nextFailures (decide (ReadingBlock.outcome d = .failed)) n = if good d then 0 else min (n + 1) 3 := by
  simp only [nextFailures, decide_eq_true_iff, outcome_failed_iff, ite_not]

/-- Settles O51: a reading is decoded, handed off and tested; its tank's table is interpolated (R18, R118, R122 to R124,
R135, R137, R141, R143). -/
theorem censusResultIsHandedOver : Obligations.CensusResultIsHandedOver := by
  refine ⟨fun s c d hpower hc hwait => ?_, fun ps level h => strapVolume_table level h⟩
  intro k p isGood level x tableAt gauge own credit moves closing on
  have hx : x = ReadingBlock.reading d := (reading_eq d).symm
  have htable : tableAt = found k (ReadingBlock.reading d) := by
    rw [← hx]
    rfl
  have hmoves : ∀ net, moves net = moved c.own net k := fun net => (moved_eq c.own net k).symm
  have hclosing : ∀ net, closing net = movedEvents c.tank c.own net k := fun net => (movedEvents_eq c.tank c.own net k).symm
  have hgauge : gauge = gaugeEvent c.tank (decide (ReadingBlock.outcome d = .failed)) p.failures :=
    (gaugeEvent_reading c.tank d p.failures).symm
  refine ⟨s.censusCompletes c d, resultOf s c d, checkedEvents c.tank (resultOf s c d) (account s c d),
    exec_censusTransaction d hpower hc hwait, rfl, rfl, rfl, congrArg some hx.symm, resultOf_bad s c d, fun hgood => ?_,
    resultOf_still s c d, ?_⟩
  · obtain ⟨houtcome, hvolumes⟩ := resultOf_good s c d hgood
    rw [htable, hx]
    refine ⟨houtcome, hvolumes.trans ?_⟩
    rw [funext (volumesOf_reading d (s.tank c.tank))]
  intro net
  have hentry : gauge ++ closing net = entryEvents s c d := by rw [hgauge, hclosing]; rfl
  obtain ⟨hlength, hvariance⟩ := checkedEvents_variance c.tank (resultOf s c d) (account s c d)
  refine ⟨?_, completes_otherTank s c d, hlength, hvariance, fun hnot => ?_, completes_probe s c d, ?_, ?_, fun q => ?_,
    completes_changes s c d, fun hdry => ?_, fun hok hlimit hhold => ?_⟩
  · rw [completes_tank, hmoves, hx, checked_same]
    exact congrArg (fun a : Tank => { a with
      strikes := (checked (resultOf s c d) (account s c d)).strikes
      latestVariance := (checked (resultOf s c d) (account s c d)).latestVariance
      varianceHold := (checked (resultOf s c d) (account s c d)).varianceHold }) (account_eq s c d)
  · rw [completes_tank, checked, checkedEvents, testedNet_none hnot]
    exact ⟨rfl, account_counts s c d⟩
  · rw [completes_probeTank]
    exact entry_failures.trans (nextFailures_reading ..)
  · rw [completes_probeTank]
    exact entry_otherFailures
  · rw [completes_probeTank]
    exact entry_want s c d q
  · rw [hentry]
    refine completes_dry (Bool.eq_false_iff.2 fun hwet => ?_)
    obtain ⟨hok, hlimit, hhold⟩ := (wet_iff ..).1 hwet
    rw [← hx] at hlimit
    rcases hdry with h | h | h
    · exact h hok
    · exact absurd hlimit (not_lt.2 h)
    · exact absurd h (by rw [hhold]; decide)
  · have hwet : wet (resultOf s c d) (ReadingBlock.reading d).water k = true :=
      (wet_iff ..).2 ⟨hok, hx ▸ hlimit, hhold⟩
    obtain ⟨off, shut, opened, granted, records, ks, hlogs, hkinds⟩ := soaked_wet hwet
    simp only [completes_bay, completes_issues]
    rw [entry_issues] at records
    refine ⟨off, shut, opened, granted, records, ks, ?_, hkinds⟩
    rw [hentry, completes_events hlogs, hx]
    simp only [List.append_assoc]

end Sys2Proof.Readings
end
